-- ==== Sys2Proof/Word.lean ====
section
/-! DEFINITION. Sys2Proof/Word.lean: the word types of the VLT648 and the indexes of its units (Table SCO-2, Table SCO-3 of spec/00_scope.md). -/
namespace Sys2Proof

/-- Eight bits, as a log entry or an image stores them. -/
abbrev Byte := BitVec 8

/-- Sixteen bits. -/
abbrev Half := BitVec 16

/-- A word: 32 bits (Table SCO-3). -/
abbrev Word := BitVec 32

/-- A program step: one 64-bit word (Table SCO-3). -/
abbrev StepWord := BitVec 64

/-- A tenant, 0 to 3 (Table SCO-2). -/
abbrev TenantId := Fin 4

/-- A bench, BENCH_0 to BENCH_7 (Table SCO-2). -/
abbrev BenchId := Fin 8

/-- A sense channel, 0 to 15 (Table SCO-2). -/
abbrev SenseId := Fin 16

/-- A serial audio port, SAP_0 to SAP_7 (Table SCO-2). -/
abbrev SapId := Fin 8

/-- A continuous control input or a binary strap as it is observed against its band: at or below VIL, between, at or
above VIH (R26, R55). -/
inductive PinLevel where
  | low
  | band
  | high
  deriving DecidableEq, Repr

/-- What stands at a control input: its voltage in mV, none where it is open, and VDD_IO_A in mV, to which its comparator refers
(R26, R451). -/
structure PinInput where
  mv : Option Nat
  vddIo : Nat
  deriving DecidableEq, Repr

/-- What the SECDED decoder makes of one read (R173, R281 of spec/11_pit_windows.md): no error; a single-bit error,
corrected; a detected uncorrectable error; and, for an error of three or more bits, a miscorrection to another word or
another word passed as clean. Which one a read meets is the environment's. -/
inductive EccRead where
  | clean
  | corrected
  | uncorrectable
  | miscorrected (v : Word)
  | silent (v : Word)
  deriving DecidableEq, Repr

end Sys2Proof
end

