-- ==== Sys2Proof/Syntax.lean ====
section
/-! DEFINITION. Sys2Proof/Syntax.lean: the commands, one constructor for each row of spec/opcode_table.json, with the
observation each command's rule judges (spec/95_what_each_step_holds.md). -/
namespace Sys2Proof

/-- What the STRAP phase samples (R20 to R26): the voltage of each coded pin at its 16 conversions in steps of 0.1 mV, the voltage of
DEVEL and of PROV_N at 16 samples in mV with VDD_IO_A, and the junction temperature in °C. -/
structure StrapReadings where
  volts : Vector (Vector Nat 16) 8
  devel : Vector Nat 16
  provN : Vector Nat 16
  vddIo : Nat
  temp : Int
  deriving DecidableEq, Repr

/-- How a region's head slot reads at the opening of the log (R413): as stored, with other bytes, or uncorrectable with
the 64 bytes it returns. -/
inductive HeadRead where
  | stored
  | altered (bytes : Vector Byte 64)
  | uncorrectable (bytes : Vector Byte 64)
  deriving DecidableEq, Repr

/-- What the TRUST work meets (R49, R50, R413): OTP read, the two known-answer tests, whether the NV memory answers, the
two head slots, and the junction temperature in °C at its end. -/
structure TrustWork where
  otpOk : Bool
  shaOk : Bool
  ecdsaOk : Bool
  nvAnswers : Bool
  protectedHead : HeadRead
  generalHead : HeadRead
  temp : Int
  deriving DecidableEq, Repr

/-- Where a full reset or a wedge cuts the writer (R409, R412, R413, R430): not at all; with the slot of a record WRITING; or with that slot VALID and the
copy of the counter block incomplete. The record is the k-th of those that go with the entry being committed, its anchors first. -/
inductive CommitCut where
  | none
  | slot (k : Nat)
  | counters (k : Nat)
  deriving DecidableEq, Repr

/-- Where the loop holds the tuning voltage at the end of a lock attempt (R79). -/
inductive VtLimit where
  | none
  | lower
  | upper
  deriving DecidableEq, Repr

/-- The end of one lock attempt (R79): whether the phase error stayed in range, VT in mV as converted, and whether the
loop drove VT to a limit. -/
structure LockAttempt where
  reached : Bool
  vt : Nat
  limit : VtLimit
  deriving DecidableEq, Repr

/-- Why lock is lost (R82): the smallest magnitude in ns of `count` consecutive phase errors, or missing edges. -/
inductive LockLoss where
  | phaseError (ns count : Nat)
  | missingEdges (count : Nat)
  deriving DecidableEq, Repr

/-- A shared island (Table FLT-3). -/
inductive SharedIsland where
  | pit
  | ring
  | port (t : TenantId)
  | audio
  | sense
  | weighbridge
  deriving DecidableEq, Repr

/-- The fields of a step word other than its opcode (Table BEN-2). -/
structure StepFields where
  sel : BitVec 3
  inv : Bool
  sat : Bool
  dst : BitVec 5
  sa : BitVec 5
  sb : BitVec 5
  ext : BitVec 38
  deriving DecidableEq, Repr

/-- One host frame from CSN fall to CSN rise (R101, R102): H0 without its op, H1, the payload, the CRC word, the number of
rising edges, and the time in ns between the 64th and the 65th rising edge. -/
structure HostFrame where
  tag : BitVec 3
  count1 : BitVec 5
  mask : BitVec 4
  seq : Half
  h1 : Word
  payload : List Word
  crc : Word
  edges : Nat
  taNs : Nat
  deriving DecidableEq, Repr

/-- What the frame strobe finds at the part's edges: which islands acknowledge this strobe before the next is due (R97), the sense
samples after decimation (R358), and the audio frames received by master ports. -/
structure StrobeInputs where
  benchAck : Vector Bool 8
  glideAck : Vector Bool 8
  sharedAck : Vector Bool 9
  samples : Vector Int 16
  audio : Vector (List Word) 8
  deriving DecidableEq, Repr

/-- What the reply of a TAKE frame carried at the end of its H1: the notice, and the number of its posting (R297). -/
structure NoticeSeen where
  posting : Nat
  notice : Word
  deriving DecidableEq, Repr

/-- A result slot as the reply of a RESULT frame carried it at the end of its H1, where it is no longer so at the CSN rise (R308). -/
structure SlotSeen where
  value : Word
  seq : Half
  fresh : Bool
  deriving DecidableEq, Repr

/-- A character of a lane as its receiver decodes it: data, a control character of Table HRG-1, another control character, or one
with a code or disparity error (R370, R371). -/
inductive RingChar where
  | data (b : Byte)
  | k28_5
  | k28_0
  | k28_1
  | k28_7
  | other
  | bad
  deriving DecidableEq, Repr

/-- A lap as its characters: 128 positions of 4 (R370). -/
abbrev LapChars := Vector (Vector RingChar 4) 128

/-- One of a part's two links (R370). -/
inductive RingLink where
  | up
  | down
  deriving DecidableEq, Repr

/-- A link as its receiver hears it: `otherDown` tells that its idle has K28.7, with which the other end of the link signals that it
has marked the link down (R394). -/
structure HeardLink where
  link : RingLink
  otherDown : Bool
  deriving DecidableEq, Repr

/-- The commands of the block (spec/opcode_table.json). -/
inductive Instr where
  /-- The part leaves POR once every required supply and RESET_N have stayed high continuously for 1.0 ms, and the STRAP phase begins (R42). -/
  | porExit (mv : Vector Nat 8) (resetN : Option Nat) (heldUs tapUs : Nat) (trstN : Vector (Option Nat) 4)
  /-- A required supply stays below its falling reset threshold for 2 µs or longer and returns the part to POR as a full reset (R43). -/
  | supplyReset (supply : Fin 8) (mv ns : Nat) (cut : CommitCut)
  /-- A supply stays below its warning threshold for 10 µs or longer; the part raises SUPPLY for every present tenant and logs a rate-limited SUPPLY entry (R44). -/
  | supplyWarning (supply : Fin 8) (mv ns : Nat)
  /-- RESET_N is recognised low for 2 µs or longer and the part enters POR (R54). -/
  | resetNLow (pin : PinInput) (ns : Nat) (cut : CommitCut)
  /-- At 2.000 ms the STRAP schedule ends: the part decodes readings, applies consistency checks, builds the snapshot record and switches the sources off (R20). -/
  | strapPhaseEnd (r : StrapReadings)
  /-- The TRUST work completes and the part picks its exit: HELD_TRUST, HELD_THERMAL, HELD_STRAP or CLOCK (R50). -/
  | trustEnd (w : TrustWork)
  /-- Every 1.0 ms PROV_N is observed; provisioning closes at the second consecutive not-low observation (R29). -/
  | provNObserve (mv vddIo : Nat)
  /-- Two consecutive windows read the reference within ±3 % of nominal, the reference counts as present and a lock sequence begins (R74). -/
  | referencePresent (ppm1 ppm2 : Int) (aligned up down : Bool)
  /-- The reference is not present by its deadline; this is a clock fault, CLOCK_FAULT is logged and the part enters HELD_CLOCK (R73). -/
  | referenceDeadline (ms : Nat)
  /-- A lock attempt in a band ends and its tuning voltage is judged against the window; success leads to AWAIT_IMAGE, failure to the next band or a clock fault (R79). -/
  | lockAttemptEnd (a : LockAttempt)
  /-- The PLL declares lock lost, freezes the tuning voltage, enters holdover and logs HOLDOVER (R82). -/
  | lockLost (c : LockLoss)
  /-- The reference returns and the part re-locks in the band in use without breaking strobes, logging RELOCK (R83). -/
  | relock (a : LockAttempt)
  /-- A re-lock that ends outside the window stops strobes and runs a full lock sequence, resuming in the new band or in holdover (R84). -/
  | steppedRelock (attempts : List LockAttempt) (gap : Half) (cycles : Nat)
  /-- The clock unit raises the strobe; islands latch inputs, publish staged outputs and flip banks or dividers (R96). -/
  | frameStrobe (inputs : StrobeInputs)
  /-- Every 1 ms the junction temperature is read; THERMAL is raised and logged at 120 °C with hysteresis (R70). -/
  | thermalReading (celsius : Int)
  /-- VEXC rises above 13.4 V and excitation is disconnected from every channel (R46). -/
  | vexcOvervoltage (mv : Nat)
  /-- VEXC has stayed at or below 13.2 V for 100 ms and excitation is reconnected (R46). -/
  | vexcReconnect (mv ms : Nat)
  /-- TRST_N_x is recognised low; the port abandons any frame in progress and ignores CSN (R60). -/
  | trstNLow (t : TenantId) (pin : PinInput) (ns : Nat)
  /-- At the strobe after recognition the tenant's benches enter HELD, the rule epoch changes, events clear and TENANT_RESET is logged (R60). -/
  | tenantResetHold (t : TenantId)
  /-- TRST_N_x is recognised high again; the port answers busy until the release strobe (R126). -/
  | trstNHigh (t : TenantId) (pin : PinInput) (ns : Nat)
  /-- At the release strobe the benches become ARMED, rights are restored, tags are freed and credits return to 8 (R61). -/
  | tenantResetRelease (t : TenantId)
  /-- A START rising edge is recognised, setting the start of master ports and ON_START releases, or the ring start frame on a master (R323). -/
  | startEdge (before : PinInput) (lowNs : Nat) (after : PinInput) (highNs : Nat)
  /-- An armed bench whose condition is met is released at an aligned strobe, with registers cleared and the prologue started (R66). -/
  | benchRelease (b : BenchId)
  /-- At the strobe that ends a bench period, the outcome is judged, the stage is published or discarded, and the next period begins (R150). -/
  | benchPeriodEnd (b : BenchId)
  /-- A pending plan switch loads all dividers at the first strobe where every counted tenant 0 bench ends a period (R91). -/
  | planSwitch
  /-- W1 finds the 16th consecutive unacknowledged strobe of a bench and fences it with the effects of Table FLT-2 (R433). -/
  | benchFence (b : BenchId)
  /-- A shared island is declared wedged, the outcome of Table FLT-3 applies and a WEDGE entry is queued (R434). -/
  | islandWedge (island : SharedIsland) (cut : CommitCut)
  /-- W2 finds 16 consecutive frames in which the pit performed no access despite a ready request and wedges the pit (R430). -/
  | pitProgressWedge
  /-- W3 finds a commit still in progress after 2.0 ms, or an unanswering NV memory, and wedges the weighbridge (R430). -/
  | nvWriterWedge (us : Nat) (answers : Bool) (cut : CommitCut)
  /-- The step has no effect (R187). -/
  | nop (b : BenchId) (f : StepFields)
  /-- Copies a D register (R187). -/
  | mov (b : BenchId) (f : StepFields)
  /-- Writes an immediate to a D register (R187). -/
  | movi (b : BenchId) (f : StepFields)
  /-- Writes a + b under the overflow rule (R188). -/
  | add (b : BenchId) (f : StepFields)
  /-- Writes a − b under the overflow rule (R188). -/
  | sub (b : BenchId) (f : StepFields)
  /-- Writes −a under the overflow rule (R188). -/
  | neg (b : BenchId) (f : StepFields)
  /-- Writes |a| under the overflow rule (R188). -/
  | abs (b : BenchId) (f : StepFields)
  /-- Writes the signed minimum of a and b (R189). -/
  | min (b : BenchId) (f : StepFields)
  /-- Writes the signed maximum of a and b (R189). -/
  | max (b : BenchId) (f : StepFields)
  /-- Writes the bitwise AND of a and b (R189). -/
  | and (b : BenchId) (f : StepFields)
  /-- Writes the bitwise OR of a and b (R189). -/
  | ior (b : BenchId) (f : StepFields)
  /-- Writes the bitwise XOR of a and b (R189). -/
  | xor (b : BenchId) (f : StepFields)
  /-- Shifts a left under the overflow rule (R191). -/
  | shl (b : BenchId) (f : StepFields)
  /-- Shifts a right arithmetically, truncating or rounding (R191). -/
  | shra (b : BenchId) (f : StepFields)
  /-- Shifts the bit pattern of a right with zero fill (R191). -/
  | shrl (b : BenchId) (f : StepFields)
  /-- Writes the narrowed shifted product a × b (R192). -/
  | mul (b : BenchId) (f : StepFields)
  /-- Writes the narrowed shifted product of a and a coefficient (R192). -/
  | mulc (b : BenchId) (f : StepFields)
  /-- Adds a × b to an accumulator (R193). -/
  | mac (b : BenchId) (f : StepFields)
  /-- Adds a × coefficient to an accumulator (R193). -/
  | macc (b : BenchId) (f : StepFields)
  /-- Subtracts a × b from an accumulator (R193). -/
  | msu (b : BenchId) (f : StepFields)
  /-- Subtracts a × coefficient from an accumulator (R193). -/
  | msuc (b : BenchId) (f : StepFields)
  /-- Clears an accumulator (R194). -/
  | aclr (b : BenchId) (f : StepFields)
  /-- Loads a shifted D value into an accumulator (R194). -/
  | ald (b : BenchId) (f : StepFields)
  /-- Narrows a right-shifted accumulator into a D register (R195). -/
  | ast (b : BenchId) (f : StepFields)
  /-- Compares two operands and writes or combines a predicate (R196). -/
  | cmp (b : BenchId) (f : StepFields)
  /-- Selects a or b by a predicate (R197). -/
  | sel (b : BenchId) (f : StepFields)
  /-- Bounds a between two registers and optionally flags the change (R198). -/
  | clamp (b : BenchId) (f : StepFields)
  /-- Reads a delay tap with cold and ECC handling (R199). -/
  | drd (b : BenchId) (f : StepFields) (ecc : EccRead)
  /-- Reads an interpolated delay tap (R200). -/
  | drdf (b : BenchId) (f : StepFields) (ecc0 ecc1 : EccRead)
  /-- Writes a to the now position of a delay line (R201). -/
  | dwr (b : BenchId) (f : StepFields)
  /-- Writes a narrowed accumulator to the now position of a delay line (R195). -/
  | dwra (b : BenchId) (f : StepFields)
  /-- Reads a coefficient from the active-bank view (R202). -/
  | crd (b : BenchId) (f : StepFields)
  /-- Looks up and interpolates a coefficient table (R203). -/
  | lut (b : BenchId) (f : StepFields)
  /-- Writes the base-2 logarithm in Q6.26 (R204). -/
  | log2 (b : BenchId) (f : StepFields)
  /-- Writes the base-2 exponential of a Q6.26 value (R205). -/
  | exp2 (b : BenchId) (f : StepFields)
  /-- Writes a scaled reciprocal square root (R206). -/
  | rsq (b : BenchId) (f : StepFields)
  /-- Updates an envelope follower held in its destination (R207). -/
  | envf (b : BenchId) (f : StepFields)
  /-- Reads a routed audio input sample from the view (R213). -/
  | pin (b : BenchId) (f : StepFields)
  /-- Stages a sample for a routed audio output slot (R213). -/
  | pout (b : BenchId) (f : StepFields)
  /-- Reads the latest sense channel sample from the view (R214). -/
  | sin (b : BenchId) (f : StepFields)
  /-- Reads a pulse channel's interval, count or age from the view (R215). -/
  | pls (b : BenchId) (f : StepFields)
  /-- Reads a ring stream cell from the view, flagging absence (R216). -/
  | rin (b : BenchId) (f : StepFields)
  /-- Stages a value for the bench's own stream cell (R217). -/
  | rout (b : BenchId) (f : StepFields)
  /-- Requests a split-phase pit read into a bench tag (R219). -/
  | prd (b : BenchId) (f : StepFields)
  /-- Collects a bench tag's data and validity (R220). -/
  | pget (b : BenchId) (f : StepFields)
  /-- Posts a pit write, checked at acceptance and at performance (R222). -/
  | pwr (b : BenchId) (f : StepFields)
  /-- Sets the bench's spare-slot priority (R224). -/
  | prio (b : BenchId) (f : StepFields)
  /-- A bench posts a notice word to a partner endpoint (R226). -/
  | postStep (b : BenchId) (f : StepFields)
  /-- A bench withdraws its posted notice (R226). -/
  | withdrawStep (b : BenchId) (f : StepFields)
  /-- A bench reads a channel's flags and return code (R226). -/
  | queryStep (b : BenchId) (f : StepFields)
  /-- A bench takes a notice from a channel (R227). -/
  | takeStep (b : BenchId) (f : StepFields)
  /-- A bench acknowledges an EXPLICIT notice with a return code (R228). -/
  | ackn (b : BenchId) (f : StepFields)
  /-- Stages a value for a declared result slot (R217). -/
  | rslt (b : BenchId) (f : StepFields)
  /-- Raises BENCH_EVT for the owning tenant (R232). -/
  | evt (b : BenchId) (f : StepFields)
  /-- Asks the weighbridge to append a witness entry, subject to budget and queue (R229). -/
  | wit (b : BenchId) (f : StepFields)
  /-- A bench requests a commit of a group of its tenant's benches (R230). -/
  | commitStep (b : BenchId) (f : StepFields)
  /-- Queues a remote posted write to another part's inbound window (R231). -/
  | rwr (b : BenchId) (f : StepFields)
  /-- Reads time of day or an epoch from the view (R233). -/
  | tod (b : BenchId) (f : StepFields)
  /-- Reads a frame counter or the power-cycle counter from the view (R233). -/
  | fcnt (b : BenchId) (f : StepFields)
  /-- Reads a bench status block word or a part status word (R234). -/
  | stat (b : BenchId) (f : StepFields)
  /-- Stages a clock plan request (R235). -/
  | plan (b : BenchId) (f : StepFields)
  /-- The host reads the 8-word status block (R110). -/
  | status (x : TenantId) (f : HostFrame)
  /-- The host sends an image chunk into the staging area (R139). -/
  | load (x : TenantId) (f : HostFrame)
  /-- The host requests a tagged read of window words (R122). -/
  | read (x : TenantId) (f : HostFrame)
  /-- The host collects a tag's data from an offset (R116). -/
  | fetch (x : TenantId) (f : HostFrame)
  /-- The host posts a lane-masked write of window words using a write credit (R118). -/
  | write (x : TenantId) (f : HostFrame)
  /-- The host posts a notice to one of its benches (R292). -/
  | post (x : TenantId) (f : HostFrame)
  /-- The host withdraws its posted notice (R294). -/
  | withdraw (x : TenantId) (f : HostFrame)
  /-- The host reads the mailbox flags and return codes (R303). -/
  | poll (x : TenantId) (f : HostFrame)
  /-- The host takes a notice from a bench, judged at the CSN rise (R297). -/
  | take (x : TenantId) (f : HostFrame) (seen : Option NoticeSeen)
  /-- The host acknowledges an EXPLICIT notice with a return code (R295). -/
  | ack (x : TenantId) (f : HostFrame)
  /-- The host writes coefficient words into a bench's shadow bank (R242). -/
  | commitStage (x : TenantId) (f : HostFrame)
  /-- The host requests a commit group checked against shadow CRCs (R245). -/
  | commitGroup (x : TenantId) (f : HostFrame)
  /-- The host reads result slots, optionally consuming FRESH (R112). -/
  | result (x : TenantId) (f : HostFrame) (seen : List (Option SlotSeen))
  /-- The host reads the events and clears the masked set bits (R113). -/
  | events (x : TenantId) (f : HostFrame)
  /-- The host requests a tagged snapshot of the log head (R422). -/
  | logHead (x : TenantId) (f : HostFrame)
  /-- The host requests a tagged copy of up to 16 entries (R423). -/
  | logEntries (x : TenantId) (f : HostFrame)
  /-- The host requests a signed export of up to 16 entries with a nonce (R423). -/
  | logExport (x : TenantId) (f : HostFrame)
  /-- The host appends a host-kind entry within its budget (R420). -/
  | logAppend (x : TenantId) (f : HostFrame)
  /-- The host collects a LOG tag's data (R116). -/
  | logCollect (x : TenantId) (f : HostFrame)
  /-- The host requests a signed attestation over a nonce (R422). -/
  | attestRequest (x : TenantId) (f : HostFrame)
  /-- The host collects an ATTEST tag's data (R116). -/
  | attestCollect (x : TenantId) (f : HostFrame)
  /-- The host reads frame counters, TOD and epochs (R110). -/
  | timeRead (x : TenantId) (f : HostFrame)
  /-- Tenant 0 on a master or standalone part sets a pending TOD mark for a future ring frame (R111). -/
  | timeMark (x : TenantId) (f : HostFrame)
  /-- The host sends GO to the benches of a mask, meeting ON_GO conditions (R69). -/
  | go (x : TenantId) (f : HostFrame)
  /-- Reports part ID, device key and provisioning state while provisioning is open (R427). -/
  | provisionIdentify (x : TenantId) (f : HostFrame)
  /-- Programs an authority key slot hash once and logs PROVISION (R427). -/
  | provisionSlot (x : TenantId) (f : HostFrame)
  /-- Raises a tenant's rollback floor and logs PROVISION (R427). -/
  | provisionFloor (x : TenantId) (f : HostFrame)
  /-- Programs the OTP lock bits and commits a LOCK entry (R428). -/
  | lock (x : TenantId) (f : HostFrame)
  /-- Runs the weighbridge self-tests into a tag (R110). -/
  | selftest (x : TenantId) (f : HostFrame)
  /-- In a pit slot the owner or the winner of a spare slot has one access performed and checked (R270). -/
  | pitAccess (slot : Fin 7680) (ecc : EccRead)
  /-- The weighbridge takes the next tagged request round-robin and snapshots the log (R422). -/
  | weighbridgeServiceStart (bad : List (Fin 4096 × Vector Byte 64))
  /-- A tagged weighbridge request completes and its tag becomes READY (R421). -/
  | weighbridgeRequestDone (selftest : BitVec 4) (us : Word)
  /-- The writer commits the next queued entry and updates the counter block (R409). -/
  | logCommit
  /-- At the end of a budget second with refusals, LOG_BUDGET_COUNT is queued (R417). -/
  | budgetSecondEnd
  /-- Verification of a staged image begins once the words accepted up to LAST are performed (R145). -/
  | verifyStart
  /-- Verification ends at the first failing step of Table IMG-7, or succeeds (R144). -/
  | verifyEnd
  /-- At v+1 the reloading tenant's benches enter HELD or LOADED and installation begins (R146). -/
  | holdStrobe
  /-- The new image becomes active: the rule epoch changes, configurations take effect, benches become ARMED and IMAGE_ACTIVE is logged (R146). -/
  | activationStrobe (terminals : Vector Int 16)
  /-- The holder loses the staging area after 65,536 frames without an accepted LOAD (R141). -/
  | stagingTimeout
  /-- A posted notice becomes VISIBLE once the sender's earlier writes are done, and its timer loads (R293). -/
  | noticeVisible (channel : Byte)
  /-- DONE and the return code become visible once the acknowledger's earlier writes are done (R293). -/
  | ackVisible (channel : Byte)
  /-- A channel timer reaches 0, sets TIMEOUT and raises MBX_TIMEOUT (R298). -/
  | mbxTimeout (channel : Byte)
  /-- At strobe n+2 the banks of a commit group flip and glides start per law, or STEP when the first-commit flag is set (R250). -/
  | commitFlip (t : TenantId)
  /-- COMMIT_DONE is raised at the strobe after the flip and the commit is no longer pending (R262). -/
  | commitDone (t : TenantId)
  /-- Master audio ports start with their first frame edge 2 bit clocks before the start strobe (R323). -/
  | masterPortStart (p : SapId)
  /-- A follower port frame completes and moves to the holding register, or overruns (R327). -/
  | followerFrameComplete (p : SapId) (bits : Nat) (samples : List Word) (cycle : Nat)
  /-- At the capture point a follower input delivers its held frame or underruns, and adjusts P (R327). -/
  | followerCapture (p : SapId)
  /-- At its frame edge a follower output loads the latest publication, judging underrun or overrun (R329). -/
  | followerOutputLoad (p : SapId) (cycle : Nat)
  /-- A limiter exceeds its current or power threshold and opens both limiters; the channel enters TRIPPED (R349). -/
  | limiterTrip (ch : SenseId) (ua1 ua2 mv : Nat)
  /-- A 1 ms energy meter window ends and trips the limiters if its energy exceeds the threshold (R351). -/
  | meterWindowEnd (ch : SenseId) (nj mv ua : Nat)
  /-- After the 100 ms hold-off a tripped channel retries and enters SETTLE (R352). -/
  | tripRetry (ch : SenseId) (ms : Nat)
  /-- VEXC below 11.0 V for 10 µs, or a disconnect, puts IEPE channels in EXC_OFF (R354). -/
  | excOff (mv us : Nat)
  /-- VEXC has stayed in range for 100 ms and IEPE channels leave EXC_OFF for SETTLE (R354). -/
  | excRestore (mvLow mvHigh ms : Nat)
  /-- An open or short condition has held for 10 ms; the channel enters FAULT and the event is raised (R356). -/
  | diagDeclare (ch : SenseId) (mv ua : Int) (ms : Nat)
  /-- A declared condition has been absent for 100 ms and clears (R356). -/
  | diagClear (ch : SenseId) (mv ua : Int) (ms : Nat)
  /-- The first delivery strobe after the group delay with no declared condition delivers a sample and enters RUN (R360). -/
  | settleComplete (ch : SenseId)
  /-- A comparator transition that persists for the filter time qualifies and is timestamped, or is counted as a glitch (R363). -/
  | pulseEdgeQualify (ch : SenseId) (mv : Int) (ts persistNs window : Nat)
  /-- A glitch burst, undecided level or out-of-range level declares PULSE_FAULT (R365). -/
  | pulseFaultDeclare (ch : SenseId) (reason measure : Nat) (mv : Int)
  /-- PULSE_FAULT clears after 100 ms with no reason (R365). -/
  | pulseFaultClear (ch : SenseId) (mv : Int) (ms : Nat)
  /-- A held diagnostic change is written at the first strobe after the 10 s interval (R369). -/
  | senseDiagHeld
  /-- A receiver declares its lane down after missing characters or too many errors (R372), or hears that the other end of the link has
  marked it down (R394). -/
  | laneDown (l : HeardLink) (silentChars errors : Nat)
  /-- A receiver declares its lane up after 2 error-free laps, or 1,024 characters of idle (R372). -/
  | laneUp (l : HeardLink) (laps idleChars : Nat)
  /-- At its home visit a part reads the header, handles message slots and writes and reads stream cells (R377). -/
  | homeVisit (l : RingLink) (chars : LapChars) (strobeErrorNs : Int)
  /-- A part gains ring lock and raises RING_LOCK (R379). -/
  | ringLockGain
  /-- A member drops ring lock, raises RING_LOSS and runs on its local counter (R381). -/
  | ringLoss (cause : Fin 4)
  /-- A strobe off phase for 2 laps lengthens one frame to realign with the ring (R380). -/
  | phaseStep (cycles : Nat)
  /-- The master starts roll call on a valid idle, after 500 ms with fold enabled, or on a 1,000 ms retry (R383). -/
  | rollcallStart (idleSeen : Bool) (ms : Nat)
  /-- A collection lap returns and the master checks it for conflict, rotation and overlap (R384). -/
  | collectionLap (table : List Word) (rotationNs : Nat) (foreign : Bool)
  /-- The master assigns physical positions in reverse home order and parts build their maps (R385). -/
  | assignmentLap (table : List Word)
  /-- On a break the end parts turn the lap and the master crosses the middle, sending FOLDED (R394). `x` and `y` are the places of X
  and Y in home order, 0 the master; `idleBeyond` the link on which a part sees the idle of a neighbour strapped with fold disabled
  that is the end of the break (R396). -/
  | fold (x y : BitVec 6) (rotationNs : Nat) (idleBeyond : Option RingLink)
  /-- At strobe m the TOD mark is applied and a step raises an event, bumps tod_epoch and logs TOD_STEP (R401). -/
  | todMarkApply
  /-- The TAP resets to Test-Logic-Reset with IDCODE (R469). -/
  | tapReset (byPin : Bool)
  /-- Pins are driven from the boundary register while the part is in POR (R470). -/
  | extest (shiftIn : BitVec 114) (pins : BitVec 114)
  /-- Captures pins and loads the boundary register without affecting the part (R469). -/
  | samplePreload (shiftIn : BitVec 114) (pins : BitVec 114)
  /-- Selects the 32-bit identification register (R469). -/
  | idcode
  /-- Holds pins from the boundary register with bypass selected, in POR only (R470). -/
  | tapClamp (tdi : Bool)
  /-- Puts every scanned output at high impedance, in POR only (R470). -/
  | highz (tdi : Bool)
  /-- With DEVEL high, observes bench status or registers through the debug register (R472). -/
  | benchDbg (shiftIn : BitVec 42)
  /-- Selects the 1-bit bypass register (R469). -/
  | bypass (code : BitVec 5) (tdi : Bool)
  /-- While a bench island's local VDD_CORE reads below 0.755 V, each bench cycle at which the stretch toggle is set withholds its datapath edge and issues no step (R98). -/
  | stretchCycle (b : BenchId) (mv cycle : Nat)
  /-- FAULT_N changes level at the timed edges of its burst or blink pattern for the current condition (R51). -/
  | faultNPattern
  /-- An accepted host frame is taken by its target unit over the depth-one handshake, its outcome becomes final and busy returns to 0 within t_BUSY of the CSN rise (R108). -/
  | outcomeFinal (x : TenantId)
  deriving DecidableEq, Repr

end Sys2Proof
end

