-- ==== Sys2Proof/Config.lean ====
section
/-! DEFINITION. Sys2Proof/Config.lean: what one part's making fixes and the values the spec leaves open, as constants
without a body: nothing can evaluate them. -/
namespace Sys2Proof

/-- Whether a pulse whose width lies between the 'ignored' and the 'recognised' limits of Table PWR-5 is recognised, for
the free index of the state (R54). -/
opaque Config.recognisesPulse : Nat → Bool

/-- Whether a reading inside the droop threshold's band of 0.750 V to 0.760 V counts as below it (R98). -/
opaque Config.droopInBand : Nat → Bool

/-- The least operand at which LOG2 reaches a result in units of 2^-26, of the operands at which R204's bounds leave it open. -/
opaque Config.log2Reach : Int → Nat

/-- The least operand at which EXP2 reaches a result in units of 2^-31, of the operands at which R205's bounds leave it open. -/
opaque Config.exp2Reach : Int → Nat

/-- A candidate for RSQ of a positive Q1.31 value and a scale, in units of 2^-31, from which R206's bounds take the
result. -/
opaque Config.rsqValue : Nat → Nat → Int

/-- The per-signature secret of the random bit generator for the free index of the state (R424). -/
opaque Config.signSecret : Nat → Nat

/-- The device private key (R425). -/
opaque Config.deviceKey : Nat

/-- The part ID in OTP (Table WBR-9). -/
opaque Config.partId : BitVec 64

/-- The factory-measured centre frequency of each VCO band in units of 100 kHz (R76). -/
opaque Config.bandCentre : Nat → Nat

/-- The trim of each coded pin's current source in its OTP row (R19). -/
opaque Config.strapTrim : Nat → BitVec 32

/-- The current threshold in µA of a channel's limiter 1 or 2, of which R349's range is taken. -/
opaque Config.limiterCurrent : Nat → Nat → Nat

/-- The power threshold in nW of a channel's limiter 1 or 2, of which R349's range is taken. -/
opaque Config.limiterPower : Nat → Nat → Nat

/-- The meter trip in nJ of a channel, of which ELE-11's range is taken (R351, R457). -/
opaque Config.meterTrip : Nat → Nat

/-- The error in mV of a channel's open threshold 0 or short threshold 1, of which ELE-11's range is taken (R457). -/
opaque Config.diagError : Nat → Nat → Int

/-- The current in µA at which a channel in BIAS mode is open, of which ELE-11's range is taken (R457). -/
opaque Config.biasOpen : Nat → Nat

/-- The error in mV of a channel's comparator at a threshold in mV, of which ELE-11's range is taken (R457). -/
opaque Config.pulseError : Nat → Int → Int

/-- The output of the divisor stage for a divisor above 1, of the samples before it, latest first: its coefficients are not
published (R360). -/
opaque Config.divisorStage : Nat → List Int → Int

/-- The 7 check bits that a pit word stores (R264); the spec gives no code. -/
opaque Config.checkBits : BitVec 32 → BitVec 7

/-- The factory gain G_f of a channel in OTP (R366). -/
opaque Config.factoryGain : Nat → BitVec 24

/-- The factory offset O_f of a channel in OTP, Q1.31 (R366). -/
opaque Config.factoryOffset : Nat → BitVec 32

/-- A value that the spec leaves open in an entry, for the free index of the state: the folded rotation that a part other than the
master records (Table HRG-9), the owner of a fenced bench that has none (Table FLT-5). -/
opaque Config.openWord : Nat → BitVec 32

/-- The byte that a two's complement field gives for a temperature above 127 °C (Table WBR-5, Table TRF-4). -/
opaque Config.hotByte : Int → BitVec 8

end Sys2Proof
end

