-- ==== Sys2Proof/Machine/Digest.lean ====
section
/-! DEFINITION. Sys2Proof/Machine/Digest.lean: the digests and check words the spec names: SHA-256 (R406, R424 of
spec/16_weighbridge.md), CRC-32C (R109 of spec/05_tenant_port.md) and the CRC-8 of a ring message (R478 of
spec/15_haul_ring.md). -/
namespace Sys2Proof.Machine

/-- `n` bytes of `v`, most significant byte first (R5). -/
def beBytes : Nat → Nat → List Byte
  | 0, _ => []
  | n + 1, v => BitVec.ofNat 8 (v / 2 ^ (8 * n)) :: beBytes n v

/-- The number whose bytes these are, most significant byte first (R5). -/
def beNat (bs : List Byte) : Nat := bs.foldl (fun a b => a * 256 + b.toNat) 0

/-- The bytes of words, each most significant byte first. -/
def wordsToBytes (ws : List Word) : List Byte := ws.flatMap (fun w => beBytes 4 w.toNat)

/-- The words whose bytes these are, each most significant byte first; a last part of fewer than four bytes is dropped. -/
def bytesToWords : List Byte → List Word
  | a :: b :: c :: d :: rest =>
    BitVec.ofNat 32 (((a.toNat * 256 + b.toNat) * 256 + c.toNat) * 256 + d.toNat) :: bytesToWords rest
  | _ => []

/-- The list cut or filled with `d` to exactly `n` places. -/
def padTo {α : Type} (d : α) (n : Nat) (xs : List α) : List α := (xs ++ List.replicate n d).take n

/-- Right rotation of a 32-bit number. -/
def rotr32 (n x : Nat) : Nat := (x >>> n) ||| ((x <<< (32 - n)) % 2 ^ 32)

/-- The round constants of SHA-256. -/
def sha256K : List Nat :=
  [0x428a2f98, 0x71374491, 0xb5c0fbcf, 0xe9b5dba5, 0x3956c25b, 0x59f111f1, 0x923f82a4, 0xab1c5ed5] ++
  [0xd807aa98, 0x12835b01, 0x243185be, 0x550c7dc3, 0x72be5d74, 0x80deb1fe, 0x9bdc06a7, 0xc19bf174] ++
  [0xe49b69c1, 0xefbe4786, 0x0fc19dc6, 0x240ca1cc, 0x2de92c6f, 0x4a7484aa, 0x5cb0a9dc, 0x76f988da] ++
  [0x983e5152, 0xa831c66d, 0xb00327c8, 0xbf597fc7, 0xc6e00bf3, 0xd5a79147, 0x06ca6351, 0x14292967] ++
  [0x27b70a85, 0x2e1b2138, 0x4d2c6dfc, 0x53380d13, 0x650a7354, 0x766a0abb, 0x81c2c92e, 0x92722c85] ++
  [0xa2bfe8a1, 0xa81a664b, 0xc24b8b70, 0xc76c51a3, 0xd192e819, 0xd6990624, 0xf40e3585, 0x106aa070] ++
  [0x19a4c116, 0x1e376c08, 0x2748774c, 0x34b0bcb5, 0x391c0cb3, 0x4ed8aa4a, 0x5b9cca4f, 0x682e6ff3] ++
  [0x748f82ee, 0x78a5636f, 0x84c87814, 0x8cc70208, 0x90befffa, 0xa4506ceb, 0xbef9a3f7, 0xc67178f2]

/-- The initial hash value of SHA-256. -/
def sha256Init : List Nat := [0x6a09e667, 0xbb67ae85, 0x3c6ef372, 0xa54ff53a, 0x510e527f, 0x9b05688c, 0x1f83d9ab, 0x5be0cd19]

/-- `n` more words of the message schedule; `ws` holds the words so far, latest first. -/
def sha256Extend : Nat → List Nat → List Nat
  | 0, ws => ws
  | n + 1, ws =>
    let w2 := ws.getD 1 0
    let w7 := ws.getD 6 0
    let w15 := ws.getD 14 0
    let w16 := ws.getD 15 0
    let s0 := (rotr32 7 w15 ^^^ rotr32 18 w15) ^^^ (w15 >>> 3)
    let s1 := (rotr32 17 w2 ^^^ rotr32 19 w2) ^^^ (w2 >>> 10)
    sha256Extend n ((w16 + s0 + w7 + s1) % 2 ^ 32 :: ws)

/-- One round on the eight working numbers. -/
def sha256Round (v : List Nat) (kw : Nat × Nat) : List Nat :=
  match v with
  | [a, b, c, d, e, f, g, h] =>
    let s1 := (rotr32 6 e ^^^ rotr32 11 e) ^^^ rotr32 25 e
    let ch := (e &&& f) ^^^ ((e ^^^ 0xffffffff) &&& g)
    let t1 := h + s1 + ch + kw.1 + kw.2
    let s0 := (rotr32 2 a ^^^ rotr32 13 a) ^^^ rotr32 22 a
    let mj := ((a &&& b) ^^^ (a &&& c)) ^^^ (b &&& c)
    [(t1 + s0 + mj) % 2 ^ 32, a, b, c, (d + t1) % 2 ^ 32, e, f, g]
  | _ => v

/-- The compression of one 64-byte block, given as 16 numbers. -/
def sha256Block (h : List Nat) (block : List Nat) : List Nat :=
  let w := (sha256Extend 48 block.reverse).reverse
  List.zipWith (fun x y => (x + y) % 2 ^ 32) h ((sha256K.zip w).foldl sha256Round h)

/-- The message cut into blocks of 16 numbers; `n` bounds the blocks. -/
def sha256Blocks : Nat → List Nat → List (List Nat)
  | 0, _ => []
  | n + 1, ws => if ws.isEmpty then [] else ws.take 16 :: sha256Blocks n (ws.drop 16)

/-- The padding of SHA-256: 0x80, zeros, the length in bits. -/
def sha256Pad (msg : List Byte) : List Byte :=
  msg ++ 0x80#8 :: List.replicate ((119 - msg.length % 64) % 64) 0#8 ++ beBytes 8 (8 * msg.length)

/-- SHA-256 of a byte string, 32 bytes. -/
def sha256 (msg : List Byte) : List Byte :=
  let ws := (bytesToWords (sha256Pad msg)).map BitVec.toNat
  ((sha256Blocks (ws.length + 1) ws).foldl sha256Block sha256Init).flatMap (beBytes 4)

/-- One bit of the reflected CRC-32C. -/
def crc32cBit (c : Nat) : Nat := if c % 2 = 1 then (c / 2) ^^^ 0x82f63b78 else c / 2

/-- `n` bits of the reflected CRC-32C. -/
def crc32cBits : Nat → Nat → Nat
  | 0, c => c
  | n + 1, c => crc32cBits n (crc32cBit c)

/-- CRC-32C of a byte string (Table TPT-5): initial value and final exclusive-or all ones, both reflected. -/
def crc32c (bs : List Byte) : Word :=
  BitVec.ofNat 32 (bs.foldl (fun c b => crc32cBits 8 (c ^^^ b.toNat)) 0xffffffff ^^^ 0xffffffff)

/-- CRC-32C of words, each taken most significant byte first (R109). -/
def crc32cWords (ws : List Word) : Word := crc32c (wordsToBytes ws)

/-- `n` bits of the CRC-8 of polynomial 0x07, most significant bit first (R478). -/
def crc8Bits : Nat → Nat → Nat
  | 0, c => c
  | n + 1, c => crc8Bits n (if c ≥ 128 then ((c * 2) % 256) ^^^ 0x07 else c * 2)

/-- CRC-8 of a byte string, polynomial 0x07, initial value 0, neither reflected nor inverted (R478). -/
def crc8 (bs : List Byte) : Byte :=
  BitVec.ofNat 8 (bs.foldl (fun c b => crc8Bits 8 (c ^^^ b.toNat)) 0)

end Sys2Proof.Machine
end

