-- ==== Sys2Proof/Machine/State.lean ====
section
/-! DEFINITION. Sys2Proof/Machine/State.lean: everything the spec gives the machine, as plain data, the reasons a step can
stop, and the state after reset. -/
namespace Sys2Proof.Machine

/-- A sparse memory: (address, content) pairs at strictly rising addresses, no content equal to what an unlisted address
reads as. -/
abbrev Sparse (α : Type) := List (Nat × α)

/-- A sequence pair (era, sequence), ordered by era first (R407). -/
structure SeqPair where
  era : Half
  seq : Word
  deriving DecidableEq, Repr

/-! ### What a lap carries (spec/15_haul_ring.md) -/

end Sys2Proof.Machine

namespace Sys2Proof

/-- How a stream position arrives at a home visit (R388): a word, four K28.0, or with an error. -/
inductive CellArrival where
  | value (w : Word)
  | absent
  | error
  deriving DecidableEq, Repr

/-- A message slot of a lap (Table HRG-6), and whether its 16 characters carry no error. -/
structure MessageSlot where
  clean : Bool
  w0 : Word
  w1 : Word
  w2 : Word
  w3 : Word
  deriving DecidableEq, Repr

/-- A lap as its words (Table HRG-2): whether its 16 header characters carry no error and begin with K28.5, the four
header words, the message slots, and the stream positions 36 to 127. -/
structure Lap where
  clean : Bool
  h0 : Word
  h1 : Word
  h2 : Word
  h3 : Word
  slots : Vector MessageSlot 8
  cells : Vector CellArrival 92
  deriving DecidableEq, Repr

end Sys2Proof

namespace Sys2Proof.Machine

/-! ### Straps (spec/02_straps_and_codes.md) -/

/-- One strap fault: the blamed pin (CODE_A to CODE_H 0 to 7, DEVEL 8, PROV_N 9), the reason of Table STR-9, and the check
of Table STR-8 when the reason is 5. -/
structure StrapFault where
  pin : Nat
  reason : Nat
  check : Nat
  deriving DecidableEq, Repr

/-- Strap codes, faults and snapshot, and the trim of each strap current source as read at POR (R17 to R36). -/
structure Straps where
  trims : Vector Word 8
  codes : Vector (BitVec 4) 8
  devel : Bool
  provN : Bool
  sourcesOn : Bool
  faults : List StrapFault
  snapshot : List Byte
  notLowRun : Nat
  provClosed : Bool
  deriving DecidableEq, Repr

/-! ### Power and reset (spec/03_power_reset_release.md) -/

/-- The whole-part states of Table PWR-2. -/
inductive PartState where
  | por
  | strap
  | trust
  | clock
  | awaitImage
  | operating
  | heldTrust
  | heldStrap
  | heldClock
  | heldThermal
  deriving DecidableEq, Repr

/-- The rate limit of one supply's SUPPLY entries (R44): the millisecond of the last one, and the crossings not logged. -/
structure SupplyLog where
  lastMs : Option Nat
  notLogged : Word
  deriving DecidableEq, Repr

/-- Power, reset, temperature and FAULT_N (R42 to R72). `ms` counts temperature readings from TRUST, one each
millisecond; `reading` and `previous` are the latest two in °C. -/
structure Power where
  state : PartState
  bankA33 : Bool
  bankB33 : Bool
  causeSupply : Bool
  causePin : Bool
  faultLow : Bool
  faultEdge : Nat
  supplies : Vector SupplyLog 8
  vexcOff : Bool
  vexcLow : Bool
  thermalArmed : Bool
  hotRun : Nat
  reading : Int
  previous : Int
  thermalRaises : Word
  ms : Nat
  deriving DecidableEq, Repr

/-! ### Clock (spec/04_clock_plans.md) -/

/-- Where a stepped re-lock stands (R84): none, strobes stop after the next strobe, or strobes are stopped. -/
inductive SteppedPhase where
  | none
  | afterNext
  | stopped
  deriving DecidableEq, Repr

/-- A band entry: starting band and window in mV (R77). -/
structure BandEntry where
  band : BitVec 6
  lo : Nat
  hi : Nat
  deriving DecidableEq, Repr

/-- A pending plan switch: the plan word and the frame e of R90. -/
structure PendingPlan where
  word : Word
  e : Nat
  deriving DecidableEq, Repr

/-- The clock unit (R73 to R99). `frame` is the local frame counter; reports take it modulo 2^64. `time` counts the cycles of VCO/8
from the strobe of frame 0 to the latest strobe, `added` those by which the frame in progress is lengthened (R84, R380), `starts`
the frames at which a START edge meets ON_START (Table PWR-8), and `asked` is the strobe and the highest bench of the requests
that became pending or cancelled at it (R90). `begun` tells that the CLOCK phase has begun since the full reset (Table CLK-1). -/
structure Clock where
  begun : Bool
  strobed : Bool
  frame : Nat
  time : Nat
  added : Nat
  starts : List Nat
  asked : Option (Nat × Nat)
  present : Bool
  band : BitVec 6
  vt : Nat
  locked : Bool
  holdover : Bool
  inhibited : Bool
  stepped : SteppedPhase
  override : Option BandEntry
  tried : List (BitVec 6)
  seqBand : BitVec 6
  plan : Word
  pending : Option PendingPlan
  deriving DecidableEq, Repr

/-! ### Faults (spec/17_faults_recovery.md) -/

/-- W1's count for one island: consecutive failed handshakes, the frame of the first unacknowledged strobe, and whether the
island acknowledges the latest strobe (R97, R430). -/
structure Handshake where
  fails : Nat
  first : Nat
  ok : Bool
  deriving DecidableEq, Repr

/-- The wedge note (R436). -/
structure WedgeNote where
  watchdog : Nat
  frame : Nat
  powerCycle : Word
  otherWedged : Bool
  benchFenced : Bool
  deriving DecidableEq, Repr

/-- Dropped failures of one budget second by source 1 to 4, and the tenant-source map (R437 to R439). -/
structure DropCounts where
  counts : Vector Half 4
  map : Half
  deriving DecidableEq, Repr

/-- The watchdogs, wedges and the dropped-failure counter (R430 to R439), and the rule epoch of R285. Shared islands are
numbered by their code less one (Table FLT-3). -/
structure Faults where
  shake : Vector Handshake 9
  wedged : Vector Bool 9
  pitStall : Nat
  pitReady : Half
  pitServed : Bool
  note : Option WedgeNote
  dropped : Word
  drops : DropCounts
  epoch : Nat
  deriving DecidableEq, Repr

/-! ### Images (spec/06_program_images.md) -/

/-- A BENCH_PROGRAM record (Table IMG-4). -/
structure BenchProgram where
  bench : BenchId
  divisor : Nat
  length : Nat
  prologue : Nat
  main : Nat
  steps : List StepWord
  deriving DecidableEq, Repr

/-- A delay line: base and length (Table IMG-4). -/
structure DelayLine where
  base : Nat
  length : Nat
  deriving DecidableEq, Repr

/-- A DELAY_TABLE record (Table IMG-4). -/
structure DelayTable where
  bench : BenchId
  lines : List DelayLine
  deriving DecidableEq, Repr

/-- A COEF_INIT or LUT record: values from a first index (Table IMG-4). -/
structure CoefRange where
  bench : BenchId
  first : Nat
  values : List Word
  deriving DecidableEq, Repr

/-- A GLIDE_LAWS record: law bytes from a first index (Table IMG-4). -/
structure LawRange where
  bench : BenchId
  first : Nat
  laws : List Byte
  deriving DecidableEq, Repr

/-- A WINDOWS entry (Table IMG-5). -/
structure WindowDecl where
  id : Nat
  base : Nat
  length : Nat
  rights : Word
  deriving DecidableEq, Repr

/-- A GRANTS or ACCEPTS entry: a window, the other tenant, a rights word (Table IMG-5). -/
structure ShareDecl where
  id : Nat
  tenant : TenantId
  rights : Word
  deriving DecidableEq, Repr

/-- A CHANNELS entry (Table IMG-5). -/
structure ChannelDecl where
  id : Byte
  explicit : Bool
  timeout : Half
  deriving DecidableEq, Repr

/-- A RESULTS entry: a bench and its declared slots (Table IMG-5). -/
structure ResultDecl where
  bench : BenchId
  slots : BitVec 64
  deriving DecidableEq, Repr

/-- A route of a PORT_MAP entry (Table IMG-6). -/
structure Route where
  slot : Nat
  second : Bool
  bench : BenchId
  ix : Nat
  deriving DecidableEq, Repr

/-- A PORT_MAP entry (Table IMG-6). -/
structure PortEntry where
  port : SapId
  format : Nat
  slots : Nat
  width : Nat
  half : Bool
  double : Bool
  align : Bool
  group : Nat
  routes : List Route
  deriving DecidableEq, Repr

/-- A SENSE_CONFIG entry (Table IMG-6). -/
structure SenseDecl where
  channel : SenseId
  w0 : Word
  w1 : Word
  deriving DecidableEq, Repr

/-- A RING_STREAMS entry (Table IMG-5). -/
structure StreamDecl where
  bench : BenchId
  cell : Nat
  deriving DecidableEq, Repr

/-- An INBOUND entry (Table IMG-5). -/
structure InboundDecl where
  id : Nat
  any : Bool
  source : Nat
  deriving DecidableEq, Repr

/-- A release condition (Table PWR-8). -/
inductive ReleaseCond where
  | onVerify
  | onGo
  | onRingLock
  | onBench (b : BenchId) (n : Nat)
  | onFrame (f : Nat)
  | onStart
  deriving DecidableEq, Repr

/-- A RELEASE entry (Table IMG-6). -/
structure ReleaseDecl where
  bench : BenchId
  cond : ReleaseCond
  deriving DecidableEq, Repr

/-- A USER_CAL entry: gain and offset trims in ppm (Table IMG-6). -/
structure CalDecl where
  channel : SenseId
  gain : Int
  offset : Int
  deriving DecidableEq, Repr

/-- A CLOCK_PLANS record: the initial index and the plan words (Table IMG-6). -/
structure PlanSet where
  initial : Nat
  words : List Word
  deriving DecidableEq, Repr

/-- A verified image, by its records (Tables IMG-1 to IMG-6); `bodies` gives the staged word, the length and the bench of each
body that the installer copies. -/
structure Image where
  unsigned : Bool
  rollback : Word
  build : Word
  digest : List Byte
  benchMask : Byte
  programs : List BenchProgram
  delays : List DelayTable
  coefs : List CoefRange
  laws : List LawRange
  windows : List WindowDecl
  grants : List ShareDecl
  accepts : List ShareDecl
  channels : List ChannelDecl
  results : List ResultDecl
  eventMask : Word
  plans : Option PlanSet
  bands : Option (BandEntry × BandEntry)
  ports : List PortEntry
  senses : List SenseDecl
  streams : List StreamDecl
  inbound : List InboundDecl
  releases : List ReleaseDecl
  cals : List CalDecl
  bodies : List (Nat × Nat × BenchId)
  deriving DecidableEq, Repr

/-- Where the staged image stands (R139 to R146). -/
inductive StagingPhase where
  | idle
  | loading
  | complete
  | verifying
  | passed
  | installing
  deriving DecidableEq, Repr

/-- The staging area (R139 to R146). `generation` tells the words of a discarded load; `nextRead` is the system
requester's next word; `bad` the first staged word found uncorrectable; `misread` the staged words that the verifier, or since then
the installer, was given otherwise than they stand in the pit (R281); `spoiled` the benches whose records the installer
could not read; `v` and `a` the frames of Table IMG-8. -/
structure Staging where
  holder : Option TenantId
  nextSeq : BitVec 13
  length : Nat
  phase : StagingPhase
  lastLoad : Nat
  generation : Nat
  nextRead : Nat
  bad : Option Nat
  misread : Sparse (Option Word)
  spoiled : Byte
  image : Option Image
  v : Nat
  a : Nat
  deriving DecidableEq, Repr

/-! ### Benches (spec/07_bench_model.md to spec/10_glide_commit.md) -/

/-- The bench states of Table PWR-7. -/
inductive BenchState where
  | off
  | loaded
  | armed
  | running
  | late
  | held
  | fenced
  deriving DecidableEq, Repr

/-- What a step writes that a later step sees only from a fixed distance (R163 to R165, R234): a register, a predicate, an
accumulator as its other readers see it, a delay word, a sticky flag, a status count, a failure-record entry, and what STAT
shows of the priority and of a tag. -/
inductive PipeTarget where
  | reg (n : Nat) (v : Word)
  | pred (n : Nat) (v : Bool)
  | acc (n : Nat) (v : BitVec 72)
  | delay (line addr : Nat) (v : Word)
  | flag (i : Nat)
  | delayCorrected
  | delayFatal
  | failure (w0 w1 : Word)
  | prioSeen (p : BitVec 3)
  | tagSeen (t : Nat) (v : Bool)
  | remote
  deriving DecidableEq, Repr

/-- A write on its way: the issue position it counts from, without a break across periods, and what it writes. -/
structure PipeWrite where
  pos : Nat
  target : PipeTarget
  deriving DecidableEq, Repr

/-- A delay line of a bench with its write pointer, fill count, and whether this period's write to its now position is
seen (R168 to R170). -/
structure LineState where
  base : Nat
  length : Nat
  w : Nat
  f : Nat
  fresh : Bool
  deriving DecidableEq, Repr

/-- A pulse channel in the view (R215). -/
structure PulseView where
  interval : Word
  count : Word
  age : Word
  fresh : Bool
  deriving DecidableEq, Repr

/-- The edges of a pulse channel since the bench's latest release (R364): count, latest timestamp, latest interval, and the
frame at which the latest edge entered the view. -/
structure PulseTrack where
  count : Word
  last : Option Nat
  interval : Word
  at_ : Option Nat
  deriving DecidableEq, Repr

/-- A stream cell in the view (R216). -/
structure CellView where
  value : Word
  absent : Bool
  deriving DecidableEq, Repr

/-- A sense channel's sample in the view (R214). -/
structure SampleView where
  value : Word
  fresh : Bool
  deriving DecidableEq, Repr

/-- The input view of a period (R166, R212, R233). -/
structure InputView where
  audio : Vector Word 64
  samples : Vector SampleView 16
  pulses : Vector PulseView 16
  cells : Vector CellView 128
  todSeconds : Word
  todFrame : Half
  todMarked : Bool
  todEpoch : Word
  todChanged : Bool
  ringEpoch : Word
  frame : Nat
  ringFrame : Nat
  ringLock : Bool
  powerCycle : Word
  deriving DecidableEq, Repr

/-- A period's staged outputs, latest first (R174). -/
structure Stage where
  results : List (Nat × Word)
  cells : List (Nat × Word)
  outputs : List (Nat × Word)
  plan : Option (BitVec 3)
  deriving DecidableEq, Repr

/-- A running glide: index, V0, target, step j, the value in force (R253, R254). -/
structure Glide where
  ix : Nat
  v0 : Int
  target : Int
  j : Nat
  value : Int
  deriving DecidableEq, Repr

/-- A pending commit of a bench: the frame n of acceptance, whether its banks have flipped (R247). -/
structure PendingCommit where
  n : Nat
  flipped : Bool
  deriving DecidableEq, Repr

/-- The two coefficient banks and the glide engine (R239 to R257). -/
structure Coefs where
  bank0 : Sparse Word
  bank1 : Sparse Word
  active1 : Bool
  laws : Sparse Byte
  glides : List Glide
  view : Sparse Word
  first : Bool
  commit : Option PendingCommit
  deriving DecidableEq, Repr

/-- A bench read tag (R220): data, valid bit, the data held before its latest PRD, and that PRD's position. -/
structure ReadTag where
  data : Word
  valid : Bool
  old : Word
  last : Option Nat
  deriving DecidableEq, Repr

/-- A PRD or PWR in its bench's queue (R274, R286): its position, the program address, the window with the base and length
it had at acceptance, the offset, the tag (PRD) or the data (PWR), and whether since then its bench has entered HELD, OFF or
FENCED, and a tenant reset has taken effect (Table PWR-6). -/
structure BenchRequest where
  pos : Nat
  addr : Nat
  window : Nat
  base : Nat
  length : Nat
  offset : Nat
  tag : Nat
  data : Word
  stale : Bool
  revoked : Bool
  deriving DecidableEq, Repr

/-- A result slot (R304). -/
structure ResultSlot where
  value : Word
  seq : Half
  fresh : Bool
  deriving DecidableEq, Repr

/-- The counters of the bench status block (Table BEN-6). -/
structure BenchStatus where
  lateCount : Half
  failures : Byte
  nextFailure : BitVec 3
  periods : Word
  stretchLatest : Half
  stretchMax : Half
  flags : BitVec 5
  corrected : Half
  uncorrectable : Half
  record : Vector (Word × Word) 8
  deriving DecidableEq, Repr

/-- The program and the period of a bench (R64, R93, R150 to R153). `issued` counts the period's issued steps, `before` the
positions of the earlier periods since release; `granted` the bench cycles of the frames the period has spanned. -/
structure Sequencer where
  prog : Sparse StepWord
  prologue : Nat
  main : Nat
  length : Nat
  divisor : Nat
  vector : Nat
  issued : Nat
  before : Nat
  start : Nat
  due : Nat
  granted : Nat
  stretch : Nat
  toggle : Bool
  completed : Nat
  deriving DecidableEq, Repr

/-- One bench. `met` is the frame at which the release condition was met, `goDue` the one at which a GO, a START edge or a ring
lock meets it; `acked` and `glideOk` tell whether its datapath and its glide engine acknowledge the latest strobe, and
`glideFailed` whether the glide engine failed the strobe judged last; `debug` holds D_0 to D_31 of the latest completed period
(R472). -/
structure Bench where
  state : BenchState
  d : Vector Word 32
  acc : Vector (BitVec 72) 4
  accSeen : Vector (BitVec 72) 4
  p : BitVec 8
  pipe : List PipeWrite
  seq : Sequencer
  delay : Sparse (Option Word)
  lines : List LineState
  stage : Stage
  view : InputView
  pulses : Vector PulseTrack 16
  coefs : Coefs
  tags : Vector ReadTag 4
  tagSeen : BitVec 4
  reads : List BenchRequest
  writes : List BenchRequest
  prio : BitVec 3
  prioSeen : BitVec 3
  results : Vector ResultSlot 64
  status : BenchStatus
  met : Option Nat
  goDue : Option Nat
  remotes : Nat
  generation : Byte
  remoteSeq : BitVec 4
  shake : Handshake
  acked : Bool
  glideOk : Bool
  glideFailed : Bool
  debug : Vector Word 32
  deriving DecidableEq, Repr

/-! ### The pit and the tenant ports (spec/11_pit_windows.md, spec/05_tenant_port.md) -/

/-- The pit: its words (`none` is not written) with the 7 check bits that each stores, above its 32 data bits (R264), the scrub
queue, the round-robin pointer of R271, the holder of the spare grant, and the first slot of the frame not yet past. -/
structure Pit where
  mem : Sparse (Option (BitVec 39))
  scrub : List (Nat × Word)
  pointer : Nat
  grant : Option TenantId
  nextSlot : Nat
  deriving DecidableEq, Repr

/-- The tag states of Table TPT-12a. -/
inductive TagState where
  | free
  | pending
  | ready
  | fetched
  deriving DecidableEq, Repr

/-- The op that issued a tag (R116). -/
inductive TagOp where
  | read
  | log
  | exportLog
  | attest
  | provision
  | selftest
  deriving DecidableEq, Repr

/-- A host tag (R115). For an EXPORT, the highest pairs of either region it returned (R418). -/
structure HostTag where
  state : TagState
  op : TagOp
  data : List Word
  code : Byte
  marks : SeqPair × SeqPair
  deriving DecidableEq, Repr

/-- The kind of a frame whose words the pit performs. -/
inductive JobKind where
  | read (tag : Nat)
  | write
  | load (generation : Nat)
  deriving DecidableEq, Repr

/-- An accepted READ, WRITE or LOAD with words still to perform (R117, R278): its number, the window with the base and
length it had at acceptance, the next word's offset, the words left (count for a READ, data for the others), the words read
so far, the value taken in a partial write's read slot, the code of the first failing word, the frame's sequence, and
whether the frame was accepted before a tenant reset took effect, and whether it holds a write credit (R118). -/
structure PortJob where
  id : Nat
  kind : JobKind
  window : Nat
  base : Nat
  length : Nat
  offset : Nat
  mask : BitVec 4
  left : List Word
  got : List Word
  merge : Option Word
  code : Byte
  seq : Half
  stale : Bool
  credit : Bool
  deriving DecidableEq, Repr

/-- A frame whose outcome is not final (R108): an effect already judged, or a request that reaches its unit only then. -/
inductive InFlight where
  | judged (code : Byte)
  | post (bench : BenchId) (notice : Word)
  | withdraw (bench : BenchId)
  | stage (bench : BenchId) (first : Nat) (words : List Word)
  | group (mask : Byte) (crcs : List Word)
  deriving DecidableEq, Repr

/-- A tenant port (R100 to R128). `overtaken` tells that a later frame than the one in flight is already final: S names that one
(R107). -/
structure Port where
  result : Byte
  seq : Half
  inFlight : Option (InFlight × Half)
  overtaken : Bool
  crcBad : Half
  accepted : Half
  tags : Vector HostTag 8
  credits : Nat
  lateCode : Byte
  lateCount : Byte
  lateSeq : Half
  jobs : List PortJob
  nextJob : Nat
  reply : List Word
  deriving DecidableEq, Repr

/-- One tenant: its reset input (R60, R61), events (R309), active image, latest verification code, the rate limit of
IMAGE_REFUSED (R149), and its port. -/
structure Tenant where
  trstLow : Bool
  held : Bool
  lowFrame : Nat
  holdDue : Option Nat
  releaseDue : Option Nat
  events : Word
  image : Option Image
  verifyCode : Byte
  refusedAt : Option Nat
  refusedNotLogged : Word
  port : Port
  deriving DecidableEq, Repr

/-! ### Mailboxes (spec/12_mailboxes_results_events.md) -/

/-- A mailbox channel (Table MBX-1, R302). `posting` is the number of its latest posting; `waitFor` is the sender's first write not waited for
(R293); `ack` a return code whose writes are not yet done, with the acknowledger's first write not waited for. -/
structure Channel where
  id : Byte
  declared : Bool
  explicit : Bool
  timeout : Half
  notice : Word
  full : Bool
  visible : Bool
  taken : Bool
  done : Bool
  code : Half
  timedOut : Bool
  timer : Nat
  residual : Bool
  posting : Nat
  waitFor : Nat
  ack : Option (Half × Nat)
  deriving DecidableEq, Repr

/-! ### The weighbridge (spec/16_weighbridge.md) -/

/-- The state of a log slot (R405). -/
inductive SlotStatus where
  | erased
  | writing
  | valid
  deriving DecidableEq, Repr

/-- A log slot: its state, 64 bytes, and the era of the entry it holds (R405, R407). -/
structure LogSlot where
  status : SlotStatus
  bytes : List Byte
  era : Half
  deriving DecidableEq, Repr

/-- The two regions of the log (R405). -/
inductive Region where
  | prot
  | gen
  deriving DecidableEq, Repr

/-- A region's items of the counter block (Table WBR-1): head slot, newest pair, its hash, wrap count, export mark. -/
structure RegionHead where
  head : Option Nat
  newest : SeqPair
  hash : List Byte
  wraps : Word
  mark : SeqPair
  deriving DecidableEq, Repr

/-- The reference strap snapshot (R37 to R40). -/
structure StrapReference where
  bytes : List Byte
  powerCycle : Word
  seq : Word
  deriving DecidableEq, Repr

/-- The counter block (Table WBR-1). -/
structure CounterBlock where
  next : SeqPair
  powerCycle : Word
  prot : RegionHead
  gen : RegionHead
  lost : Word
  floors : Vector Word 4
  reference : Option StrapReference
  deriving DecidableEq, Repr

/-- One of the two copies of the counter block: its content, its update count and the CRC-32C stored with it (R405). -/
structure CounterCopy where
  block : CounterBlock
  updates : Nat
  crc : Word
  deriving DecidableEq, Repr

/-- NV memory: the entry slots, the copy of the counter block in force and the other one, and whether the one in force is the second
of the two (R405). -/
structure Nv where
  slots : Sparse LogSlot
  current : CounterCopy
  other : CounterCopy
  second : Bool
  deriving DecidableEq, Repr

/-- What an entry records, but for its link (Table WBR-2). -/
structure LogRecord where
  pair : SeqPair
  region : Region
  frame : Nat
  todSeconds : Word
  todFrame : Half
  source : Byte
  kind : Byte
  payload : List Byte
  deriving DecidableEq, Repr

/-- A queued entry with the anchors and era entries that the writer commits ahead of it (R407, R410). -/
structure QueuedEntry where
  ahead : List LogRecord
  entry : LogRecord
  deriving DecidableEq, Repr

/-- A tagged weighbridge request (R421). -/
inductive WbRequest where
  | head
  | entries (first : SeqPair) (count : Nat)
  | exportLog (first : SeqPair) (count : Nat) (nonce : List Word)
  | attest (nonce : List Word)
  | identify
  | slot (index : Nat) (hash : List Word)
  | floor (tenant : TenantId) (value : Word)
  | selftest
  deriving DecidableEq, Repr

/-- The request in service: tenant, tag, request, and the words of its snapshot (R421, R422). -/
structure WbService where
  tenant : TenantId
  tag : Nat
  request : WbRequest
  words : List Word
  marks : SeqPair × SeqPair
  deriving DecidableEq, Repr

/-- Counts of the budget second that ended, until its entries are queued (R417, R438). -/
structure EndedSecond where
  index : Nat
  witness : Vector Half 4
  host : Vector Half 4
  drops : DropCounts
  counter : Word
  deriving DecidableEq, Repr

/-- The weighbridge (R405 to R429). `planned`, `protNext` and `genNext` are the pair and the slots that the next accepted
entry takes; `breakProt` and `breakGen` hold the bytes that the next entry links to after a chain break (R414); `early` holds
the entries that arose in TRUST before the log was open. -/
structure Weighbridge where
  nv : Nv
  opened : Bool
  planned : SeqPair
  protNext : Nat
  genNext : Nat
  breakProt : Option (List Byte)
  breakGen : Option (List Byte)
  witnessQ : List QueuedEntry
  systemQ : List QueuedEntry
  used : Vector Nat 4
  witnessRefused : Vector Half 4
  hostRefused : Vector Half 4
  ended : Option EndedSecond
  requests : Vector (List (Nat × WbRequest)) 4
  service : Option WbService
  turn : Nat
  nearFull : Bool
  early : List (Byte × List Byte)
  deriving DecidableEq, Repr

/-- The programmable OTP (R426): authority key slots and the lock bits. -/
structure Otp where
  keys : Vector (Option (List Byte)) 4
  lock : BitVec 3
  deriving DecidableEq, Repr

/-! ### Audio ports (spec/13_audio_ports.md) -/

/-- The FADE states of a slot (Table SAP-6). -/
inductive FadePhase where
  | live
  | fading
  | silent
  | ramping
  deriving DecidableEq, Repr

/-- One slot of a port: its FADE state, step count, held value, last content (one sample, or two at double rate), the clean
frames before this one, the samples published for the next frame by their place in it (the second at double rate), and
the places that have had a publication to carry (R325, R334, R336). `j` is the step that the next frame carries. -/
structure AudioSlot where
  phase : FadePhase
  j : Nat
  held : Word
  content : List Word
  clean : Nat
  pub : List (Bool × Word)
  started : List Bool
  deriving DecidableEq, Repr

/-- A slip found and not yet raised (R331). -/
inductive Slip where
  | underrun
  | overrun
  deriving DecidableEq, Repr

/-- One serial audio port: its entry in force and the tenant whose image names it, whether it runs, its start frame, the
frame a follower input holds and when it was completed, whether an overrun or a discarded frame came since
the previous capture, whether P or Q is 1,344, the frame taken at the capture point, a slip to raise, whether a gap of the
strobes came before this frame, what the view sees of an input, the slots, the publications since the latest load of a
follower output, latest first, by the time of their strobe, slot and place, whether an image has named the port since the full reset,
and whether a port that no image names any more runs on to its next frame edge (R323 to R339). Times are in cycles of VCO/8 from the
strobe of frame 0, three to an island cycle. -/
structure AudioPort where
  entry : Option (TenantId × PortEntry)
  running : Bool
  startDue : Option Nat
  holding : Option (List Word × Nat)
  overrun : Bool
  wide : Bool
  captured : Option (List Word)
  slip : Option Slip
  gap : Bool
  delivered : Vector (List Word) 16
  slots : Vector AudioSlot 16
  pubs : List (Nat × List (Nat × Bool × Word))
  named : Bool
  ending : Bool
  deriving DecidableEq, Repr

/-! ### Sense channels (spec/14_sense_channels.md) -/

/-- The states of Table SNS-1. -/
inductive SenseMode where
  | idle
  | settle
  | run
  | fault
  | tripped
  | excOff
  deriving DecidableEq, Repr

/-- One sense channel: its configuration in force with the tenant whose image names it, the user calibration, the state and
the frame at which SETTLE was entered, the declared conditions, the latest delivered sample and its frame, what the chain
offers for delivery at this strobe, the DC estimate in Q1.47 and whether it is seeded, the samples before the divisor stage,
latest first, as far as that stage reaches back, the meter, the comparator, the edges qualified and waiting for the view
(timestamp, and the time in cycles of VCO/8 from which a strobe shows them), those that entered it at this strobe, the edges and
glitches counted, and the glitches of the latest 1 ms window that had one (R343 to R367). -/
structure SenseChannel where
  cfg : Option (TenantId × SenseDecl)
  cal : Option CalDecl
  state : SenseMode
  entered : Nat
  openDecl : Bool
  shortDecl : Bool
  pulseFault : Nat
  sample : Word
  deliveredAt : Option Nat
  offer : Word
  dc : Int
  seeded : Bool
  recent : List Int
  energy : Word
  high : Bool
  waiting : List (Nat × Nat)
  entering : List Nat
  edges : Word
  glitches : Word
  burst : Nat × Nat
  deriving DecidableEq, Repr

/-- The change that a SENSE_DIAG entry describes (Table SNS-11): channel, byte 13, terminal voltage, pulse-fault reason. -/
structure DiagChange where
  channel : SenseId
  what : Byte
  mv : Int
  reason : Nat
  deriving DecidableEq, Repr

/-- The sense channels and the rate limits of their entries; `diagWritten` has bytes 8 to 11 of the latest SENSE_DIAG entry (R368,
R369). -/
structure Sense where
  channels : Vector SenseChannel 16
  tripAt : Option Nat
  tripMap : Half
  tripNotLogged : Word
  trips : Word
  diagAt : Option Nat
  diagMap : Half
  diagCount : Half
  diagHeld : Option DiagChange
  diagWritten : Half × Half
  deriving DecidableEq, Repr

/-! ### The haul ring (spec/15_haul_ring.md) -/

/-- The cell buffer of a logical cell: value, consecutive misses, absent (R388). -/
structure CellBuffer where
  value : Word
  misses : Nat
  absent : Bool
  deriving DecidableEq, Repr

/-- One of the part's own cells: its latest publication since its writer's release, and the last frame whose lap may carry it once
the writer is held, off, fenced or reloading (R387). -/
structure OwnCell where
  value : Option Word
  lastFrame : Option Nat
  deriving DecidableEq, Repr

/-- A remote posted write at its source (R231, R390): bench, target ring ID, window, offset, data, tag, program address. -/
structure RemoteRequest where
  rid : Nat
  window : Nat
  offset : Nat
  data : Word
  tag : BitVec 12
  addr : Nat
  deriving DecidableEq, Repr

/-- A message this part put into a slot: an RWR of a bench, a LATE_FAIL for a window of a tenant, or one that has failed already,
whose slot the part still sets FREE (R393). -/
inductive SentMessage where
  | write (bench : BenchId) (request : RemoteRequest)
  | lateFail (tenant : TenantId)
  | lost
  deriving DecidableEq, Repr

/-- A write latched at the addressee (R391, R392): the window with its base and length at acceptance, and its source. -/
structure LatchedWrite where
  window : Nat
  base : Nat
  length : Nat
  offset : Nat
  data : Word
  source : Nat
  bench : BitVec 3
  tag : BitVec 12
  deriving DecidableEq, Repr

/-- A LATE_FAIL waiting to be sent (R392), with the owner of the window. -/
structure LateFail where
  tenant : TenantId
  dest : Nat
  bench : BitVec 3
  tag : BitVec 12
  code : Byte
  deriving DecidableEq, Repr

/-- The two ends of a break at which the lap turns: X, at the end of the near arm, and Y (R394). -/
inductive FoldEnd where
  | near
  | far
  deriving DecidableEq, Repr

/-- The master's roll call (R383 to R386). -/
inductive RollPhase where
  | idle
  | collect
  | assign
  | run
  deriving DecidableEq, Repr

/-- A pending TOD mark (R401, R402). -/
structure TodMark where
  m : Nat
  seconds : Word
  frame : Half
  deriving DecidableEq, Repr

/-- The rate limit of one kind of ring entry (R404). -/
structure RingLog where
  last : Option Nat
  notLogged : Word
  deriving DecidableEq, Repr

/-- The haul ring. `laneUp` and `laneDown` tell whether the receive lanes of the two links are good, `severedUp` and `severedDown`
whether the other end of the link signals it down with K28.7 (R394); `counter` is the ring frame
counter at the latest strobe, `header` that of the latest valid header, `visited` tells whether a lap came since the latest
strobe; `headerTod` is the TOD of the latest header with TOD_VALID and its lap; `table` the assignment; `own` by logical cell;
`skipDelivery` has the sense channels that miss their next delivery (R380); `retry` tells that a roll call has ended; `sent` is the
lap as it last left the home visit, `relayed` the characters last relayed at another visit, with their frame (R377); `turning`
the end of a break at which this part turns, `cutOff` the places in home order of the parts that a fold leaves out of the master's segment (R397), `refLink`
the link of the recovered reference (R382); on a member `conflict` stands from a header with CONFLICT to one without; the log
limits are those of ROLLCALL, RING_LOSS, RING_FOLD, RING_EPOCH and TOD_STEP; `events` waits for the next strobe (R403). -/
structure Ring where
  laneUp : Bool
  laneDown : Bool
  severedUp : Bool
  severedDown : Bool
  locked : Bool
  everLocked : Bool
  lockedAt : Nat
  lastCounter : Nat
  validLaps : Nat
  missedLaps : Nat
  holdoverLaps : Nat
  counter : Nat
  visited : Bool
  header : Nat
  subwords : Vector Half 4
  status : Byte
  fold : Byte
  strobeError : Int
  strayLaps : Nat
  refused : Bool
  beta : Nat
  table : List Word
  position : Option Nat
  cells : Vector CellBuffer 128
  own : List (Nat × OwnCell)
  sent : Option Lap
  relayed : Option (Nat × LapChars)
  latches : Vector (Option LatchedWrite) 8
  slots : Vector (Option SentMessage) 8
  lateQ : List LateFail
  rwrQ : Vector (List RemoteRequest) 8
  rwrTurn : Nat
  rwrAddr : Vector (Vector Nat 16) 8
  startPending : Bool
  startFrame : Option Nat
  startHigh : Option Half
  startLow : Option Half
  roll : RollPhase
  retry : Bool
  startedFolded : Bool
  collected : Option (List Word)
  conflict : Bool
  folded : Bool
  turning : Option FoldEnd
  cutOff : List Nat
  refLink : Option RingLink
  rotation : Nat
  skipDelivery : Half
  todSeconds : Word
  todFrame : Half
  todMarked : Bool
  todEpoch : Word
  mark : Option TodMark
  headerTod : Option TodMark
  epoch : Word
  logs : Vector RingLog 5
  events : Word
  deriving DecidableEq, Repr

/-! ### TAP (spec/19_package_pins.md) -/

/-- The TAP (R469 to R472): `ir` is the instruction register as loaded, `irCapture` what Capture-IR gave at that load;
`boundary` the 114 cells as Capture-DR took them, bit n being cell n, and `update` the update stage that drives the pins;
`blocked` tells that EXTEST, CLAMP or HIGHZ has held the part in this POR (R470); `debug` the bench debug register, `idcode` the
identification register as captured, `bypass` the bypass bit. -/
structure Tap where
  ir : BitVec 5
  irCapture : BitVec 5
  boundary : BitVec 114
  update : BitVec 114
  debug : BitVec 42
  idcode : Word
  bypass : Bool
  blocked : Bool
  deriving DecidableEq, Repr

/-! ### The machine -/

/-- Everything the spec gives the machine, the queue of waiting commands, and the model's own counter of free values. `drawn` has
the per-signature secrets that the random bit generator has given, none of which it gives again (R424); `posted` counts the postings of the mailbox channels, so that no number comes twice (R297). -/
structure State where
  straps : Straps
  power : Power
  clock : Clock
  faults : Faults
  tenants : Vector Tenant 4
  staging : Staging
  benches : Vector Bench 8
  pit : Pit
  channels : List Channel
  audio : Vector AudioPort 8
  sense : Sense
  ring : Ring
  wb : Weighbridge
  otp : Otp
  tap : Tap
  drawn : List Nat
  posted : Nat
  freeIdx : Nat
  pending : List Instr
  deriving DecidableEq, Repr

/-- The reasons a command stops the machine: there is none. Every command answers a next state. -/
inductive Fault where
  deriving DecidableEq, Repr

/-- The reasons a command is refused. -/
inductive Refusal where
  /-- Raised by the dispatch alone, for a command that has no meaning yet. Safe. -/
  | notModelled (mnemonic : String)
  deriving DecidableEq, Repr

/-- What a step answers. -/
abbrev Out := Host.Outcome State Fault Refusal

/-! ### The state after reset: power has just been applied to a part fresh from factory test -/

/-- The SHA-256-sized zero bytes of a region that holds no entry. -/
def zeroBytes (n : Nat) : List Byte := List.replicate n 0#8

/-- An empty region of the log (Table WBR-1, after factory test). -/
def RegionHead.empty : RegionHead :=
  { head := none, newest := ⟨0, 0⟩, hash := zeroBytes 32, wraps := 0, mark := ⟨0, 0⟩ }

/-- The bytes of a region's items under the CRC of a copy. -/
def RegionHead.bytes (h : RegionHead) : List Byte :=
  beBytes 2 ((h.head.map (· + 1)).getD 0) ++ beBytes 2 h.newest.era.toNat ++ beBytes 4 h.newest.seq.toNat ++ h.hash ++
    beBytes 4 h.wraps.toNat ++ beBytes 2 h.mark.era.toNat ++ beBytes 4 h.mark.seq.toNat

/-- The bytes of a copy under its CRC, in the order of Table WBR-1, the update count last. The spec gives the items and no layout
(DESIGN CHOICE, log 44). -/
def CounterBlock.bytes (c : CounterBlock) (updates : Nat) : List Byte :=
  beBytes 2 c.next.era.toNat ++ beBytes 4 c.next.seq.toNat ++ beBytes 4 c.powerCycle.toNat ++ c.prot.bytes ++ c.gen.bytes ++
    c.floors.toList.flatMap (fun w => beBytes 4 w.toNat) ++
    (match c.reference with
     | none => [0#8]
     | some r => 1#8 :: (r.bytes ++ beBytes 4 r.powerCycle.toNat ++ beBytes 4 r.seq.toNat)) ++
    beBytes 4 c.lost.toNat ++ beBytes 8 updates

/-- A complete copy of a counter block (R405). -/
def CounterBlock.copy (c : CounterBlock) (updates : Nat) : CounterCopy :=
  { block := c, updates := updates, crc := crc32c (c.bytes updates) }

/-- The counter block after factory test (Table WBR-1). -/
def CounterBlock.factory : CounterBlock :=
  { next := ⟨0, 1⟩, powerCycle := 0, prot := RegionHead.empty, gen := RegionHead.empty, lost := 0,
    floors := Vector.replicate 4 0, reference := none }

/-- NV memory after factory test: no entry, both copies of the counter block complete, the second written last. -/
def Nv.factory : Nv :=
  { slots := [], current := CounterBlock.factory.copy 1, other := CounterBlock.factory.copy 0, second := true }

/-- The weighbridge with nothing queued. -/
def Weighbridge.closed (nv : Nv) : Weighbridge :=
  { nv := nv, opened := false, planned := ⟨0, 1⟩, protNext := 0, genNext := 512, breakProt := none, breakGen := none,
    witnessQ := [], systemQ := [], used := Vector.replicate 4 0, witnessRefused := Vector.replicate 4 0,
    hostRefused := Vector.replicate 4 0, ended := none, requests := Vector.replicate 4 [], service := none, turn := 0,
    nearFull := false, early := [] }

/-- A free host tag (Table TPT-12a). -/
def HostTag.init : HostTag :=
  { state := .free, op := .read, data := [], code := 0, marks := (⟨0, 0⟩, ⟨0, 0⟩) }

/-- A tenant port after full reset. -/
def Port.init : Port :=
  { result := 0, seq := 0, inFlight := none, overtaken := false, crcBad := 0, accepted := 0, tags := Vector.replicate 8 HostTag.init,
    credits := 8, lateCode := 0, lateCount := 0, lateSeq := 0, jobs := [], nextJob := 0, reply := [] }

/-- A tenant after full reset. -/
def Tenant.init : Tenant :=
  { trstLow := false, held := false, lowFrame := 0, holdDue := none, releaseDue := none, events := 0, image := none,
    verifyCode := 0, refusedAt := none, refusedNotLogged := 0, port := Port.init }

/-- A stage with nothing in it. -/
def Stage.empty : Stage := { results := [], cells := [], outputs := [], plan := none }

/-- A view that nothing has latched. -/
def InputView.init : InputView :=
  { audio := Vector.replicate 64 0, samples := Vector.replicate 16 ⟨0, false⟩,
    pulses := Vector.replicate 16 ⟨0, 0, 0xffffffff, false⟩, cells := Vector.replicate 128 ⟨0, true⟩, todSeconds := 0,
    todFrame := 0, todMarked := false, todEpoch := 0, todChanged := false, ringEpoch := 0, frame := 0, ringFrame := 0,
    ringLock := false, powerCycle := 0 }

/-- A status block that release has cleared (R180). -/
def BenchStatus.init : BenchStatus :=
  { lateCount := 0, failures := 0, nextFailure := 0, periods := 0, stretchLatest := 0, stretchMax := 0, flags := 0,
    corrected := 0, uncorrectable := 0, record := Vector.replicate 8 (0, 0) }

/-- Banks that hold nothing but zeros, no law but STEP. -/
def Coefs.init : Coefs :=
  { bank0 := [], bank1 := [], active1 := false, laws := [], glides := [], view := [], first := false, commit := none }

/-- A sequencer without a program. -/
def Sequencer.init : Sequencer :=
  { prog := [], prologue := 0, main := 0, length := 0, divisor := 1, vector := 0, issued := 0, before := 0, start := 0,
    due := 0, granted := 0, stretch := 0, toggle := true, completed := 0 }

/-- A pulse channel whose edges since release are none (R215). -/
def PulseTrack.init : PulseTrack := { count := 0, last := none, interval := 0, at_ := none }

/-- A bench after full reset: OFF (Table PWR-7). -/
def Bench.init : Bench :=
  { state := .off, d := Vector.replicate 32 0, acc := Vector.replicate 4 0, accSeen := Vector.replicate 4 0, p := 0,
    pipe := [], seq := Sequencer.init, delay := [], lines := [], stage := Stage.empty, view := InputView.init,
    pulses := Vector.replicate 16 PulseTrack.init, coefs := Coefs.init, tags := Vector.replicate 4 ⟨0, false, 0, none⟩,
    tagSeen := 0, reads := [], writes := [], prio := 0, prioSeen := 0, results := Vector.replicate 64 ⟨0, 0, false⟩,
    status := BenchStatus.init, met := none, goDue := none, remotes := 0, generation := 0, remoteSeq := 0,
    shake := ⟨0, 0, true⟩, acked := true, glideOk := true, glideFailed := false, debug := Vector.replicate 32 0 }

/-- The pit after full reset: no word written (R265), the pointer at BENCH_0 (R271). -/
def Pit.init : Pit := { mem := [], scrub := [], pointer := 0, grant := none, nextSlot := 0 }

/-- The staging area with no holder. -/
def Staging.init : Staging :=
  { holder := none, nextSeq := 0, length := 0, phase := .idle, lastLoad := 0, generation := 0, nextRead := 0, bad := none,
    misread := [], spoiled := 0, image := none, v := 0, a := 0 }

/-- A slot of an audio port that nothing has faded. -/
def AudioSlot.init : AudioSlot :=
  { phase := .live, j := 0, held := 0, content := [0, 0], clean := 0, pub := [], started := [] }

/-- An audio port that no image names. -/
def AudioPort.init : AudioPort :=
  { entry := none, running := false, startDue := none, holding := none, overrun := false, wide := false, captured := none,
    slip := none, gap := false, delivered := Vector.replicate 16 [0, 0], slots := Vector.replicate 16 AudioSlot.init,
    pubs := [], named := false, ending := false }

/-- A sense channel after full reset: IDLE (Table SNS-1). -/
def SenseChannel.init : SenseChannel :=
  { cfg := none, cal := none, state := .idle, entered := 0, openDecl := false, shortDecl := false, pulseFault := 0,
    sample := 0, deliveredAt := none, offer := 0, dc := 0, seeded := false, recent := [], energy := 0, high := false, waiting := [],
    entering := [], edges := 0, glitches := 0, burst := (0, 0) }

/-- The sense channels after full reset. -/
def Sense.init : Sense :=
  { channels := Vector.replicate 16 SenseChannel.init, tripAt := none, tripMap := 0, tripNotLogged := 0, trips := 0,
    diagAt := none, diagMap := 0, diagCount := 0, diagHeld := none, diagWritten := (0, 0) }

/-- The ring after full reset: no lock, every cell absent (R388), ring epoch and tod_epoch 0 (R399). -/
def Ring.init : Ring :=
  { laneUp := false, laneDown := false, severedUp := false, severedDown := false, locked := false, everLocked := false, lockedAt := 0, lastCounter := 0, validLaps := 0,
    missedLaps := 0, holdoverLaps := 0, counter := 0, visited := false, header := 0, subwords := Vector.replicate 4 0, status := 0, fold := 0,
    strobeError := 0, strayLaps := 0, refused := false, beta := 0, table := [], position := none,
    cells := Vector.replicate 128 ⟨0, 0, true⟩, own := [], sent := none, relayed := none, latches := Vector.replicate 8 none,
    slots := Vector.replicate 8 none, lateQ := [], rwrQ := Vector.replicate 8 [], rwrTurn := 0,
    rwrAddr := Vector.replicate 8 (Vector.replicate 16 0), startPending := false, startFrame := none, startHigh := none,
    startLow := none, roll := .idle, retry := false, startedFolded := false, collected := none, conflict := false, folded := false,
    turning := none, cutOff := [], refLink := none, rotation := 0, skipDelivery := 0, todSeconds := 0, todFrame := 0, todMarked := false,
    todEpoch := 0, mark := none, headerTod := none, epoch := 0, logs := Vector.replicate 5 ⟨none, 0⟩, events := 0 }

/-- The watchdogs after full reset; the wedge note survives RESET_N (R436). -/
def Faults.init (note : Option WedgeNote) : Faults :=
  { shake := Vector.replicate 9 ⟨0, 0, true⟩, wedged := Vector.replicate 9 false, pitStall := 0, pitReady := 0,
    pitServed := false, note := note, dropped := 0, drops := ⟨Vector.replicate 4 0, 0⟩, epoch := 0 }

/-- The clock unit after full reset: no reference, the OTP default bands, the full default plan until the straps are read. -/
def Clock.init : Clock :=
  { begun := false, strobed := false, frame := 0, time := 0, added := 0, starts := [], asked := none, present := false, band := 0, vt := 400,
    locked := false, holdover := false, inhibited := false, stepped := .none, override := none, tried := [], seqBand := 0, plan := 0, pending := none }

/-- Power in POR (R51: FAULT_N low). -/
def Power.por (supply pin : Bool) : Power :=
  { state := .por, bankA33 := false, bankB33 := false, causeSupply := supply, causePin := pin, faultLow := true,
    faultEdge := 0, supplies := Vector.replicate 8 ⟨none, 0⟩, vexcOff := false, vexcLow := false, thermalArmed := true,
    hotRun := 0, reading := 0, previous := 0, thermalRaises := 0, ms := 0 }

/-- Straps not yet sampled. -/
def Straps.init : Straps :=
  { trims := Vector.replicate 8 0, codes := Vector.replicate 8 0, devel := false, provN := true, sourcesOn := false,
    faults := [], snapshot := [], notLowRun := 0, provClosed := false }

/-- The TAP after its reset: the IDCODE instruction (R469). The IDCODE register takes its word when it is captured. -/
def Tap.init : Tap := { ir := 2, irCapture := 5, boundary := 0, update := 0, debug := 0, idcode := 0, bypass := false, blocked := false }

/-- The machine right after power is applied: POR with cause 0x01 (R58), NV memory and OTP as factory test leaves them. -/
def State.reset : State :=
  { straps := Straps.init, power := Power.por true false, clock := Clock.init, faults := Faults.init none,
    tenants := Vector.replicate 4 Tenant.init, staging := Staging.init, benches := Vector.replicate 8 Bench.init,
    pit := Pit.init, channels := [], audio := Vector.replicate 8 AudioPort.init, sense := Sense.init, ring := Ring.init,
    wb := Weighbridge.closed Nv.factory, otp := { keys := Vector.replicate 4 none, lock := 0 }, tap := Tap.init,
    drawn := [], posted := 0, freeIdx := 0, pending := [] }

end Sys2Proof.Machine
end

