-- ==== Sys2Proof/Machine/Flags.lean ====
section
/-! DEFINITION. Sys2Proof/Machine/Flags.lean: rounding, narrowing and saturation, and the sticky flags they set (R160 to
R162 of spec/07_bench_model.md, Table BEN-6). -/
namespace Sys2Proof.Machine

/-- Index of the sticky flags of status block word 3 (Table BEN-6): cold read. -/
def flagCold : Nat := 0

/-- Sticky flag: saturation on write-back. -/
def flagSat : Nat := 1

/-- Sticky flag: accumulator wrap. -/
def flagWrap : Nat := 2

/-- Sticky flag: corrected delay read. -/
def flagCorrected : Nat := 3

/-- Sticky flag: uncorrectable delay read. -/
def flagUncorrectable : Nat := 4

/-- `n / 2^k` rounded to the nearest integer, ties to even (R162, R253). -/
def roundEven (n : Int) (k : Nat) : Int :=
  let m : Int := (2 ^ k : Nat)
  let q := n / m
  let r := n % m
  if 2 * r < m then q else if m < 2 * r then q + 1 else if q % 2 = 0 then q else q + 1

/-- The largest Q1.31 value as an integer in units of 2^-31. -/
def q31Max : Int := 2147483647

/-- The smallest Q1.31 value as an integer in units of 2^-31. -/
def q31Min : Int := -2147483648

/-- The overflow part of R162: with saturate a value outside the Q1.31 range is clamped and the saturation flag is set;
without it the low 32 bits are kept. -/
def overflow32 (sat : Bool) (v : Int) : Word × Bool :=
  if sat = true ∧ v < q31Min then (BitVec.ofInt 32 q31Min, true)
  else if sat = true ∧ q31Max < v then (BitVec.ofInt 32 q31Max, true)
  else (BitVec.ofInt 32 v, false)

/-- The narrowing of R162 of a value in units of 2^-(31 + k). -/
def narrow32 (sat : Bool) (v : Int) (k : Nat) : Word × Bool := overflow32 sat (roundEven v k)

/-- The smallest Q10.62 value in units of 2^-62. -/
def q62Min : Int := -2361183241434822606848

/-- The largest Q10.62 value in units of 2^-62. -/
def q62Max : Int := 2361183241434822606847

/-- What R161 keeps of a chain step's exact value, and the flag it sets. -/
def chain72 (sat : Bool) (v : Int) : BitVec 72 × Option Nat :=
  if v < q62Min then (BitVec.ofInt 72 (if sat then q62Min else v), some (if sat then flagSat else flagWrap))
  else if q62Max < v then (BitVec.ofInt 72 (if sat then q62Max else v), some (if sat then flagSat else flagWrap))
  else (BitVec.ofInt 72 v, none)

/-- Addition that stops at the largest 16-bit number (Table BEN-6). -/
def satInc16 (x : Half) : Half := if x = 0xffff#16 then x else x + 1

/-- Addition that stops at the largest 8-bit number (Table BEN-6, Table TPT-7). -/
def satInc8 (x : Byte) : Byte := if x = 0xff#8 then x else x + 1

end Sys2Proof.Machine
end

