-- ==== Sys2Proof/Machine/Operands.lean ====
section
/-! DEFINITION. Sys2Proof/Machine/Operands.lean: the step word and the fields of its extension (Table BEN-2 of
spec/07_bench_model.md, Table CMP-2 of spec/08_compute_steps.md, Table TRF-2 of spec/09_traffic_steps.md). -/
namespace Sys2Proof.Machine

/-- The step word of an opcode and its fields (Table BEN-2). -/
def encodeStep (op : BitVec 6) (f : StepFields) : StepWord :=
  op ++ f.sel ++ BitVec.ofBool f.inv ++ BitVec.ofBool f.sat ++ f.dst ++ f.sa ++ f.sb ++ f.ext

/-- The opcode of a step word. -/
def stepOp (w : StepWord) : BitVec 6 := w.extractLsb' 58 6

/-- The fields of a step word (Table BEN-2). -/
def stepFields (w : StepWord) : StepFields :=
  { sel := w.extractLsb' 55 3, inv := w.getLsbD 54, sat := w.getLsbD 53, dst := w.extractLsb' 48 5,
    sa := w.extractLsb' 43 5, sb := w.extractLsb' 38 5, ext := w.extractLsb' 0 38 }

end Sys2Proof.Machine

namespace Sys2Proof

/-- `n` bits of the extension from bit `lo`. -/
def StepFields.bits (f : StepFields) (lo n : Nat) : Nat := (f.ext.extractLsb' lo n).toNat

/-- Product or load shift SH. -/
def StepFields.sh (f : StepFields) : Nat := f.bits 16 3

/-- Immediate amount AMT. -/
def StepFields.amt (f : StepFields) : Nat := f.bits 0 5

/-- Coefficient address mode AM. -/
def StepFields.am (f : StepFields) : Nat := f.bits 12 2

/-- Coefficient index IX. -/
def StepFields.cix (f : StepFields) : Nat := f.bits 0 12

/-- Flag predicate destination F. -/
def StepFields.fdst (f : StepFields) : Nat := f.bits 19 3

/-- Delay line LINE. -/
def StepFields.line (f : StepFields) : Nat := f.bits 32 6

/-- Window WIN. -/
def StepFields.win (f : StepFields) : Nat := f.bits 26 6

/-- Offset source OS. -/
def StepFields.os (f : StepFields) : Bool := f.ext.getLsbD 25

/-- Immediate offset OFF. -/
def StepFields.off (f : StepFields) : Nat := f.bits 0 18

/-- Bench read tag TAG. -/
def StepFields.tag (f : StepFields) : Nat := f.bits 22 2

/-- Partner endpoint EP. -/
def StepFields.ep (f : StepFields) : Nat := f.bits 32 4

/-- The source register `a` as a place in the register file. -/
def StepFields.ra (f : StepFields) : Nat := f.sa.toNat

/-- The source register `b` as a place in the register file. -/
def StepFields.rb (f : StepFields) : Nat := f.sb.toNat

/-- The destination as a place in the register file. -/
def StepFields.rd (f : StepFields) : Nat := f.dst.toNat

end Sys2Proof

namespace Sys2Proof.Machine

/-- A field that names an accumulator (R183). -/
def accField (x : BitVec 5) : Nat := (x.extractLsb' 0 2).toNat

end Sys2Proof.Machine
end

