-- ==== Sys2Proof/Machine/Pipeline.lean ====
section
/-! DEFINITION. Sys2Proof/Machine/Pipeline.lean: sparse memories, and the exposed pipeline of a bench: what a write changes
once it is seen, and what a read sees (R163 to R173 of spec/07_bench_model.md). -/
namespace Sys2Proof.Machine

/-- What a sparse memory reads at an address; `d` is what an unlisted address reads as. -/
def Sparse.read {α : Type} (d : α) (m : Sparse α) (a : Nat) : α :=
  match m with
  | [] => d
  | (k, v) :: rest => if k = a then v else if a < k then d else Sparse.read d rest a

/-- A sparse memory with an address removed. -/
def Sparse.erase {α : Type} (m : Sparse α) (a : Nat) : Sparse α :=
  match m with
  | [] => []
  | (k, v) :: rest => if k = a then rest else if a < k then (k, v) :: rest else (k, v) :: Sparse.erase rest a

/-- A sparse memory with a content put at an address. -/
def Sparse.insert {α : Type} (m : Sparse α) (a : Nat) (v : α) : Sparse α :=
  match m with
  | [] => [(a, v)]
  | (k, w) :: rest =>
    if k = a then (a, v) :: rest else if a < k then (a, v) :: (k, w) :: rest else (k, w) :: Sparse.insert rest a v

/-- A write to a sparse memory, keeping its canonical form: what an unlisted address reads as is not listed. -/
def Sparse.write {α : Type} [DecidableEq α] (d : α) (m : Sparse α) (a : Nat) (v : α) : Sparse α :=
  if v = d then Sparse.erase m a else Sparse.insert m a v

/-- Writes of a run of contents from an address on. -/
def Sparse.writeAll {α : Type} [DecidableEq α] (d : α) (m : Sparse α) (a : Nat) (vs : List α) : Sparse α :=
  match vs with
  | [] => m
  | v :: rest => Sparse.writeAll d (Sparse.write d m a v) (a + 1) rest

/-- The canonical form above a bound: addresses rise strictly from `lo`, and no content is `d`. -/
def Sparse.wfFrom {α : Type} [DecidableEq α] (d : α) (lo : Nat) (m : Sparse α) : Bool :=
  match m with
  | [] => true
  | (k, v) :: rest => decide (lo ≤ k) && decide (v ≠ d) && Sparse.wfFrom d (k + 1) rest

/-- The canonical form of a sparse memory. -/
def Sparse.wf {α : Type} [DecidableEq α] (d : α) (m : Sparse α) : Bool := Sparse.wfFrom d 0 m

/-- A vector with one place changed by a function; no change outside its range. -/
def vmod {α : Type} {n : Nat} (v : Vector α n) (i : Nat) (f : α → α) : Vector α n :=
  if h : i < n then v.set i (f v[i]) else v

/-- A vector's place, or a default outside its range. -/
def vget {α : Type} {n : Nat} (v : Vector α n) (i : Nat) (d : α) : α := if h : i < n then v[i] else d

/-- A failure-record entry written at its index (R181). -/
def BenchStatus.addFailure (st : BenchStatus) (w0 w1 : Word) : BenchStatus :=
  { st with
    failures := satInc8 st.failures
    nextFailure := st.nextFailure + 1
    record := st.record.set st.nextFailure.toNat (w0, w1) (by have := st.nextFailure.isLt; omega) }

/-- A sticky flag set (Table BEN-6). -/
def BenchStatus.setFlag (st : BenchStatus) (i : Nat) : BenchStatus :=
  { st with flags := st.flags ||| (1#5 <<< i) }

/-- A bit of a predicate file written. -/
def setBit8 (p : BitVec 8) (i : Nat) (v : Bool) : BitVec 8 :=
  if v then p ||| (1#8 <<< i) else p &&& ~~~(1#8 <<< i)

/-- A bit of a four-bit mask written. -/
def setBit4 (p : BitVec 4) (i : Nat) (v : Bool) : BitVec 4 :=
  if v then p ||| (1#4 <<< i) else p &&& ~~~(1#4 <<< i)

/-- What a write changes once its distance has passed. -/
def PipeTarget.apply (t : PipeTarget) (b : Bench) : Bench :=
  match t with
  | .reg n v => { b with d := vmod b.d n (fun _ => v) }
  | .pred n v => { b with p := setBit8 b.p n v }
  | .acc n v => { b with accSeen := vmod b.accSeen n (fun _ => v) }
  | .delay line addr v =>
    { b with
      delay := Sparse.write none b.delay addr (some v)
      lines := b.lines.modify line (fun l => { l with fresh := true }) }
  | .flag i => { b with status := b.status.setFlag i }
  | .delayCorrected =>
    { b with status := { b.status.setFlag flagCorrected with corrected := satInc16 b.status.corrected } }
  | .delayFatal =>
    { b with status := { b.status.setFlag flagUncorrectable with uncorrectable := satInc16 b.status.uncorrectable } }
  | .failure w0 w1 => { b with status := b.status.addFailure w0 w1 }
  | .prioSeen p => { b with prioSeen := p }
  | .tagSeen t v => { b with tagSeen := setBit4 b.tagSeen t v }
  | .remote => b

/-- A write put on its way, behind every write of a position no later than its own. -/
def pipeInsert (w : PipeWrite) (ws : List PipeWrite) : List PipeWrite :=
  match ws with
  | [] => [w]
  | x :: rest => if w.pos < x.pos then w :: x :: rest else x :: pipeInsert w rest

/-- A bench with one more write on its way. -/
def Bench.push (b : Bench) (pos : Nat) (t : PipeTarget) : Bench :=
  { b with pipe := pipeInsert { pos := pos, target := t } b.pipe }

/-- A bench with several more writes of one position on their way. -/
def Bench.pushAll (b : Bench) (pos : Nat) (ts : List PipeTarget) : Bench :=
  ts.foldl (fun b t => b.push pos t) b

/-- The bench as a step at position `r` sees it: every write of a position up to `r - 3` is done (R163, R165). -/
def Bench.settle (b : Bench) (r : Nat) : Bench :=
  (b.pipe.filter (fun w => decide (w.pos + 3 ≤ r))).foldl (fun b w => w.target.apply b)
    { b with pipe := b.pipe.filter (fun w => !decide (w.pos + 3 ≤ r)) }

/-- The bench with every write of the period done (R153). -/
def Bench.drain (b : Bench) : Bench :=
  b.pipe.foldl (fun b w => w.target.apply b) { b with pipe := [] }

/-- The bench as it stands between two steps: what its next step would see, or, once its last step has issued, with every write of
the period done (R153, R163). -/
def Bench.now (b : Bench) : Bench :=
  if b.seq.length ≤ b.seq.issued then b.drain else b.settle (b.seq.before + b.seq.issued)

/-- A D register as the settled bench holds it. -/
def Bench.reg (b : Bench) (n : Nat) : Word := vget b.d n 0

/-- A predicate as the settled bench holds it. -/
def Bench.pred (b : Bench) (n : Nat) : Bool := b.p.getLsbD n

/-- Whether a step performs: the selected predicate, inverted where the step says so; select 7 is no predicate
(Table BEN-2, R156, R157). -/
def Bench.performs (b : Bench) (f : StepFields) : Bool :=
  if f.sel = 7#3 then !f.inv else b.pred f.sel.toNat != f.inv

/-- The writes of a flag predicate destination: none for F = 7 (R185). -/
def flagWrite (f : StepFields) (v : Bool) : List PipeTarget :=
  if f.fdst = 7 then [] else [.pred f.fdst v]

/-- The sticky flag of a saturation, if it occurred (R162). -/
def satFlag (b : Bool) : List PipeTarget := if b then [.flag flagSat] else []

/-- The value in force of a coefficient for the period (R167, R240). -/
def Bench.coef (b : Bench) (ix : Nat) : Word := Sparse.read 0 b.coefs.view (ix % 4096)

/-- The coefficient index of a step: IX, or IX plus the index register modulo 4,096 (Table CMP-2, R186). -/
def Bench.coefIndex (b : Bench) (f : StepFields) : Nat :=
  if f.am = 1 then (f.cix + (b.reg f.rb).toNat % 4096) % 4096 else f.cix

/-- A delay line of the bench; a line the image does not declare has length 0. -/
def Bench.line (b : Bench) (j : Nat) : LineState :=
  b.lines.getD j { base := 0, length := 0, w := 0, f := 0, fresh := false }

/-- The address of tap `t` of a line (R168). -/
def LineState.addr (l : LineState) (t : Nat) : Nat := l.base + (l.w + l.length - t % l.length) % l.length

/-- One delay read: its value, the targets of its flags and counters, and whether the word is rewritten with 0 (R170 to
R173). The tap is clamped to the line's length less one. A word that is not written reads as 0, but an error in it counts. Whether an error
in the word under a cold read is corrected, counted or recorded the spec does not say: the model gives it no effect (DESIGN CHOICE,
log 72). -/
def Bench.tap (b : Bench) (line t : Nat) (ecc : EccRead) (addr : Nat) (frame : Nat) : Word × List PipeTarget × Option Nat :=
  let l := b.line line
  let t := min t (l.length - 1)
  let judged := if t = 0 ∧ l.fresh = false then l.length else t
  if l.f < judged then (0, [.pred 7 true, .flag flagCold], none)
  else
    let word := Sparse.read none b.delay (l.addr t)
    let given := fun (x : Word) => if word.isSome then x else 0
    match ecc with
    | .clean => (word.getD 0, [], none)
    | .corrected => (word.getD 0, [.delayCorrected], none)
    | .miscorrected x => (given x, [.delayCorrected], none)
    | .silent x => (given x, [], none)
    | .uncorrectable =>
      (0, [.pred 7 true, .delayFatal,
        .failure (0x1b300000#32 ||| BitVec.ofNat 32 addr) (BitVec.ofNat 32 frame)], some (l.addr t))

/-- The delay memory after an uncorrectable read: the word is 0 and its written bit clear (R173). -/
def Bench.rewriteDelay (b : Bench) (a : Option Nat) : Bench :=
  match a with
  | none => b
  | some a => { b with delay := Sparse.write none b.delay a none }

end Sys2Proof.Machine
end

