-- ==== Sys2Proof/Machine/Ops.lean ====
section
/-! DEFINITION. Sys2Proof/Machine/Ops.lean: the named operations over the state that the families share: benches, tenants,
the strapped layout, events, the alignment counter. -/
namespace Sys2Proof.Machine

/-- What a well-formed command comes to; an ill-formed one names no event that a part could meet, and changes nothing (DESIGN CHOICE,
log 9). -/
def ifWf (wf : Bool) (s t : State) : Out := .next (if wf then t else s)

/-- A temperature in a two's complement byte; outside −128 °C to 127 °C the byte is open (log 17). -/
def celsiusByte (c : Int) : Byte := if -128 ≤ c ∧ c ≤ 127 then BitVec.ofInt 8 c else Config.hotByte c

/-- A level against the window of a control input or a binary strap: at or below 0.3 × VDD_IO_A low, at or above 0.7 × VDD_IO_A high,
between them in the band (R26, R451). -/
def pinLevel (vddIo mv : Nat) : PinLevel :=
  if 10 * mv ≤ 3 * vddIo then .low else if 7 * vddIo ≤ 10 * mv then .high else .band

/-- The level of a control input; its pull-down makes an open one read low (R451). -/
def inputLevel (vddIo : Nat) (mv : Option Nat) : PinLevel := pinLevel vddIo (mv.getD 0)

end Sys2Proof.Machine

namespace Sys2Proof

/-- The level of a control input (R451). -/
def PinInput.level (p : PinInput) : PinLevel := Machine.inputLevel p.vddIo p.mv

end Sys2Proof

namespace Sys2Proof.Machine

/-- A tenant changed. -/
def State.modTenant (s : State) (t : TenantId) (f : Tenant → Tenant) : State :=
  { s with tenants := s.tenants.set t (f s.tenants[t]) }

/-- A tenant. -/
def State.tenant (s : State) (t : TenantId) : Tenant := s.tenants[t]

/-- A tenant's port changed. -/
def State.modPort (s : State) (t : TenantId) (f : Port → Port) : State :=
  s.modTenant t (fun x => { x with port := f x.port })

/-- A bench changed. -/
def State.modBench (s : State) (b : BenchId) (f : Bench → Bench) : State :=
  { s with benches := s.benches.set b (f s.benches[b]) }

/-- A bench. -/
def State.bench (s : State) (b : BenchId) : Bench := s.benches[b]

/-- The strap code of a coded pin, CODE_A 0 to CODE_H 7. -/
def State.code (s : State) (i : Nat) : BitVec 4 := vget s.straps.codes i 0

/-- The owner of each bench under a CODE_A code (Table STR-3); `none` is off. -/
def layoutOwner (code b : Nat) : Option TenantId :=
  match code with
  | 0 => some 0
  | 1 => if b < 6 then some 0 else some 1
  | 2 => if b < 4 then some 0 else some 1
  | 3 => if b < 2 then some 0 else some 1
  | 4 => if b < 4 then some 0 else if b < 6 then some 1 else some 2
  | 5 => if b < 2 then some 0 else if b < 4 then some 1 else some 2
  | 6 => if b < 2 then some 0 else if b < 4 then some 1 else if b < 6 then some 2 else some 3
  | 7 => if b < 4 then some 0 else if b < 6 then some 1 else if b = 6 then some 2 else some 3
  | 8 => if b < 6 then some 0 else if b = 6 then some 1 else some 2
  | 9 => if b < 7 then some 0 else some 1
  | 10 => if b = 0 then some 0 else some 1
  | 11 => if b < 4 then some 0 else none
  | 12 => if b < 2 then some 0 else none
  | 13 => if b = 0 then some 0 else none
  | 15 => some 0
  | _ => none

/-- Whether a coded pin has no code: it faulted with reason 1, 2 or 3 (R21, R22, R33). -/
def State.codeless (s : State) (pin : Nat) : Bool :=
  s.straps.faults.any (fun f => decide (f.pin = pin) && decide (f.reason ≤ 3))

/-- Whether CODE_A has no code, so that there is no tenant layout (R53). -/
def State.noLayout (s : State) : Bool := s.codeless 0

/-- The tenant that owns a bench (R30, R53). -/
def State.owner (s : State) (b : BenchId) : Option TenantId :=
  if s.noLayout then none else layoutOwner (s.code 0).toNat b.val

/-- Whether a tenant owns a bench. -/
def State.owns (s : State) (t : TenantId) (b : BenchId) : Bool := s.owner b == some t

/-- The benches a tenant owns, in ascending order. -/
def State.owned (s : State) (t : TenantId) : List BenchId := (List.finRange 8).filter (s.owns t)

/-- The mask of the benches a tenant owns. -/
def State.ownedMask (s : State) (t : TenantId) : Byte :=
  (s.owned t).foldl (fun m b => m ||| (1#8 <<< b.val)) 0

/-- Whether a tenant is present: it owns a bench, or there is no layout (Table STR-3, R53). -/
def State.present (s : State) (t : TenantId) : Bool := s.noLayout || !(s.owned t).isEmpty

/-- Whether a tenant waits for the hold strobe, is held, or waits for the release strobe of a tenant reset (R60, R61, R126). -/
def Tenant.underReset (x : Tenant) : Bool := x.held || x.holdDue.isSome || x.releaseDue.isSome

/-- An event set for a tenant, unless it is absent or under tenant reset (R309). -/
def State.raise (s : State) (t : TenantId) (bit : Nat) : State :=
  if s.present t = true ∧ (s.tenant t).held = false then
    s.modTenant t (fun x => { x with events := x.events ||| (1#32 <<< bit) })
  else s

/-- An event set for every present tenant (R310). -/
def State.raiseAll (s : State) (bit : Nat) : State := (List.finRange 4).foldl (fun s t => s.raise t bit) s

/-- An event set for the owner of a bench. -/
def State.raiseOwner (s : State) (b : BenchId) (bit : Nat) : State :=
  match s.owner b with
  | some t => s.raise t bit
  | none => s

/-- Whether the part has reached AWAIT_IMAGE in this power cycle: HELD_THERMAL keeps the clock of the latest strobe where it was
entered from there (Table PWR-2). -/
def State.sinceAwait (s : State) : Bool :=
  match s.power.state with
  | .awaitImage => true
  | .operating => true
  | .heldThermal => s.clock.strobed
  | _ => false

/-- ATTN_N_x driven low: an unmasked event is set, from AWAIT_IMAGE on, the tenant present and not held, its port not wedged (R312,
Table FLT-3). -/
def State.attention (s : State) (t : TenantId) : Bool :=
  let x := s.tenant t
  s.sinceAwait && s.present t && !x.held &&
    !vget s.faults.wedged (2 + t.val) false &&
    decide (x.events &&& ((x.image.map (·.eventMask)).getD 0) ≠ 0)

/-- Whether the part runs on strobes: AWAIT_IMAGE or OPERATING (Table PWR-2). -/
def State.running (s : State) : Bool :=
  decide (s.power.state = .awaitImage) || decide (s.power.state = .operating)

/-- The 44.1 kHz family (Table STR-4). -/
def State.family441 (s : State) : Bool := (s.code 1).getLsbD 3

/-- Frames per second, Ff. -/
def State.ff (s : State) : Nat := if s.family441 then 44100 else 48000

/-- CODE_B [2:1], the reference source (Table STR-4). -/
def State.refSource (s : State) : Nat := (s.code 1).toNat / 2 % 4

/-- Strapped as ring master (Table STR-5). -/
def State.isMaster (s : State) : Bool := decide (1 ≤ (s.code 2).toNat) && decide ((s.code 2).toNat ≤ 3)

/-- Strapped as ring member (Table STR-5). -/
def State.isMember (s : State) : Bool := decide (4 ≤ (s.code 2).toNat) && decide ((s.code 2).toNat ≤ 7)

/-- Strapped standalone (Table STR-5). -/
def State.isStandalone (s : State) : Bool := decide (s.code 2 = 0#4) || decide (s.code 2 = 15#4)

/-- Fold enabled by the role (Table STR-5). -/
def State.foldEnabled (s : State) : Bool := decide ((s.code 2).toNat ≠ 3) && decide ((s.code 2).toNat ≠ 6)

/-- The ring ID: CODE_E [1:0] × 16 + CODE_D (Table STR-6). -/
def State.ringId (s : State) : Nat := (s.code 4).toNat % 4 * 16 + (s.code 3).toNat

/-- The stream cell count 1, 2, 4 or 8 (Table STR-6). -/
def State.cellCount (s : State) : Nat := 2 ^ ((s.code 4).toNat / 4)

/-- The first stream cell the straps give: 36 + ring ID × cell count (Table STR-6). -/
def State.cellBase (s : State) : Nat := 36 + s.ringId * s.cellCount

/-- Whether the part owns a stream cell: not standalone, not listen-only (R30). -/
def State.ownsCell (s : State) (c : Nat) : Bool :=
  (s.isMaster || decide (4 ≤ (s.code 2).toNat ∧ (s.code 2).toNat ≤ 6)) &&
    decide (s.cellBase ≤ c) && decide (c < s.cellBase + s.cellCount)

/-- The alignment counter: the ring frame counter with ring lock, else the local frame counter (R66, R398). -/
def State.align (s : State) : Nat := if s.ring.locked = true ∧ s.isMaster = false then s.ring.counter else s.clock.frame

/-- The ring frame counter as reported: 0 without ring lock (Table TPT-8). -/
def State.ringFrame (s : State) : Nat :=
  if s.ring.locked then (if s.isMaster then s.clock.frame else s.ring.counter) else 0

/-- Whether the receive lane of a link is good. -/
def Ring.laneGood (r : Ring) (l : RingLink) : Bool := match l with | .up => r.laneUp | .down => r.laneDown

/-- Whether a link is whole: its receive lane is good and the other end does not signal it down (R372, R394). -/
def Ring.linkWhole (r : Ring) (l : RingLink) : Bool :=
  r.laneGood l && !(match l with | .up => r.severedUp | .down => r.severedDown)

/-- The link of the part's home visit, or, for the master, the one whose lap enters its pad: the up link, but the down link for the
far turning part, and for a master to which only the near arm's return comes (R377, R394). -/
def State.homeLink (s : State) : RingLink :=
  if s.isMaster then (if s.ring.linkWhole .up = false ∧ s.ring.linkWhole .down = true then .down else .up)
  else if s.ring.turning = some .far then .down
  else .up

/-- The economy bench divider in force (Table CLK-2). -/
def State.economy (s : State) : Bool := s.clock.plan.getLsbD 12

/-- Bench cycles per frame of the plan in force (Table CLK-3). -/
def State.benchCycles (s : State) : Nat := if s.economy then 3840 else 7680

/-- Whether a shared island is wedged, by its code (Table FLT-3). -/
def State.isWedged (s : State) (code : Nat) : Bool := vget s.faults.wedged (code - 1) false

/-- Whether W1 finds a shared island to be wedged at this strobe, by its code (R430). -/
def State.wedgeFound (s : State) (code : Nat) : Bool :=
  !s.isWedged code && decide (16 ≤ (vget s.faults.shake (code - 1) ⟨0, 0, true⟩).fails)

/-- Whether W2 finds the pit to be wedged at this strobe (R430). -/
def State.stallFound (s : State) : Bool := !s.isWedged 1 && decide (16 ≤ s.faults.pitStall)

/-- Whether a shared island is wedged from this strobe on, its command sent already or not (R432, R434). -/
def State.gone (s : State) (code : Nat) : Bool := s.isWedged code || s.wedgeFound code

/-- Whether W1 finds a bench to be fenced at this strobe (R430). -/
def State.fenceFound (s : State) (b : BenchId) : Bool :=
  decide (16 ≤ (s.bench b).shake.fails) && decide ((s.bench b).state ≠ .fenced)

/-- A failure sent to the dropped-failure counter: source 1 to 4 and its tenant (R437, Table FLT-5). -/
def State.drop (s : State) (t : TenantId) (source : Nat) : State :=
  { s with faults := { s.faults with
    dropped := if s.faults.dropped = 0xffffffff#32 then s.faults.dropped else s.faults.dropped + 1
    drops := { counts := vmod s.faults.drops.counts (source - 1) satInc16
               map := s.faults.drops.map ||| (1#16 <<< (4 * t.val + source - 1)) } } }

/-- A new rule epoch (R285). -/
def State.newEpoch (s : State) : State := { s with faults := { s.faults with epoch := s.faults.epoch + 1 } }

/-- The state code of a bench (Table TPT-7). -/
def BenchState.code (b : BenchState) : Nat :=
  match b with
  | .off => 0
  | .loaded => 1
  | .armed => 2
  | .running => 3
  | .late => 4
  | .held => 5
  | .fenced => 6

/-- The part state code (Table PWR-2); 0 where no port reports it. -/
def PartState.code (p : PartState) : Nat :=
  match p with
  | .por => 0
  | .strap => 0
  | .trust => 2
  | .clock => 3
  | .awaitImage => 4
  | .operating => 5
  | .heldTrust => 8
  | .heldStrap => 9
  | .heldClock => 10
  | .heldThermal => 11

/-- A bench that issues: RUNNING or LATE. -/
def Bench.active (b : Bench) : Bool := decide (b.state = .running) || decide (b.state = .late)

/-- A free value's index taken from the state's counter. -/
def State.takeFree (s : State) : Nat × State := (s.freeIdx, { s with freeIdx := s.freeIdx + 1 })

/-- Whether a pulse of `ns` on a control input is recognised: certainly from `sure` ns on, certainly not below `never`, and
between them as a free value (R54). The state's counter advances only when a free value is used. -/
def State.recognise (s : State) (ns never sure : Nat) : Bool × State :=
  if sure ≤ ns then (true, s) else if ns < never then (false, s)
  else (Config.recognisesPulse s.freeIdx, { s with freeIdx := s.freeIdx + 1 })

/-- Whether a request reaches its unit only when its outcome becomes final. -/
def InFlight.crosses (g : InFlight) : Bool := match g with | .judged _ => false | _ => true

/-- The notice-holding fields of a channel emptied (R299). -/
def Channel.empty (c : Channel) : Channel :=
  { c with full := false, visible := false, taken := false, done := false, code := 0, timedOut := false, timer := 0,
           residual := false, ack := none }

/-- A channel emptied at a strobe that starts it afresh: every field 0 (R291). -/
def ChannelDecl.start (d : ChannelDecl) : Channel :=
  { id := d.id, declared := true, explicit := d.explicit, timeout := d.timeout, notice := 0, full := false,
    visible := false, taken := false, done := false, code := 0, timedOut := false, timer := 0, residual := false,
    posting := 0, waitFor := 0, ack := none }

/-- The sender endpoint of a channel (R290). -/
def Channel.sender (c : Channel) : Nat := c.id.toNat / 16

/-- The receiver endpoint of a channel (R290). -/
def Channel.receiver (c : Channel) : Nat := c.id.toNat % 16

/-- The channel of an ID. -/
def State.channel (s : State) (id : Nat) : Option Channel := s.channels.find? (fun c => decide (c.id.toNat = id))

/-- A channel changed. -/
def State.modChannel (s : State) (id : Nat) (f : Channel → Channel) : State :=
  { s with channels := s.channels.map (fun c => if c.id.toNat = id then f c else c) }

/-- The tenant whose images of a bench say which it is: the active image of the bench's owner. -/
def State.benchImage (s : State) (b : BenchId) : Option Image := (s.owner b).bind (fun t => (s.tenant t).image)

/-- Whether the tenant reloads: from the acceptance of LAST until activation or failure (R146). -/
def State.reloads (s : State) (t : TenantId) : Bool :=
  s.staging.holder == some t &&
    (match s.staging.phase with
     | .complete => true
     | .verifying => true
     | .passed => true
     | .installing => true
     | _ => false)

/-- Whether a tenant's image is being installed: from the hold strobe to the activation strobe (R146). -/
def State.installing (s : State) (t : TenantId) : Bool :=
  s.staging.holder == some t && decide (s.staging.phase = .installing)

/-- Whether a bench is reloading: from the hold strobe to the activation strobe of its owner's image (R146). -/
def State.benchReloading (s : State) (b : BenchId) : Bool := (s.owner b).any s.installing

/-- Whether a receiving bench is absent: OFF, HELD, FENCED or reloading (R299). -/
def State.benchAbsent (s : State) (b : BenchId) : Bool :=
  match (s.bench b).state with
  | .off => true
  | .held => true
  | .fenced => true
  | .loaded => true
  | _ => s.benchReloading b

/-- A bench's numeric name as a bench. -/
def benchOf (n : Nat) : BenchId := ⟨n % 8, Nat.mod_lt _ (by decide)⟩

/-- A tenant's numeric name as a tenant. -/
def tenantOf (n : Nat) : TenantId := ⟨n % 4, Nat.mod_lt _ (by decide)⟩

/-- Whether an endpoint is absent as a receiver: a bench under R299, a host while its tenant is under tenant reset. -/
def State.endpointAbsent (s : State) (e : Nat) : Bool :=
  if e < 8 then s.benchAbsent (benchOf e) else (s.tenant (tenantOf (e - 8))).held

end Sys2Proof.Machine
end

