-- ==== Sys2Proof/Machine/Audio.lean ====
section
/-! DEFINITION. Sys2Proof/Machine/Audio.lean: the serial audio ports: arrangements, the FADE and ALIGN policies, capture and
load of followers, and the start of masters (R313 to R340 of spec/13_audio_ports.md). -/
namespace Sys2Proof.Machine

/-- The role of a port under CODE_G: 0 unused, 1 input master, 2 input follower, 3 output master, 4 output follower. -/
def arrangement (g : Nat) : List Nat :=
  match g with
  | 0 => [1, 1, 1, 1, 3, 3, 3, 3]
  | 1 => [2, 2, 2, 2, 4, 4, 4, 4]
  | 2 => [1, 1, 3, 3, 3, 3, 3, 3]
  | 3 => [1, 1, 1, 1, 1, 1, 3, 3]
  | 4 => [1, 1, 1, 1, 1, 1, 1, 1]
  | 5 => [3, 3, 3, 3, 3, 3, 3, 3]
  | 6 => [2, 1, 1, 1, 3, 3, 3, 3]
  | 7 => [2, 4, 1, 1, 3, 3, 3, 3]
  | 8 => [2, 2, 2, 2, 3, 3, 3, 3]
  | 9 => [1, 1, 1, 1, 4, 4, 4, 4]
  | 10 => [1, 1, 3, 3, 0, 0, 0, 0]
  | 11 => [2, 0, 0, 0, 0, 0, 0, 0]
  | 12 => [1, 3, 0, 0, 0, 0, 0, 0]
  | 13 => [2, 4, 4, 4, 0, 0, 0, 0]
  | _ => [0, 0, 0, 0, 0, 0, 0, 0]

/-- The role of a port (Table SAP-1). -/
def State.portRole (s : State) (p : SapId) : Nat := (arrangement (s.code 6).toNat).getD p.val 0

/-- Whether a role is an input's. -/
def roleInput (r : Nat) : Bool := decide (r = 1) || decide (r = 2)

/-- Whether a role is a master's. -/
def roleMaster (r : Nat) : Bool := decide (r = 1) || decide (r = 3)

/-- A port. -/
def State.sap (s : State) (p : SapId) : AudioPort := s.audio[p]

/-- A port changed. -/
def State.modSap (s : State) (p : SapId) (f : AudioPort → AudioPort) : State :=
  { s with audio := s.audio.set p (f s.audio[p]) }

/-- Whether the audio island works: the part runs, and the island is not wedged (R71, Table FLT-3). -/
def State.audioLive (s : State) : Bool := s.running && !s.isWedged 7

/-- Port frames per frame: 2 at double rate. -/
def PortEntry.rate (e : PortEntry) : Nat := if e.double then 2 else 1

/-- B, the bits per frame (R316). -/
def PortEntry.bits (e : PortEntry) : Nat := e.slots * e.width * e.rate

/-! ### FADE -/

/-- G_0 to G_64 (spec/13_audio_ports.md, "Mechanism: FADE"). -/
def fadeGains : List Nat :=
  [2147483647, 2146190279, 2142313288, 2135862014, 2126852000, 2115304951, 2101248686, 2084717066, 2065749918, 2044392936,
    2020697571, 1994720906, 1966525522] ++
  [1936179344, 1903755478, 1869332037, 1832991949, 1794822761, 1754916426, 1713369082, 1670280819, 1625755442, 1579900216,
    1532825610, 1484645031, 1435474550] ++
  [1385432623, 1334639806, 1283218462, 1231292471, 1178986927, 1126427838, 1073741824, 1021055810, 968496721, 916191177,
    864265186, 812843842, 762051025] ++
  [712009098, 662838617, 614658038, 567583432, 521728206, 477202829, 434114566, 392567222, 352660887, 314491699, 278151611,
    243728170, 211304304] ++
  [180958126, 152762742, 126786077, 103090712, 81733730, 62766582, 46234962, 32178697, 20631648, 11621634, 5170360, 1293369,
    0]

/-- A sample scaled by G_j. -/
def fadeScale (x : Word) (j : Nat) : Word := BitVec.ofInt 32 (roundEven (x.toInt * ((fadeGains.getD j 0 : Nat) : Int)) 31)

/-- The last sample that a slot carried; the later one at double rate (R334). -/
def AudioSlot.last (x : AudioSlot) : Word := x.content.getLastD 0

/-- A slot that carries fade step `j` of `h`, and goes on from there; step 64 is the last (Table SAP-6). -/
def AudioSlot.fadeTo (x : AudioSlot) (h : Word) (j n : Nat) : AudioSlot :=
  { x with phase := if 64 ≤ j then .silent else .fading, j := j + 1, held := h, content := List.replicate n (fadeScale h j) }

/-- One frame of a slot under FADE: `j` is the step that this frame carries. The slot after it, and whether it leaves LIVE or
falls back from RAMPING (R334, R335). -/
def AudioSlot.fade (x : AudioSlot) (fault : Bool) (sample : List Word) : AudioSlot × Bool :=
  let n := sample.length
  let y := { x with clean := if fault then 0 else x.clean + 1 }
  match x.phase with
  | .live => if fault then (y.fadeTo x.last 1 n, true) else ({ y with content := sample }, false)
  | .fading => (y.fadeTo x.held x.j n, false)
  | .silent =>
    let z := { y with content := List.replicate n 0 }
    (if fault = false ∧ 16 ≤ x.clean then { z with phase := .ramping, j := 1 } else z, false)
  | .ramping =>
    if fault then (y.fadeTo x.last (65 - x.j) n, true)
    else ({ y with phase := if 64 ≤ x.j then .live else .ramping, j := x.j + 1,
                   content := sample.map (fun v => fadeScale v (64 - x.j)) }, false)

/-- One frame of a slot under ALIGN: 0 where the frame is inserted or the slot faults (R332, R336). -/
def AudioSlot.align (x : AudioSlot) (zero : Bool) (sample : List Word) : AudioSlot :=
  { x with content := if zero then sample.map (fun _ => 0#32) else sample }

/-! ### Samples -/

/-- The words that a slot of a received port frame delivers: the received bits in the top bits of each word (R318). The frame
lists its slots in order, at double rate the second port frame after the first. -/
def PortEntry.received (e : PortEntry) (ws : List Word) (k : Nat) : List Word :=
  (List.range e.rate).map (fun r => (ws.getD (r * e.slots + k) 0) <<< (32 - e.width))

/-- An output sample narrowed to w bits, left-aligned (R318). -/
def narrowSample (w : Nat) (x : Word) : Word :=
  let q := roundEven x.toInt (32 - w)
  let m : Int := (2 ^ (w - 1) : Nat)
  BitVec.ofInt 32 (max (-m) (min (m - 1) q) * ((2 ^ (32 - w) : Nat) : Int))

/-- One frame of a port: for each slot, whether it faults, whether ALIGN carries 0, and its sample; and whether a slot left LIVE.
What an output slot carries is narrowed, a faded sample as a live one (R318). -/
def AudioPort.carry (p : AudioPort) (e : PortEntry) (out : Bool) (fault zero : Nat → Bool) (sample : Nat → List Word) :
    AudioPort × Bool :=
  let narrow := fun (x : AudioSlot) => if out then { x with content := x.content.map (narrowSample e.width) } else x
  let one := fun (i : Nat) (x : AudioSlot) =>
    if e.slots ≤ i then (x, false)
    else if e.align then (narrow (x.align (zero i) (sample i)), false)
    else (narrow (x.fade (fault i) (sample i)).1, (x.fade (fault i) (sample i)).2)
  ({ p with slots := p.slots.mapIdx (fun i x => (one i x).1) }, (p.slots.mapIdx (fun i x => (one i x).2)).toList.any id)

/-- Whether a route feeds or reads a place of a slot. -/
def PortEntry.routed (e : PortEntry) (k : Nat) (second : Bool) : Bool :=
  e.routes.any (fun r => decide (r.slot = k) && (r.second == second))

/-- The value published for a place. -/
def pubAt (pub : List (Bool × Word)) (second : Bool) : Option Word :=
  (pub.find? (fun x => x.1 == second)).map (·.2)

/-- Whether a routed place of a slot lacks its publication once its bench has published (R325, R336). -/
def PortEntry.missing (e : PortEntry) (x : AudioSlot) (pub : List (Bool × Word)) (k : Nat) : Bool :=
  (List.range e.rate).any (fun r =>
    x.started.contains (decide (r = 1)) && e.routed k (decide (r = 1)) && (pubAt pub (decide (r = 1))).isNone)

/-- The narrowed samples published for a slot; 0 where no route feeds a place or nothing is published (R318, R325). -/
def PortEntry.samples (e : PortEntry) (pub : List (Bool × Word)) (k : Nat) : List Word :=
  (List.range e.rate).map (fun r =>
    if e.routed k (decide (r = 1)) then narrowSample e.width ((pubAt pub (decide (r = 1))).getD 0) else 0)

/-- A slot's part of a publication of a follower output. -/
def pubSlot (pub : List (Nat × Bool × Word)) (k : Nat) : List (Bool × Word) :=
  (pub.filter (fun x => decide (x.1 = k))).map (·.2)

/-! ### The strobe -/

/-- The events of a port's frame: a slip's, and PORT_FADE (R331, R335). -/
def State.portEvents (s : State) (t : TenantId) (slip : Option Slip) (faded : Bool) : State :=
  let s := match slip with
    | some .underrun => s.raise t 19
    | some .overrun => s.raise t 20
    | none => s
  if faded then s.raise t 21 else s

/-- The contents of an input port's slots put where the view sees them. -/
def AudioPort.deliver (p : AudioPort) : AudioPort := { p with delivered := p.slots.map (·.content) }

/-- A master input at the strobe: the frame received since the previous strobe is delivered; after a gap it is an underrun
(R321, R339). A port's first frame edge lies before the strobe at which it starts, so that strobe delivers nothing. -/
def AudioPort.masterIn (p : AudioPort) (e : PortEntry) (ws : List Word) (frame : Nat) : AudioPort × Option Slip × Bool :=
  if p.running = false then ({ p with gap := false }, none, false)
  else if p.startDue = some frame then ({ p with startDue := none, gap := false }, none, false)
  else
    let c := p.carry e false (fun _ => p.gap) (fun _ => p.gap) (e.received ws)
    ({ c.1.deliver with gap := false }, if p.gap then some .underrun else none, c.2)

/-- A follower input at the strobe: what its capture took is delivered (R327, R331, R332). -/
def AudioPort.followerIn (p : AudioPort) (e : PortEntry) : AudioPort × Option Slip × Bool :=
  if p.captured.isNone ∧ p.slip.isNone then (p, none, false)
  else
    let ws := p.captured.getD []
    let c := p.carry e false (fun _ => p.slip.isSome) (fun _ => p.captured.isNone) (e.received ws)
    ({ c.1.deliver with captured := none, slip := none }, p.slip, c.2)

/-- A master output at the strobe: the port frame whose edge lies 2 bit clocks before it carries the publications of the
strobe before (R321, R336, R339). -/
def AudioPort.masterOut (p : AudioPort) (e : PortEntry) (frame : Nat) : AudioPort × Option Slip × Bool :=
  let clear := fun (q : AudioPort) => { q with slots := q.slots.map (fun x => { x with pub := [] }), gap := false }
  if p.running = false then (clear p, none, false)
  else
    let pub := fun (k : Nat) => (vget p.slots k AudioSlot.init).pub
    let bad := fun (k : Nat) => p.gap || e.missing (vget p.slots k AudioSlot.init) (pub k) k
    let c := p.carry e true bad bad (fun k => e.samples (pub k) k)
    let q := if p.startDue = some frame then { c.1 with startDue := none } else c.1
    (clear q, if p.gap then some .underrun else none, c.2)

/-- A port that no image names any more at its next frame edge: it stops (R338). -/
def AudioPort.stopHere (x : AudioPort) : AudioPort := { x with ending := false, slots := Vector.replicate 16 AudioSlot.init }

/-- One port at the strobe that begins `frame`; a follower output takes its frames at its own edges (R329). The frame edge of a
master that stops lies 2 bit clocks before the strobe (R320, R338). -/
def State.sapStrobe (s : State) (frame : Nat) (frames : Vector (List Word) 8) (p : SapId) : State :=
  match (s.sap p).entry with
  | none => if (s.sap p).ending = true ∧ roleMaster (s.portRole p) = true then s.modSap p AudioPort.stopHere else s
  | some (t, e) =>
    let r := s.portRole p
    let x := s.sap p
    let y := if r = 1 then x.masterIn e frames[p] frame
      else if r = 2 then x.followerIn e
      else if r = 3 then x.masterOut e frame
      else (x, none, false)
    (s.modSap p (fun _ => y.1)).portEvents t y.2.1 y.2.2

/-- Every port at the strobe. -/
def State.audioStrobe (s : State) (frame : Nat) (frames : Vector (List Word) 8) : State :=
  if s.audioLive then (List.finRange 8).foldl (fun s p => s.sapStrobe frame frames p) s else s

/-! ### Publication by a bench -/

/-- A place of a slot that has had a publication to carry (R325). -/
def AudioSlot.start (x : AudioSlot) (second : Bool) : AudioSlot :=
  { x with started := if x.started.contains second then x.started else second :: x.started }

/-- One value of a bench's period put where the port takes it: a master output carries it in its next frame, a follower output from
its load on (R174, R321, R329). `time` is that of the strobe of publication. -/
def AudioPort.publish (p : AudioPort) (role : Nat) (time : Nat) (r : Route) (v : Word) : AudioPort :=
  if role = 4 then
    match p.pubs with
    | (f, l) :: rest =>
      if f = time then { p with pubs := (f, (r.slot, r.second, v) :: l) :: rest }
      else { p with pubs := ((time, [(r.slot, r.second, v)]) :: p.pubs).take 4 }
    | [] => { p with pubs := [(time, [(r.slot, r.second, v)])] }
  else
    { p with slots := vmod p.slots r.slot (fun x =>
      let y := x.start r.second
      { y with pub := if role = 3 then (r.second, v) :: x.pub else x.pub }) }

/-- The output routes of a bench in one port served: a POUT of the period gives the value, no POUT gives 0 (R319). -/
def State.publishSap (s : State) (b : BenchId) (outputs : List (Nat × Word)) (p : SapId) : State :=
  match (s.sap p).entry with
  | none => s
  | some (_, e) =>
    let role := s.portRole p
    if roleInput role then s
    else
      (e.routes.filter (fun r => decide (r.bench = b))).foldl (fun s r =>
        let v := ((outputs.find? (fun o => decide (o.1 = r.ix))).map (·.2)).getD 0
        s.modSap p (fun x => x.publish role s.clock.time r v)) s

/-- The audio outputs of a bench's period published. -/
def State.publishAudio (s : State) (b : BenchId) (outputs : List (Nat × Word)) : State :=
  (List.finRange 8).foldl (fun s p => s.publishSap b outputs p) s

/-- A view entry filled from the input routes of a bench in one port (R213). -/
def State.viewSap (s : State) (b : BenchId) (v : Vector Word 64) (p : SapId) : Vector Word 64 :=
  match (s.sap p).entry with
  | none => v
  | some (_, e) =>
    if roleInput (s.portRole p) then
      (e.routes.filter (fun r => decide (r.bench = b))).foldl (fun v r =>
        vmod v r.ix (fun _ => (vget (s.sap p).delivered r.slot []).getD (if r.second then 1 else 0) 0)) v
    else v

/-- The audio part of a bench's input view (R166, R213). -/
def State.viewAudio (s : State) (b : BenchId) : Vector Word 64 :=
  (List.finRange 8).foldl (fun v p => s.viewSap b v p) (Vector.replicate 64 0)

/-! ### Followers -/

/-- P or Q in island cycles (R327, R329). -/
def AudioPort.point (p : AudioPort) : Nat := if p.wide then 1344 else 64

/-- Table SAP-5: whether P or Q is 1,344 from now on, after a capture or a load of age `a`. -/
def adjust (wide underrun overrun : Bool) (a : Nat) : Bool :=
  if underrun then true
  else if overrun then false
  else if wide = false ∧ 2432 < a then true
  else if wide = true ∧ a < 128 then false
  else wide

/-- The ports of a port's alignment group, whatever their roles, or the port itself (R333). -/
def State.alignGroup (s : State) (p : SapId) : List SapId :=
  match (s.sap p).entry with
  | none => []
  | some (t, e) =>
    if e.group = 0 then [p]
    else (List.finRange 8).filter (fun q => (s.sap q).entry.any (fun x => decide (x.1 = t) && decide (x.2.group = e.group)))

/-- The lead of a port: the lowest-numbered port of its group (R333). -/
def State.lead (s : State) (p : SapId) : SapId := (s.alignGroup p).headD p

/-- Whether a port leads its group (R333). -/
def State.leads (s : State) (p : SapId) : Bool := decide (s.lead p = p)

/-- Whether a port's own capture or load comes about: it leads, or its lead is a master port. A master port has no capture point and
never slips, so the members behind it take their frames at P = Q = 64 without an adjustment (R333; DESIGN CHOICE, log 62). -/
def State.drives (s : State) (p : SapId) : Bool :=
  (s.sap p).entry.isSome && (s.leads p || roleMaster (s.portRole (s.lead p)))

/-- The ports that take a frame at a port's capture or load point: its group where it leads, else itself (R333). -/
def State.driven (s : State) (p : SapId) : List SapId := if s.leads p then s.alignGroup p else [p]

/-- P or Q of a port that drives: its own where it leads, else 64 (R333). -/
def State.drivePoint (s : State) (p : SapId) : Nat := if s.leads p then (s.sap p).point else 64

/-- The time of an island cycle of the frame in progress, which R84 and R380 may lengthen beyond 2,560 of them. -/
def State.islandTime (s : State) (cycle : Nat) : Nat := s.clock.time + 3 * cycle

/-- The time of the strobe that comes (R84, R96, R380). -/
def State.nextStrobe (s : State) : Nat := s.clock.time + 7680 + s.clock.added

/-- FOLLOWER_FRAME_COMPLETE: a port frame of B bits moves into the holding register, over an undelivered one as an overrun; a
frame of another length is discarded (R327, R330). -/
def State.followerFrameComplete (s : State) (p : SapId) (bits : Nat) (samples : List Word) (cycle : Nat) : State :=
  match (s.sap p).entry with
  | none => s
  | some (_, e) =>
    if s.audioLive = true ∧ s.portRole p = 2 ∧ bits = e.bits then
      s.modSap p (fun x => { x with overrun := x.overrun || x.holding.isSome
                                    holding := some (samples, s.islandTime cycle) })
    else s

/-- A group member at its lead's capture: an insertion where the lead underruns, else its own frame, or 0 for itself (R333). -/
def AudioPort.captureMember (x : AudioPort) (now : Nat) (underrun overrun : Bool) : AudioPort :=
  if underrun then { x with captured := none, slip := some .underrun }
  else
    match x.holding.filter (fun h => decide (h.2 ≤ now)) with
    | none => { x with captured := none, slip := some .underrun }
    | some h => { x with captured := some h.1, holding := none, overrun := false,
                         slip := if overrun || x.overrun then some .overrun else none }

/-- The lead at its capture (R327, R328). -/
def AudioPort.capture (x : AudioPort) (now : Nat) : AudioPort :=
  let h := x.holding.filter (fun h => decide (h.2 ≤ now))
  let a := (now - (h.map (·.2)).getD now) / 3
  { x with captured := h.map (·.1), holding := if h.isSome then none else x.holding, overrun := false,
           slip := if h.isNone then some .underrun else if x.overrun then some .overrun else none,
           wide := adjust x.wide h.isNone x.overrun a }

/-- The publications of a follower output that take effect at least Q island cycles before a time, latest first (R329). -/
def AudioPort.eligible (x : AudioPort) (now q : Nat) : List (Nat × List (Nat × Bool × Word)) :=
  x.pubs.filter (fun e => decide (e.1 + 3 * q ≤ now))

/-- A follower output whose places have had the publications that a load at a time can take: a publication that comes less than Q
cycles before a load starts its places only with the next one (R325, R329). -/
def AudioPort.startPlaces (x : AudioPort) (now q : Nat) : AudioPort :=
  { x with slots := ((x.eligible now q).flatMap (·.2)).foldl (fun l z => vmod l z.1 (fun y => y.start z.2.1)) x.slots }

/-- A follower output's frame loaded (R329, R332, R336): `slip` is its own or its lead's. -/
def AudioPort.loadFrame (x : AudioPort) (e : PortEntry) (now q : Nat) (slip : Option Slip) : AudioPort × Bool :=
  let latest := ((x.eligible now q).head?.map (·.2)).getD []
  let under := decide (slip = some .underrun)
  let miss := fun (k : Nat) => under || e.missing (vget x.slots k AudioSlot.init) (pubSlot latest k) k
  let c := x.carry e true (fun k => slip.isSome || miss k) miss (fun k => e.samples (pubSlot latest k) k)
  ({ c.1 with pubs := x.pubs.filter (fun z => !decide (z.1 + 3 * q ≤ now)) }, c.2)

/-- Whether a slot of a port has ever had a publication to carry (R325). -/
def AudioPort.begun (x : AudioPort) : Bool := x.slots.toList.any (fun y => !y.started.isEmpty)

/-- The slip of a follower output at a load, its places started (R329): an underrun where no publication has taken effect since the
previous load, for whatever reason; none before the first publication that a load can take (R325). -/
def AudioPort.loadSlip (x : AudioPort) (now q : Nat) : Option Slip :=
  if x.begun = false then none
  else
    match x.eligible now q with
    | [] => some .underrun
    | [_] => none
    | _ => some .overrun

/-- One port of a load: the lead adjusts Q; a member takes the lead's slip, else its own (R329, R331, R333). -/
def State.loadOne (s : State) (p : SapId) (now q : Nat) (lead : Bool) (slip : Option Slip) : State :=
  match (s.sap p).entry with
  | none => s
  | some (t, e) =>
    let x := (s.sap p).startPlaces now q
    let mine := if slip.isSome then slip else x.loadSlip now q
    let a := (now - ((x.eligible now q).head?.map (·.1)).getD now) / 3
    let l := x.loadFrame e now q mine
    let y := if lead = true ∧ x.begun = true then
        { l.1 with wide := adjust x.wide (decide (mine = some .underrun)) (decide (mine = some .overrun)) a }
      else l.1
    (s.modSap p (fun _ => y)).portEvents t mine l.2

/-- A member of a group other than its lead at the lead's capture or load, with the lead's slip: a follower input takes its frame, a
follower output loads, a master port goes on (R333). -/
def State.followLead (s : State) (m : SapId) (now q : Nat) (slip : Option Slip) : State :=
  if s.portRole m = 2 then
    s.modSap m (fun z => z.captureMember now (decide (slip = some .underrun)) (decide (slip = some .overrun)))
  else if s.portRole m = 4 then s.loadOne m now q false slip
  else s

/-- FOLLOWER_CAPTURE: the capture point of the strobe that comes, P island cycles before it (R327, R328, R333). -/
def State.followerCapture (s : State) (p : SapId) : State :=
  if s.audioLive = true ∧ s.portRole p = 2 ∧ s.drives p = true then
    let q := s.drivePoint p
    let now := s.nextStrobe - 3 * q
    let y := (s.sap p).capture now
    let z := if s.leads p then y else { y with wide := (s.sap p).wide }
    (s.driven p).foldl (fun u m => if m = p then u.modSap p (fun _ => z) else u.followLead m now q y.slip) s
  else s

/-- FOLLOWER_OUTPUT_LOAD: at its frame edge the port loads the latest publication (R329 to R333); a port that no image names any more
stops there (R338). -/
def State.followerOutputLoad (s : State) (p : SapId) (cycle : Nat) : State :=
  if (s.sap p).ending = true ∧ s.portRole p = 4 then s.modSap p AudioPort.stopHere
  else if s.audioLive = true ∧ s.portRole p = 4 ∧ s.drives p = true then
    let now := s.islandTime cycle
    let q := s.drivePoint p
    let slip := ((s.sap p).startPlaces now q).loadSlip now q
    (s.driven p).foldl (fun u m => if m = p then u.loadOne p now q (s.leads p) none else u.followLead m now q slip) s
  else s

/-! ### Start and stop -/

/-- A start frame set for every named master port that is stopped and waits for none (R323, R324). -/
def State.startPorts (s : State) (f : Nat) : State :=
  (List.finRange 8).foldl (fun s p =>
    let x := s.sap p
    if x.entry.isSome = true ∧ roleMaster (s.portRole p) = true ∧ x.running = false ∧ x.startDue = none then
      s.modSap p (fun x => { x with startDue := some f })
    else s) s

/-- The starts that wait given up: a member that loses ring lock before its start frame does not start (R324, R400). -/
def State.dropStarts (s : State) : State :=
  { s with audio := s.audio.map (fun x => if x.running then x else { x with startDue := none }) }

/-- MASTER_PORT_START: a master port starts with its first frame edge 2 bit clocks before its start strobe; on a member, with ring
lock (R323, R324). -/
def State.masterPortStart (s : State) (p : SapId) : State :=
  let x := s.sap p
  if s.audioLive = true ∧ (s.isMember = false ∨ s.ring.locked = true) ∧ roleMaster (s.portRole p) = true ∧ x.entry.isSome = true ∧ x.running = false ∧
      x.startDue.any (fun d => decide (d ≤ s.clock.frame + 1)) = true then
    s.modSap p (fun x => { x with running := true,
                                  startDue := if x.startDue = some (s.clock.frame + 1) then x.startDue else none })
  else s

/-- A port that no image names any more: it stops at its next frame edge, and carries its frame to there (R338). -/
def AudioPort.unnamed (x : AudioPort) : AudioPort :=
  { AudioPort.init with
    named := true, ending := x.running, slots := x.slots.map (fun y => { AudioSlot.init with content := y.content }) }

/-- What an activation strobe does to one port: a port no longer named stops, a newly named one waits for its start, and a
port named before keeps running with the new routes; nothing starts on a wedged island (R326, R338, R432). -/
def State.nameSap (s : State) (t : TenantId) (p : SapId) (e : Option PortEntry) : State :=
  let mine := (s.sap p).entry.any (fun x => decide (x.1 = t))
  match e with
  | none => if mine then s.modSap p AudioPort.unnamed else s
  | some e =>
    if mine then s.modSap p (fun x => { x with entry := some (t, e) })
    else
      let follower := !roleMaster (s.portRole p) && !s.isWedged 7
      s.modSap p (fun _ => { AudioPort.init with entry := some (t, e), running := follower, named := true })

/-- Every port stopped: its outputs carry 0 and its inputs deliver 0 (R71, Table FLT-3). -/
def State.stopAudio (s : State) : State :=
  { s with audio := s.audio.map (fun x =>
    { x with running := false, ending := false, startDue := none, delivered := Vector.replicate 16 [0, 0]
             slots := x.slots.map (fun y => { y with content := [0, 0], pub := [] }) }) }

/-- A gap of the strobes: the next frame of every master port is an underrun (R339, R380). -/
def State.gapAudio (s : State) : State :=
  (List.finRange 8).foldl (fun s p =>
    if roleMaster (s.portRole p) = true ∧ (s.sap p).running = true then s.modSap p (fun x => { x with gap := true })
    else s) s

/-- MASTER_PORT_START (R323). -/
def execMasterPortStart (p : SapId) (s : State) : Out := .next (s.masterPortStart p)

/-- FOLLOWER_FRAME_COMPLETE (R327). -/
def execFollowerFrameComplete (p : SapId) (bits : Nat) (samples : List Word) (cycle : Nat) (s : State) : Out :=
  .next (s.followerFrameComplete p bits samples cycle)

/-- FOLLOWER_CAPTURE (R327). -/
def execFollowerCapture (p : SapId) (s : State) : Out := .next (s.followerCapture p)

/-- FOLLOWER_OUTPUT_LOAD (R329). -/
def execFollowerOutputLoad (p : SapId) (cycle : Nat) (s : State) : Out := .next (s.followerOutputLoad p cycle)

end Sys2Proof.Machine
end

