-- ==== Sys2Proof/Machine/Glide.lean ====
section
/-! DEFINITION. Sys2Proof/Machine/Glide.lean: the coefficient banks, commits, flips and glides (R239 to R263 of
spec/10_glide_commit.md). -/
namespace Sys2Proof.Machine

/-- The active bank: the targets (R239). -/
def Coefs.active (c : Coefs) : Sparse Word := if c.active1 then c.bank1 else c.bank0

/-- The shadow bank (R239). -/
def Coefs.shadow (c : Coefs) : Sparse Word := if c.active1 then c.bank0 else c.bank1

/-- The shadow bank replaced. -/
def Coefs.setShadow (c : Coefs) (m : Sparse Word) : Coefs :=
  if c.active1 then { c with bank0 := m } else { c with bank1 := m }

/-- The words of a bank in index order. -/
def bankWords (m : Sparse Word) : List Word := (List.range 4096).map (Sparse.read 0 m)

/-- The shadow CRC (R244). -/
def Coefs.shadowCrc (c : Coefs) : Word := crc32cWords (bankWords c.shadow)

/-- The values in force: the targets, with the value of each running glide (R240). -/
def Coefs.inForce (c : Coefs) : Sparse Word :=
  c.glides.foldl (fun m g => Sparse.write 0 m g.ix (BitVec.ofInt 32 g.value)) c.active

/-- Whether a law is LIN k or POLE k with k ≥ 1 (R241). -/
def lawGlides (l : Byte) : Bool := (decide (l.toNat / 64 = 1) || decide (l.toNat / 64 = 2)) && decide (l.toNat % 16 ≠ 0)

/-- The gliding indexes of a bench (R241). -/
def Coefs.gliding (c : Coefs) : List Nat := (c.laws.filter (fun x => lawGlides x.2)).map (·.1)

/-- Whether a glide runs on an index. -/
def Coefs.runs (c : Coefs) (ix : Nat) : Bool := c.glides.any (fun g => decide (g.ix = ix))

/-- G of R246. -/
def Coefs.capacity (c : Coefs) : Nat :=
  (c.gliding.filter (fun ix => decide (Sparse.read 0 c.shadow ix ≠ Sparse.read 0 c.active ix) || c.runs ix)).length

/-- One step of a glide under its law (R253, R254); `none` when its value reaches the target, where it ends (R255). -/
def Glide.step (g : Glide) (law : Byte) : Option Glide :=
  let k := law.toNat % 16
  let v :=
    if law.toNat / 64 = 1 then g.v0 + roundEven ((g.target - g.v0) * ((g.j + 1 : Nat) : Int)) k
    else
      let e := g.target - g.value
      let inc := roundEven e k
      g.value + (if inc = 0 then (if 0 < e then 1 else if e < 0 then -1 else 0) else inc)
  if v = g.target then none else some { g with j := g.j + 1, value := v }

/-- Every running glide of a bench advanced by one step. -/
def Coefs.tick (c : Coefs) : Coefs :=
  { c with glides := c.glides.filterMap (fun g => g.step (Sparse.read 0 c.laws g.ix)) }

/-- The glides that a flip starts: from the values in force to the new targets, at their first step (R250, R256). -/
def Coefs.newGlides (c : Coefs) : List Glide :=
  let old := c.inForce
  c.gliding.filterMap (fun ix =>
    let v := (Sparse.read 0 old ix).toInt
    let t := (Sparse.read 0 c.shadow ix).toInt
    if v = t then none else ({ ix := ix, v0 := v, target := t, j := 0, value := v } : Glide).step (Sparse.read 0 c.laws ix))

/-- The flip and the copy-forward (R250, R251, R257): the shadow becomes active and the new shadow equals it; STEP for every
index when the first-commit flag is set, which a running bench clears. -/
def Coefs.flip (c : Coefs) (running : Bool) : Coefs :=
  { c with
    bank0 := c.shadow, bank1 := c.shadow, active1 := !c.active1
    glides := if c.first then [] else c.newGlides
    first := c.first && !running
    commit := c.commit.map (fun p => { p with flipped := true }) }

/-- A bench whose commit flips at a frame (R247). -/
def Coefs.flipsAt (c : Coefs) (frame : Nat) : Bool := c.commit.any (fun p => !p.flipped && decide (p.n + 2 ≤ frame))

/-- The benches of a mask, ascending. -/
def maskBenches (m : Byte) : List BenchId := (List.finRange 8).filter (fun b => m.getLsbD b.val)

/-- Whether a bench is OFF, HELD or FENCED (Table GLD-1). -/
def State.commitAbsent (s : State) (b : BenchId) : Bool :=
  match (s.bench b).state with
  | .off => true
  | .held => true
  | .fenced => true
  | _ => false

/-- The checks of Table GLD-1 in order; a host gives the shadow CRCs in ascending bench order (R245). -/
def State.checkCommit (s : State) (t : TenantId) (mask : Byte) (crcs : Option (List Word)) : Byte :=
  let bs := maskBenches mask
  if s.reloads t then 0x16
  else if bs.any s.commitAbsent then 0x09
  else if bs.any (fun b => (s.bench b).coefs.commit.isSome) then 0x16
  else if crcs.any (fun l => decide (bs.map (fun b => (s.bench b).coefs.shadowCrc) ≠ l.take bs.length)) then 0x15
  else if bs.any (fun b => decide (512 < (s.bench b).coefs.capacity)) then 0x16
  else 0x00

/-- A commit request judged, and pending from now on if accepted (R245, R247). -/
def State.requestCommit (s : State) (t : TenantId) (mask : Byte) (crcs : Option (List Word)) : Byte × State :=
  let code := s.checkCommit t mask crcs
  (code,
    if code = 0 then
      (maskBenches mask).foldl (fun s b =>
        s.modBench b (fun x => { x with coefs := { x.coefs with commit := some ⟨s.clock.frame, false⟩ } })) s
    else s)

/-- A STAGE judged and written (R242, R243). -/
def State.stageCoefs (s : State) (t : TenantId) (b : BenchId) (first : Nat) (words : List Word) : Byte × State :=
  if s.reloads t then (0x16, s)
  else if s.commitAbsent b then (0x09, s)
  else if 4096 < first + words.length then (0x06, s)
  else if (s.bench b).coefs.commit.isSome then (0x16, s)
  else (0x00, s.modBench b (fun x =>
    { x with coefs := x.coefs.setShadow (Sparse.writeAll 0 x.coefs.shadow first words) }))

/-- A bench after its flip; a period that begins at this strobe reads the new values (R167, R248). -/
def Bench.flip (b : Bench) (frame : Nat) : Bench :=
  let c := b.coefs.flip b.active
  { b with coefs := if b.active = true ∧ b.seq.start = frame then { c with view := c.inForce } else c }

/-- COMMIT_FLIP: the banks of the tenant's benches whose flip strobe this is (R247, R248). -/
def State.commitFlip (s : State) (t : TenantId) : State :=
  if s.running then
    (s.owned t).foldl (fun s b =>
      if (s.bench b).coefs.flipsAt s.clock.frame then s.modBench b (fun x => x.flip s.clock.frame) else s) s
  else s

/-- Whether a bench's commit ends: it has flipped, at an earlier strobe (R247, R262). -/
def Coefs.endsAt (c : Coefs) (frame : Nat) : Bool := c.commit.any (fun p => p.flipped && decide (p.n + 3 ≤ frame))

/-- COMMIT_DONE: the event raised and the commit no longer pending (R262). -/
def State.commitDone (s : State) (t : TenantId) : State :=
  let bs := (s.owned t).filter (fun b => (s.bench b).coefs.endsAt s.clock.frame)
  if bs.isEmpty then s
  else (bs.foldl (fun s b => s.modBench b (fun x => { x with coefs := { x.coefs with commit := none } })) s).raise t 5

/-- A bench's pending commit abandoned: no flip and no copy-forward (R258 to R260). A commit that has flipped stands. -/
def Coefs.abandon (c : Coefs) : Coefs :=
  if c.commit.any (fun p => !p.flipped) then { c with commit := none } else c

/-- Whether a commit waits for its flip. -/
def Coefs.waits (c : Coefs) : Bool := c.commit.any (fun p => !p.flipped)

/-- The active bank copied into the shadow, every glide ended, the first-commit flag set (R257, R258). -/
def Coefs.restart (c : Coefs) : Coefs :=
  { c with bank0 := c.active, bank1 := c.active, glides := [], first := true }

/-- COMMIT_FLIP (R250). -/
def execCommitFlip (t : TenantId) (s : State) : Out := .next (s.commitFlip t)

/-- COMMIT_DONE (R262). -/
def execCommitDone (t : TenantId) (s : State) : Out := .next (s.commitDone t)

end Sys2Proof.Machine
end

