-- ==== Sys2Proof/Machine/Functions.lean ====
section
/-! DEFINITION. Sys2Proof/Machine/Functions.lean: the function steps LOG2, EXP2 and RSQ (R204 to R206 of
spec/08_compute_steps.md). Each result is free (Config) inside the rule's bounds: no number is chosen. The
bounds of LOG2 and EXP2 are computed outward to about 2^-30 of a unit, so every value the rule allows stays allowed. -/
namespace Sys2Proof.Machine

/-- `n` bits of the integer square root of `v`, from bit `n - 1` down; `acc` is the root so far. -/
def isqrtBits (v : Nat) : Nat → Nat → Nat
  | 0, acc => acc
  | n + 1, acc => isqrtBits v n (if (acc + 2 ^ n) * (acc + 2 ^ n) ≤ v then acc + 2 ^ n else acc)

/-- The integer square root of a number below 2^400. -/
def isqrt (v : Nat) : Nat := isqrtBits v 200 0

/-- `v` taken into the range from `lo` to `hi`. -/
def clampInt (lo hi v : Int) : Int := max lo (min hi v)

/-- The place of the highest bit of a number below 2^n. -/
def topBit : Nat → Nat → Nat
  | 0, _ => 0
  | n + 1, a => if 2 ^ n ≤ a then n else topBit n a

/-- `n` bits of log2 of a mantissa `m` in units of 2^-128, from 1 to 2, each squaring rounded down (`up = 0`) or up
(`up = 1`); `acc` holds the bits so far. -/
def log2Bits (up : Nat) : Nat → Nat → Nat → Nat
  | 0, _, acc => acc
  | n + 1, m, acc =>
    let sq := (m * m + up * (2 ^ 128 - 1)) / 2 ^ 128
    if 2 ^ 129 ≤ sq then log2Bits up n ((sq + up) / 2) (2 * acc + 1) else log2Bits up n sq (2 * acc)

/-- 2^26 × log2 of a / 2^31 in units of 2^-34, rounded down, for 0 < a < 2^31. -/
def log2Low (a : Nat) : Int :=
  (log2Bits 0 60 (a * 2 ^ (128 - topBit 31 a)) 0 : Int) + ((topBit 31 a : Int) - 31) * (2 ^ 60 : Nat)

/-- 2^26 × log2 of a / 2^31 in units of 2^-34, rounded up, for 0 < a < 2^31. -/
def log2High (a : Nat) : Int :=
  (log2Bits 1 60 (a * 2 ^ (128 - topBit 31 a)) 0 : Int) + 1 + ((topBit 31 a : Int) - 31) * (2 ^ 60 : Nat)

/-- The least result that R204 allows for 0 < a < 2^31. -/
def log2Lo (a : Nat) : Int :=
  max (((topBit 31 a : Int) - 31) * (2 ^ 26 : Nat)) (-((-(log2Low a - 4 * (2 ^ 34 : Nat))) / (2 ^ 34 : Nat)))

/-- The greatest result that R204 allows for 0 < a < 2^31. -/
def log2Hi (a : Nat) : Int :=
  if a = 2 ^ topBit 31 a then ((topBit 31 a : Int) - 31) * (2 ^ 26 : Nat)
  else min (((topBit 31 a : Int) - 30) * (2 ^ 26 : Nat)) ((log2High a + 4 * (2 ^ 34 : Nat)) / (2 ^ 34 : Nat))

/-- The greatest of `lo` and the `n` values above it that a non-decreasing function has reached at `a`: `reach v` is the least
operand at which it reaches v. -/
def climb (reach : Int → Nat) (a : Nat) (lo : Int) : Nat → Int
  | 0 => lo
  | n + 1 => if reach (lo + (n + 1)) ≤ a then lo + (n + 1) else climb reach a lo n

/-- LOG2 of a positive Q1.31 value in units of 2^-26: a free non-decreasing function inside R204's bounds. -/
def log2Result (a : Nat) : Int := climb Config.log2Reach a (log2Lo a) (log2Hi a - log2Lo a).toNat

/-- 2^(f / 2^n) in units of 2^-128 for the `n` low bits of f, rounded down (`up = 0`) or up (`up = 1`); `root` is
2^(1 / 2^i) for the bit `n - 1` that stands next. -/
def exp2Bits (up : Nat) : Nat → Nat → Nat → Nat → Nat
  | 0, _, _, acc => acc
  | n + 1, f, root, acc =>
    exp2Bits up n f (isqrt (root * 2 ^ 128) + up)
      (if f.testBit n then (acc * root + up * (2 ^ 128 - 1)) / 2 ^ 128 else acc)

/-- 2^(f / 2^26) in units of 2^-128, rounded down or up, for f below 2^26. -/
def exp2Mantissa (up f : Nat) : Nat := exp2Bits up 26 f (isqrt (2 * 2 ^ 256) + up) (2 ^ 128)

/-- The least result that R205 allows for y = m / 2^26 - 32 with 0 ≤ m < 32 × 2^26, in units of 2^-31. -/
def exp2Lo (m : Nat) : Int :=
  let e := m / 2 ^ 26
  let x : Nat := exp2Mantissa 0 (m % 2 ^ 26) * 2 ^ e
  let y : Nat := exp2Mantissa 1 (m % 2 ^ 26) * 2 ^ e
  max (if e = 0 then 0 else (2 ^ (e - 1) : Nat))
    (-((-((x : Int) * (2 ^ 22 : Nat) - (y : Int) - (2 ^ 151 : Nat))) / ((2 ^ 151 : Nat) : Int)))

/-- The greatest result that R205 allows for y = m / 2^26 - 32 with 0 ≤ m < 32 × 2^26 and a register holds, in units of
2^-31. -/
def exp2Hi (m : Nat) : Int :=
  let e := m / 2 ^ 26
  let y : Nat := exp2Mantissa 1 (m % 2 ^ 26) * 2 ^ e
  if m % 2 ^ 26 = 0 ∧ 0 < e then (2 ^ (e - 1) : Nat)
  else min q31Max (min (2 ^ e : Nat) (((y : Int) * (2 ^ 22 : Nat) + (y : Int) + (2 ^ 151 : Nat)) / (2 ^ 151 : Nat)))

/-- EXP2 of a Q6.26 value y = m / 2^26 - 32 from -32 to below 0, in units of 2^-31: a free non-decreasing function inside R205's
bounds. -/
def exp2Result (m : Nat) : Int := climb Config.exp2Reach m (exp2Lo m) (exp2Hi m - exp2Lo m).toNat

/-- The square of 2^31 × t of R206, as numerator and denominator: t² = 2^(31 - 2S) / a. -/
def rsqSquare (a s : Nat) : Nat × Nat := (2 ^ 93, a * 2 ^ (2 * s))

/-- Whether RSQ clamps: t ≥ 1 - 2^-31 (R206). -/
def rsqClamps (a s : Nat) : Bool :=
  decide ((2 ^ 31 - 1) * (2 ^ 31 - 1) * (rsqSquare a s).2 ≤ (rsqSquare a s).1)

/-- The least result that R206 allows, in units of 2^-31. -/
def rsqLo (a s : Nat) : Int :=
  let q := (rsqSquare a s).1 * (2 ^ 22 - 1) * (2 ^ 22 - 1)
  let d := (rsqSquare a s).2 * 2 ^ 44
  let r := isqrt (q / d)
  (if r * r * d = q then (r : Int) else r + 1) - 1

/-- The greatest result that R206 allows and a register holds, in units of 2^-31. -/
def rsqHi (a s : Nat) : Int :=
  min q31Max ((isqrt ((rsqSquare a s).1 * (2 ^ 22 + 1) * (2 ^ 22 + 1) / ((rsqSquare a s).2 * 2 ^ 44)) : Int) + 1)

/-- RSQ of a positive Q1.31 value that does not clamp, in units of 2^-31: exact where t is a power of two, else the free
value inside R206's bounds. -/
def rsqResult (a s : Nat) : Int :=
  let r := isqrt ((rsqSquare a s).1 / (rsqSquare a s).2)
  if r * r * (rsqSquare a s).2 = (rsqSquare a s).1 ∧ r = 2 ^ topBit 32 r then r
  else clampInt (rsqLo a s) (rsqHi a s) (Config.rsqValue a s)

end Sys2Proof.Machine
end

