-- ==== Sys2Proof/Machine/Compute.lean ====
section
/-! DEFINITION. Sys2Proof/Machine/Compute.lean: what each compute step does to its bench when it performs (R187 to R208 of
spec/08_compute_steps.md). The bench is settled: its registers, predicates, delay words and seen accumulators are those the
step reads; `r` is the step's position, from which its own writes count. -/
namespace Sys2Proof.Machine

/-- A step that writes one register. -/
def Bench.writeReg (b : Bench) (f : StepFields) (r : Nat) (v : Word) : Bench := b.push r (.reg f.rd v)

/-- A step that writes one register under the overflow rule or narrowing (R162). -/
def Bench.writeSat (b : Bench) (f : StepFields) (r : Nat) (v : Word × Bool) : Bench :=
  b.pushAll r (.reg f.rd v.1 :: satFlag v.2)

/-- MOV writes a (R187). -/
def Bench.stepMov (b : Bench) (f : StepFields) (r : Nat) : Bench := b.writeReg f r (b.reg f.ra)

/-- MOVI writes IMM (R187). -/
def Bench.stepMovi (b : Bench) (f : StepFields) (r : Nat) : Bench := b.writeReg f r (f.ext.extractLsb' 0 32)

/-- ADD writes a + b under the overflow rule (R188). -/
def Bench.stepAdd (b : Bench) (f : StepFields) (r : Nat) : Bench :=
  b.writeSat f r (overflow32 f.sat ((b.reg f.ra).toInt + (b.reg f.rb).toInt))

/-- SUB writes a - b under the overflow rule (R188). -/
def Bench.stepSub (b : Bench) (f : StepFields) (r : Nat) : Bench :=
  b.writeSat f r (overflow32 f.sat ((b.reg f.ra).toInt - (b.reg f.rb).toInt))

/-- NEG writes -a under the overflow rule (R188). -/
def Bench.stepNeg (b : Bench) (f : StepFields) (r : Nat) : Bench :=
  b.writeSat f r (overflow32 f.sat (-(b.reg f.ra).toInt))

/-- ABS writes |a| under the overflow rule (R188). -/
def Bench.stepAbs (b : Bench) (f : StepFields) (r : Nat) : Bench :=
  b.writeSat f r (overflow32 f.sat ((b.reg f.ra).toInt.natAbs : Int))

/-- MIN writes the smaller of a and b, signed (R189). -/
def Bench.stepMin (b : Bench) (f : StepFields) (r : Nat) : Bench :=
  b.writeReg f r (if (b.reg f.rb).toInt < (b.reg f.ra).toInt then b.reg f.rb else b.reg f.ra)

/-- MAX writes the larger of a and b, signed (R189). -/
def Bench.stepMax (b : Bench) (f : StepFields) (r : Nat) : Bench :=
  b.writeReg f r (if (b.reg f.ra).toInt < (b.reg f.rb).toInt then b.reg f.rb else b.reg f.ra)

/-- AND writes the bitwise result (R189). -/
def Bench.stepAnd (b : Bench) (f : StepFields) (r : Nat) : Bench := b.writeReg f r (b.reg f.ra &&& b.reg f.rb)

/-- IOR writes the bitwise result (R189). -/
def Bench.stepIor (b : Bench) (f : StepFields) (r : Nat) : Bench := b.writeReg f r (b.reg f.ra ||| b.reg f.rb)

/-- XOR writes the bitwise result (R189). -/
def Bench.stepXor (b : Bench) (f : StepFields) (r : Nat) : Bench := b.writeReg f r (b.reg f.ra ^^^ b.reg f.rb)

/-- The shift amount n: AMT, or register b read unsigned and at most 31 (R190). -/
def Bench.shiftAmount (b : Bench) (f : StepFields) : Nat :=
  if f.ext.getLsbD 37 then f.amt else min (b.reg f.rb).toNat 31

/-- SHL writes a × 2^n under the overflow rule (R191). -/
def Bench.stepShl (b : Bench) (f : StepFields) (r : Nat) : Bench :=
  b.writeSat f r (overflow32 f.sat ((b.reg f.ra).toInt * (2 ^ b.shiftAmount f : Nat)))

/-- SHRA writes a × 2^-n, rounded down, or to the nearest with ties to even when RND is 1 (R191). -/
def Bench.stepShra (b : Bench) (f : StepFields) (r : Nat) : Bench :=
  b.writeReg f r (BitVec.ofInt 32
    (if f.ext.getLsbD 36 then roundEven (b.reg f.ra).toInt (b.shiftAmount f)
     else (b.reg f.ra).toInt / (2 ^ b.shiftAmount f : Nat)))

/-- SHRL shifts the bit pattern right and fills with zeros (R191). -/
def Bench.stepShrl (b : Bench) (f : StepFields) (r : Nat) : Bench :=
  b.writeReg f r (b.reg f.ra >>> b.shiftAmount f)

/-- The shifted product in units of 2^-62 (R160, R192). -/
def shiftedProduct (x y : Word) (sh : Nat) : Int := x.toInt * y.toInt * (2 ^ sh : Nat)

/-- MUL writes narrow a × b × 2^SH (R192). -/
def Bench.stepMul (b : Bench) (f : StepFields) (r : Nat) : Bench :=
  b.writeSat f r (narrow32 f.sat (shiftedProduct (b.reg f.ra) (b.reg f.rb) f.sh) 31)

/-- MULC writes narrow a × k × 2^SH (R192). -/
def Bench.stepMulc (b : Bench) (f : StepFields) (r : Nat) : Bench :=
  b.writeSat f r (narrow32 f.sat (shiftedProduct (b.reg f.ra) (b.coef (b.coefIndex f)) f.sh) 31)

/-- A chain write: chain steps see it at the next position, other readers from the third (R161, R164). -/
def Bench.chainWrite (b : Bench) (n r : Nat) (v : BitVec 72 × Option Nat) : Bench :=
  ({ b with acc := vmod b.acc n (fun _ => v.1) }).pushAll r
    (.acc n v.1 :: (match v.2 with | none => [] | some i => [.flag i]))

/-- A chain step that adds a number in units of 2^-62 to the accumulator named by dst (R161, R193). -/
def Bench.chainAdd (b : Bench) (f : StepFields) (r : Nat) (p : Int) : Bench :=
  b.chainWrite (accField f.dst) r (chain72 f.sat ((vget b.acc (accField f.dst) 0).toInt + p))

/-- MAC forms A + a × b (R193). -/
def Bench.stepMac (b : Bench) (f : StepFields) (r : Nat) : Bench :=
  b.chainAdd f r (shiftedProduct (b.reg f.ra) (b.reg f.rb) f.sh)

/-- MACC forms A + a × k (R193). -/
def Bench.stepMacc (b : Bench) (f : StepFields) (r : Nat) : Bench :=
  b.chainAdd f r (shiftedProduct (b.reg f.ra) (b.coef (b.coefIndex f)) f.sh)

/-- MSU forms A - a × b (R193). -/
def Bench.stepMsu (b : Bench) (f : StepFields) (r : Nat) : Bench :=
  b.chainAdd f r (-shiftedProduct (b.reg f.ra) (b.reg f.rb) f.sh)

/-- MSUC forms A - a × k (R193). -/
def Bench.stepMsuc (b : Bench) (f : StepFields) (r : Nat) : Bench :=
  b.chainAdd f r (-shiftedProduct (b.reg f.ra) (b.coef (b.coefIndex f)) f.sh)

/-- ACLR sets the accumulator to 0 (R194). -/
def Bench.stepAclr (b : Bench) (f : StepFields) (r : Nat) : Bench := b.chainWrite (accField f.dst) r (0, none)

/-- ALD sets the accumulator to a × 2^SH (R194). -/
def Bench.stepAld (b : Bench) (f : StepFields) (r : Nat) : Bench :=
  b.chainWrite (accField f.dst) r
    (BitVec.ofInt 72 ((b.reg f.ra).toInt * (2 ^ 31 : Nat) * (2 ^ f.sh : Nat)), none)

/-- The accumulator as readers other than chain steps see it, narrowed after the right shift SH (R195). -/
def Bench.narrowAcc (b : Bench) (f : StepFields) : Word × Bool :=
  narrow32 f.sat (vget b.accSeen (accField f.sa) 0).toInt (31 + f.sh)

/-- AST writes the narrowed accumulator (R195). -/
def Bench.stepAst (b : Bench) (f : StepFields) (r : Nat) : Bench := b.writeSat f r (b.narrowAcc f)

/-- The conditions of Table CMP-3; a reserved condition, which verification refuses, is false. -/
def cmpCond (cond : Nat) (x y : Word) : Bool :=
  match cond with
  | 0 => x == y
  | 1 => x != y
  | 2 => decide (x.toInt < y.toInt)
  | 3 => decide (x.toInt ≤ y.toInt)
  | 4 => decide (y.toInt < x.toInt)
  | 5 => decide (y.toInt ≤ x.toInt)
  | 6 => decide (x.toNat < y.toNat)
  | 7 => decide (x.toNat ≤ y.toNat)
  | 8 => decide (y.toNat < x.toNat)
  | 9 => decide (y.toNat ≤ x.toNat)
  | 10 => (x &&& y) != 0
  | 11 => (x &&& y) == 0
  | _ => false

/-- COMB: SET, AND, IOR or XOR with P_q (Table CMP-2). -/
def cmpComb (comb : Nat) (c q : Bool) : Bool :=
  match comb with
  | 0 => c
  | 1 => c && q
  | 2 => c || q
  | _ => c != q

/-- CMP writes P_PD (R196). -/
def Bench.stepCmp (b : Bench) (f : StepFields) (r : Nat) : Bench :=
  let y := if f.ext.getLsbD 25 then BitVec.ofNat 32 (f.bits 0 16 * 2 ^ 16) else b.reg f.rb
  b.push r (.pred (f.bits 31 3) (cmpComb (f.bits 29 2) (cmpCond (f.bits 34 4) (b.reg f.ra) y) (b.pred (f.bits 26 3))))

/-- SEL writes a when P_q is 1 and b when it is 0 (R197). -/
def Bench.stepSel (b : Bench) (f : StepFields) (r : Nat) : Bench :=
  b.writeReg f r (if b.pred (f.bits 0 3) then b.reg f.ra else b.reg f.rb)

/-- CLAMP writes min(max(a, b), c); F is 'the written value differs from a' (R198). -/
def Bench.stepClamp (b : Bench) (f : StepFields) (r : Nat) : Bench :=
  let a := b.reg f.ra
  let m := if a.toInt < (b.reg f.rb).toInt then b.reg f.rb else a
  let c := b.reg (f.bits 0 5)
  let v := if c.toInt < m.toInt then c else m
  b.pushAll r (.reg f.rd v :: flagWrite f (v != a))

/-- `x + round(f × (y - x))` with f in units of 2^-k, the product rounded with ties to even (R200, R203, R207). -/
def interpolate (x y : Word) (f : Int) (k : Nat) : Int := x.toInt + roundEven (f * (y.toInt - x.toInt)) k

/-- DRD reads tap TAP or the tap in b (R199). `addr` is the step's program address and `frame` the frame, for the failure
record. -/
def Bench.stepDrd (b : Bench) (f : StepFields) (r : Nat) (ecc : EccRead) (addr frame : Nat) : Bench :=
  let t := if f.ext.getLsbD 31 then (b.reg f.rb).toNat else f.bits 0 16
  let x := b.tap f.line t ecc addr frame
  (b.rewriteDelay x.2.2).pushAll r (.reg f.rd x.1 :: x.2.1)

/-- DRDF reads b as a Q16.16 tap and interpolates between two taps (R200). -/
def Bench.stepDrdf (b : Bench) (f : StepFields) (r : Nat) (ecc0 ecc1 : EccRead) (addr frame : Nat) : Bench :=
  let n := (b.line f.line).length
  let tau := min (b.reg f.rb).toNat ((n - 1) * 2 ^ 16)
  let i := tau / 2 ^ 16
  let x := b.tap f.line i ecc0 addr frame
  if tau % 2 ^ 16 = 0 then (b.rewriteDelay x.2.2).pushAll r (.reg f.rd x.1 :: x.2.1)
  else
    let y := b.tap f.line (i + 1) ecc1 addr frame
    ((b.rewriteDelay x.2.2).rewriteDelay y.2.2).pushAll r
      (.reg f.rd (BitVec.ofInt 32 (interpolate x.1 y.1 ((tau % 2 ^ 16 : Nat) : Int) 16)) :: (x.2.1 ++ y.2.1))

/-- DWR writes a to the now position of LINE (R201). -/
def Bench.stepDwr (b : Bench) (f : StepFields) (r : Nat) : Bench :=
  b.push r (.delay f.line ((b.line f.line).addr 0) (b.reg f.ra))

/-- DWRA writes the narrowed accumulator to the now position of LINE (R195). -/
def Bench.stepDwra (b : Bench) (f : StepFields) (r : Nat) : Bench :=
  b.pushAll r (.delay f.line ((b.line f.line).addr 0) (b.narrowAcc f).1 :: satFlag (b.narrowAcc f).2)

/-- CRD writes the coefficient at its index (R202). -/
def Bench.stepCrd (b : Bench) (f : StepFields) (r : Nat) : Bench := b.writeReg f r (b.coef (b.coefIndex f))

/-- LUT reads table TBL (R203). -/
def Bench.stepLut (b : Bench) (f : StepFields) (r : Nat) : Bench :=
  let a := b.reg f.ra
  let v := if f.ext.getLsbD 2 then a else a ^^^ 0x80000000#32
  let i := v.toNat / 2 ^ 24
  let e := fun j => b.coef (3072 + 256 * f.bits 0 2 + j)
  if i = 255 then b.writeReg f r (e 255)
  else b.writeReg f r (BitVec.ofInt 32 (interpolate (e i) (e (i + 1)) ((v.toNat % 2 ^ 24 : Nat) : Int) 24))

/-- LOG2 writes the base-2 logarithm; F is 'x ≤ 0' (R204). -/
def Bench.stepLog2 (b : Bench) (f : StepFields) (r : Nat) : Bench :=
  let a := b.reg f.ra
  if a.toInt ≤ 0 then b.pushAll r (.reg f.rd 0x80000000#32 :: flagWrite f true)
  else b.pushAll r (.reg f.rd (BitVec.ofInt 32 (log2Result a.toNat)) :: flagWrite f false)

/-- EXP2 writes the base-2 exponential; F is 'y ≥ 0' (R205). -/
def Bench.stepExp2 (b : Bench) (f : StepFields) (r : Nat) : Bench :=
  let y := (b.reg f.ra).toInt
  if 0 ≤ y then b.pushAll r (.reg f.rd 0x7fffffff#32 :: flagWrite f true)
  else b.pushAll r (.reg f.rd (BitVec.ofInt 32 (exp2Result (y + 2147483648).toNat)) :: flagWrite f false)

/-- RSQ writes the scaled reciprocal square root; F is 'x ≤ 0 or t ≥ 1 - 2^-31' (R206). -/
def Bench.stepRsq (b : Bench) (f : StepFields) (r : Nat) : Bench :=
  let a := b.reg f.ra
  if a.toInt ≤ 0 ∨ rsqClamps a.toNat (f.bits 0 5) = true then
    b.pushAll r (.reg f.rd 0x7fffffff#32 :: flagWrite f true)
  else b.pushAll r (.reg f.rd (BitVec.ofInt 32 (rsqResult a.toNat (f.bits 0 5))) :: flagWrite f false)

/-- The input u of ENVF: peak or power of a (R207). -/
def envInput (power : Bool) (a : Word) : Int :=
  if power then min q31Max (roundEven (a.toInt * a.toInt) 31) else min q31Max (a.toInt.natAbs : Int)

/-- ENVF moves its own destination towards u by the attack or the release coefficient; F is 'attack' (R207). -/
def Bench.stepEnvf (b : Bench) (f : StepFields) (r : Nat) : Bench :=
  let e := (b.reg f.rd).toInt
  let u := envInput (f.ext.getLsbD 16) (b.reg f.ra)
  let attack := decide (e < u)
  let k := b.coef (if attack then b.coefIndex f else b.coefIndex f + 1)
  let v := overflow32 f.sat (e + roundEven (k.toInt * (u - e)) 31)
  b.pushAll r (.reg f.rd v.1 :: (satFlag v.2 ++ flagWrite f attack))

end Sys2Proof.Machine
end

