-- ==== Sys2Proof/Machine/Issue.lean ====
section
/-! DEFINITION. Sys2Proof/Machine/Issue.lean: the issue of one step (R152 to R157 of spec/07_bench_model.md, R93 of
spec/04_clock_plans.md), and the meanings of the compute steps (Table CMP-1 of spec/08_compute_steps.md). -/
namespace Sys2Proof.Machine

/-- The program address of the next step (R64). -/
def Sequencer.address (q : Sequencer) : Nat := q.vector + q.issued

/-- The bench cycles of the period so far in which a step or a stretch cycle of the issue window can fall: not the 8 at the
start, nor, in the period's last frame, the 8 at the end (R93). -/
def Sequencer.window (q : Sequencer) (last : Bool) : Nat := q.granted - 8 - (if last then 8 else 0)

/-- Whether a cycle of the issue window is left for a step. -/
def Sequencer.room (q : Sequencer) (last : Bool) : Bool := decide (q.issued + q.stretch < q.window last)

/-- Whether the bench's period ends at the next strobe (R150, R151). -/
def State.lastFrame (s : State) (b : BenchId) : Bool :=
  let q := (s.bench b).seq
  decide (q.due ≤ s.clock.frame + 1) && decide ((s.align + 1) % q.divisor = 0)

/-- Whether a step command is the step that the bench issues next: the bench runs, fewer than L steps have issued, a cycle is
left, and the program word is this step (R152). -/
def State.issues (s : State) (b : BenchId) (op : BitVec 6) (f : StepFields) : Bool :=
  let x := s.bench b
  s.running && decide (s.clock.stepped ≠ .stopped) && x.active && decide (x.seq.issued < x.seq.length) &&
    x.seq.room (s.lastFrame b) && decide (Sparse.read 0 x.seq.prog x.seq.address = encodeStep op f)

/-- The step's issue position, counted without a break across periods (R219). -/
def Sequencer.position (q : Sequencer) : Nat := q.before + q.issued

/-- A step issued: the bench settles to what this position sees, the step performs if its predicate is true, and the position
is taken either way (R152, R156, R157). `act` is the step's effect at its position. -/
def State.issue (s : State) (b : BenchId) (op : BitVec 6) (f : StepFields) (act : State → Nat → State) : State :=
  if s.issues b op f then
    let r := (s.bench b).seq.position
    let u := s.modBench b (fun x => x.settle r)
    let v := if (u.bench b).performs f then act u r else u
    v.modBench b (fun x => { x with seq := { x.seq with issued := x.seq.issued + 1 } })
  else s

/-- A step issued whose effect lies in its bench alone. -/
def State.issueBench (s : State) (b : BenchId) (op : BitVec 6) (f : StepFields) (act : Bench → StepFields → Nat → Bench) :
    State :=
  s.issue b op f (fun u r => u.modBench b (fun x => act x f r))

/-- NOP only takes its issue position (R187). -/
def execNop (b : BenchId) (f : StepFields) (s : State) : Out := .next (s.issueBench b 0x00#6 f (fun x _ _ => x))

/-- MOV (R187). -/
def execMov (b : BenchId) (f : StepFields) (s : State) : Out := .next (s.issueBench b 0x01#6 f Bench.stepMov)

/-- MOVI (R187). -/
def execMovi (b : BenchId) (f : StepFields) (s : State) : Out := .next (s.issueBench b 0x02#6 f Bench.stepMovi)

/-- ADD (R188). -/
def execAdd (b : BenchId) (f : StepFields) (s : State) : Out := .next (s.issueBench b 0x03#6 f Bench.stepAdd)

/-- SUB (R188). -/
def execSub (b : BenchId) (f : StepFields) (s : State) : Out := .next (s.issueBench b 0x04#6 f Bench.stepSub)

/-- NEG (R188). -/
def execNeg (b : BenchId) (f : StepFields) (s : State) : Out := .next (s.issueBench b 0x05#6 f Bench.stepNeg)

/-- ABS (R188). -/
def execAbs (b : BenchId) (f : StepFields) (s : State) : Out := .next (s.issueBench b 0x06#6 f Bench.stepAbs)

/-- MIN (R189). -/
def execMin (b : BenchId) (f : StepFields) (s : State) : Out := .next (s.issueBench b 0x07#6 f Bench.stepMin)

/-- MAX (R189). -/
def execMax (b : BenchId) (f : StepFields) (s : State) : Out := .next (s.issueBench b 0x08#6 f Bench.stepMax)

/-- AND (R189). -/
def execAnd (b : BenchId) (f : StepFields) (s : State) : Out := .next (s.issueBench b 0x09#6 f Bench.stepAnd)

/-- IOR (R189). -/
def execIor (b : BenchId) (f : StepFields) (s : State) : Out := .next (s.issueBench b 0x0a#6 f Bench.stepIor)

/-- XOR (R189). -/
def execXor (b : BenchId) (f : StepFields) (s : State) : Out := .next (s.issueBench b 0x0b#6 f Bench.stepXor)

/-- SHL (R191). -/
def execShl (b : BenchId) (f : StepFields) (s : State) : Out := .next (s.issueBench b 0x0c#6 f Bench.stepShl)

/-- SHRA (R191). -/
def execShra (b : BenchId) (f : StepFields) (s : State) : Out := .next (s.issueBench b 0x0d#6 f Bench.stepShra)

/-- SHRL (R191). -/
def execShrl (b : BenchId) (f : StepFields) (s : State) : Out := .next (s.issueBench b 0x0e#6 f Bench.stepShrl)

/-- MUL (R192). -/
def execMul (b : BenchId) (f : StepFields) (s : State) : Out := .next (s.issueBench b 0x10#6 f Bench.stepMul)

/-- MULC (R192). -/
def execMulc (b : BenchId) (f : StepFields) (s : State) : Out := .next (s.issueBench b 0x11#6 f Bench.stepMulc)

/-- MAC (R193). -/
def execMac (b : BenchId) (f : StepFields) (s : State) : Out := .next (s.issueBench b 0x12#6 f Bench.stepMac)

/-- MACC (R193). -/
def execMacc (b : BenchId) (f : StepFields) (s : State) : Out := .next (s.issueBench b 0x13#6 f Bench.stepMacc)

/-- MSU (R193). -/
def execMsu (b : BenchId) (f : StepFields) (s : State) : Out := .next (s.issueBench b 0x14#6 f Bench.stepMsu)

/-- MSUC (R193). -/
def execMsuc (b : BenchId) (f : StepFields) (s : State) : Out := .next (s.issueBench b 0x15#6 f Bench.stepMsuc)

/-- ACLR (R194). -/
def execAclr (b : BenchId) (f : StepFields) (s : State) : Out := .next (s.issueBench b 0x16#6 f Bench.stepAclr)

/-- ALD (R194). -/
def execAld (b : BenchId) (f : StepFields) (s : State) : Out := .next (s.issueBench b 0x17#6 f Bench.stepAld)

/-- AST (R195). -/
def execAst (b : BenchId) (f : StepFields) (s : State) : Out := .next (s.issueBench b 0x18#6 f Bench.stepAst)

/-- CMP (R196). -/
def execCmp (b : BenchId) (f : StepFields) (s : State) : Out := .next (s.issueBench b 0x19#6 f Bench.stepCmp)

/-- SEL (R197). -/
def execSel (b : BenchId) (f : StepFields) (s : State) : Out := .next (s.issueBench b 0x1a#6 f Bench.stepSel)

/-- CLAMP (R198). -/
def execClamp (b : BenchId) (f : StepFields) (s : State) : Out := .next (s.issueBench b 0x1b#6 f Bench.stepClamp)

/-- DRD (R199). -/
def execDrd (b : BenchId) (f : StepFields) (ecc : EccRead) (s : State) : Out :=
  .next (s.issueBench b 0x1c#6 f (fun x f r => x.stepDrd f r ecc x.seq.address s.clock.frame))

/-- DRDF (R200). -/
def execDrdf (b : BenchId) (f : StepFields) (ecc0 ecc1 : EccRead) (s : State) : Out :=
  .next (s.issueBench b 0x1d#6 f (fun x f r => x.stepDrdf f r ecc0 ecc1 x.seq.address s.clock.frame))

/-- DWR (R201). -/
def execDwr (b : BenchId) (f : StepFields) (s : State) : Out := .next (s.issueBench b 0x1e#6 f Bench.stepDwr)

/-- DWRA (R195). -/
def execDwra (b : BenchId) (f : StepFields) (s : State) : Out := .next (s.issueBench b 0x1f#6 f Bench.stepDwra)

/-- CRD (R202). -/
def execCrd (b : BenchId) (f : StepFields) (s : State) : Out := .next (s.issueBench b 0x20#6 f Bench.stepCrd)

/-- LUT (R203). -/
def execLut (b : BenchId) (f : StepFields) (s : State) : Out := .next (s.issueBench b 0x21#6 f Bench.stepLut)

/-- LOG2 (R204). -/
def execLog2 (b : BenchId) (f : StepFields) (s : State) : Out := .next (s.issueBench b 0x22#6 f Bench.stepLog2)

/-- EXP2 (R205). -/
def execExp2 (b : BenchId) (f : StepFields) (s : State) : Out := .next (s.issueBench b 0x23#6 f Bench.stepExp2)

/-- RSQ (R206). -/
def execRsq (b : BenchId) (f : StepFields) (s : State) : Out := .next (s.issueBench b 0x24#6 f Bench.stepRsq)

/-- ENVF (R207). -/
def execEnvf (b : BenchId) (f : StepFields) (s : State) : Out := .next (s.issueBench b 0x25#6 f Bench.stepEnvf)

end Sys2Proof.Machine
end

