-- ==== Sys2Proof/Machine/Log.lean ====
section
/-! DEFINITION. Sys2Proof/Machine/Log.lean: the weighbridge's log: the pairs and slots that accepted entries take, the two
queues, commits with their anchors and era entries, and the opening of the log (R405 to R420 of spec/16_weighbridge.md). -/
namespace Sys2Proof.Machine

/-- The order of pairs: by era first (R407). -/
def SeqPair.lt (a b : SeqPair) : Bool :=
  decide (a.era.toNat < b.era.toNat) || (decide (a.era = b.era) && decide (a.seq.toNat < b.seq.toNat))

/-- The pair that follows: (e, 2^32 - 1) is followed by (e + 1, 1) (R407). -/
def SeqPair.next (a : SeqPair) : SeqPair := if a.seq = 0xffffffff#32 then ⟨a.era + 1, 1⟩ else ⟨a.era, a.seq + 1⟩

/-- The region of a kind: system kinds to the protected region (R408). -/
def kindRegion (k : Byte) : Region := if k.toNat < 0x40 then .prot else .gen

/-- The first slot of a region (R405). -/
def Region.first (r : Region) : Nat := match r with | .prot => 0 | .gen => 512

/-- The number of slots of a region (R405). -/
def Region.size (r : Region) : Nat := match r with | .prot => 512 | .gen => 3584

/-- The slot after a slot of a region. -/
def Region.after (r : Region) (i : Nat) : Nat := if i + 1 = r.first + r.size then r.first else i + 1

/-- Whether a copy of the counter block is complete: its CRC-32C is that of its bytes (R405). -/
def CounterCopy.valid (c : CounterCopy) : Bool := decide (c.crc = crc32c (c.block.bytes c.updates))

/-- The counter block in force. -/
def Nv.block (n : Nv) : CounterBlock := n.current.block

/-- The next sequence (Table WBR-1). -/
def Nv.next (n : Nv) : SeqPair := n.current.block.next

/-- The power-cycle counter (Table WBR-1). -/
def Nv.powerCycle (n : Nv) : Word := n.current.block.powerCycle

/-- The protected region's items (Table WBR-1). -/
def Nv.prot (n : Nv) : RegionHead := n.current.block.prot

/-- The general region's items (Table WBR-1). -/
def Nv.gen (n : Nv) : RegionHead := n.current.block.gen

/-- The system entries lost (Table WBR-1). -/
def Nv.lost (n : Nv) : Word := n.current.block.lost

/-- The rollback floors (Table WBR-1). -/
def Nv.floors (n : Nv) : Vector Word 4 := n.current.block.floors

/-- The reference strap snapshot (Table WBR-1). -/
def Nv.reference (n : Nv) : Option StrapReference := n.current.block.reference

/-- An update of the counter block: the copy not in force is written whole, with the next update count, and takes effect (R405). -/
def Nv.update (n : Nv) (c : CounterBlock) : Nv :=
  { n with current := c.copy (n.current.updates + 1), other := n.current, second := !n.second }

/-- An update of the counter block that is cut: the copy being written is incomplete, and the one in force stays (R405). Its CRC is
that of no complete copy. -/
def Nv.cutUpdate (n : Nv) (c : CounterBlock) : Nv :=
  let k := c.copy (n.current.updates + 1)
  { n with other := { k with crc := ~~~k.crc } }

/-- The copy in force taken at the opening of the log: the valid copy with the higher update count (R405, R413). With neither valid,
which no cut brings about, the copy in force before stays. -/
def Nv.choose (n : Nv) : Nv :=
  if n.other.valid = true ∧ (n.current.valid = false ∨ n.current.updates < n.other.updates) then
    { n with current := n.other, other := n.current, second := !n.second }
  else n

/-- A count of the counter block raised by one; none ever decreases (R405), so it stays at its greatest value. -/
def satInc32 (w : Word) : Word := if w = 0xffffffff#32 then w else w + 1

/-- A region's items of a counter block. -/
def CounterBlock.region (c : CounterBlock) (r : Region) : RegionHead := match r with | .prot => c.prot | .gen => c.gen

/-- A region's items of a counter block changed. -/
def CounterBlock.setRegion (c : CounterBlock) (r : Region) (h : RegionHead) : CounterBlock :=
  match r with | .prot => { c with prot := h } | .gen => { c with gen := h }

/-- A region's items of the counter block in force. -/
def Nv.region (n : Nv) (r : Region) : RegionHead := n.block.region r

/-- The next slot of a region: after its head, or its first (R410). -/
def Nv.nextSlot (n : Nv) (r : Region) : Nat := match (n.region r).head with | none => r.first | some i => r.after i

/-- What an unwritten slot reads as. -/
def LogSlot.blank : LogSlot := { status := .erased, bytes := [], era := 0 }

/-- A slot of the NV memory. -/
def Nv.slot (n : Nv) (i : Nat) : LogSlot := Sparse.read LogSlot.blank n.slots i

/-- The pair of the entry a slot holds. -/
def LogSlot.pair (l : LogSlot) : SeqPair := ⟨l.era, BitVec.ofNat 32 (beNat (l.bytes.take 4))⟩

/-- The valid slots of a region, with their indexes. -/
def Nv.entries (n : Nv) (r : Region) : List (Nat × LogSlot) :=
  n.slots.filter (fun p => decide (r.first ≤ p.1) && decide (p.1 < r.first + r.size) && decide (p.2.status = .valid))

/-- The least pair present in a region; (0, 0) when it holds no entry. -/
def Nv.oldest (n : Nv) (r : Region) : SeqPair :=
  match (n.entries r).map (fun p => p.2.pair) with
  | [] => ⟨0, 0⟩
  | p :: rest => rest.foldl (fun a b => if SeqPair.lt b a then b else a) p

/-- The entry of a pair, in either region, with its slot. -/
def Nv.find (n : Nv) (p : SeqPair) : Option (Nat × LogSlot) :=
  (n.slots.filter (fun x => decide (x.2.status = .valid))).find? (fun x => decide (x.2.pair = p))

/-- The number of a region's entries whose pair lies above its export mark (R418). -/
def Nv.unexported (n : Nv) (r : Region) : Nat :=
  ((n.entries r).filter (fun p => (n.region r).mark.lt p.2.pair)).length

/-- The newest entry committed, by pair, with its hash. -/
def Nv.newest (n : Nv) : SeqPair × List Byte :=
  if n.prot.newest.lt n.gen.newest then (n.gen.newest, n.gen.hash) else (n.prot.newest, n.prot.hash)

/-- The source byte of a part entry: OPEN in a power cycle with DEVEL high (Table WBR-3, R429). -/
def State.source (s : State) (cls index : Nat) : Byte :=
  BitVec.ofNat 8 ((if s.straps.devel then 128 else 0) + 16 * cls + index)

/-- An entry's header as it stands when it is accepted: frame and TOD of the latest strobe (Table WBR-2). -/
def State.record (s : State) (pair : SeqPair) (source kind : Byte) (payload : List Byte) : LogRecord :=
  { pair := pair, region := kindRegion kind, frame := if s.clock.strobed then s.clock.frame else 0,
    todSeconds := s.ring.todSeconds, todFrame := if s.ring.todMarked then s.ring.todFrame else 0xffff, source := source,
    kind := kind, payload := padTo 0 28 payload }

/-- The next slot that an accepted entry of a region takes. -/
def Weighbridge.plannedSlot (w : Weighbridge) (r : Region) : Nat := match r with | .prot => w.protNext | .gen => w.genNext

/-- A pair and a slot of a region taken by an accepted entry (R409). -/
def Weighbridge.take (w : Weighbridge) (r : Region) : SeqPair × Weighbridge :=
  (w.planned,
    match r with
    | .prot => { w with planned := w.planned.next, protNext := r.after w.protNext }
    | .gen => { w with planned := w.planned.next, genNext := r.after w.genNext })

/-- An anchor of a region taken when its next slot is its first (R410). -/
def State.takeAnchor (s : State) (r : Region) : List LogRecord × State :=
  if s.wb.plannedSlot r = r.first then
    let x := s.wb.take r
    ([s.record x.1 (s.source 0 0) (match r with | .prot => 0x1b | .gen => 0xc0) []], { s with wb := x.2 })
  else ([], s)

/-- The SEQUENCE_ERA entry taken when the era has changed (R407), behind an anchor where its slot is the first. -/
def State.takeEra (s : State) : List LogRecord × State :=
  if s.wb.planned.seq = 1#32 ∧ s.wb.planned.era ≠ 0#16 then
    let a := s.takeAnchor .prot
    let x := a.2.wb.take .prot
    (a.1 ++ [a.2.record x.1 (a.2.source 0 0) 0x1c []], { a.2 with wb := x.2 })
  else ([], s)

/-- An entry accepted: the entries ahead of it and its own pair and slot (R407, R409, R410). -/
def State.takeEntry (s : State) (source kind : Byte) (payload : List Byte) : QueuedEntry × State :=
  let e := s.takeEra
  let a := e.2.takeAnchor (kindRegion kind)
  let f := a.2.takeEra
  let x := f.2.wb.take (kindRegion kind)
  ({ ahead := e.1 ++ a.1 ++ f.1, entry := f.2.record x.1 source kind payload }, { f.2 with wb := x.2 })

/-- The bytes 0 to 47 of an entry (Table WBR-2). -/
def LogRecord.head (r : LogRecord) (powerCycle : Word) (payload : List Byte) : List Byte :=
  beBytes 4 r.pair.seq.toNat ++ beBytes 3 powerCycle.toNat ++ beBytes 5 r.frame ++ beBytes 4 r.todSeconds.toNat ++
    beBytes 2 r.todFrame.toNat ++ [r.source, r.kind] ++ padTo 0 28 payload

/-- The other region. -/
def Region.other (r : Region) : Region := match r with | .prot => .gen | .gen => .prot

/-- The payload that is formed at the commit of an ANCHOR, with the wrap count after its own rise (R410), or of a SEQUENCE_ERA
(Table WBR-5), and the entry's own otherwise. -/
def Nv.payloadOf (n : Nv) (r : LogRecord) : List Byte :=
  if r.kind = 0x1b#8 ∨ r.kind = 0xc0#8 then
    let slot := n.nextSlot r.region
    let left := (n.entries r.region).filter (fun p => decide (p.1 ≠ slot))
    let oldest := match left.map (fun p => p.2.pair) with
      | [] => r.pair
      | p :: rest => rest.foldl (fun a b => if SeqPair.lt b a then b else a) p
    let o := n.region r.region.other
    [match r.region with | .prot => 0#8 | .gen => 1#8] ++ beBytes 3 (satInc32 (n.region r.region).wraps).toNat ++
      beBytes 4 oldest.seq.toNat ++ beBytes 4 o.newest.seq.toNat ++
      (if o.head.isNone then zeroBytes 16 else o.hash.take 16)
  else if r.kind = 0x1c#8 then
    beBytes 2 r.pair.era.toNat ++ beBytes 2 (r.pair.era - 1).toNat ++ beBytes 4 n.powerCycle.toNat ++
      (match n.find ⟨r.pair.era - 1, 0xffffffff⟩ with
       | some x => (sha256 x.2.bytes).take 16
       | none => zeroBytes 16)
  else r.payload

/-- The bytes the next entry of a region links to after a chain break (R414). -/
def Weighbridge.broken (w : Weighbridge) (r : Region) : Option (List Byte) :=
  match r with | .prot => w.breakProt | .gen => w.breakGen

/-- The chain of a region mended by the entry just linked. -/
def Weighbridge.mend (w : Weighbridge) (r : Region) : Weighbridge :=
  match r with | .prot => { w with breakProt := none } | .gen => { w with breakGen := none }

/-- The link of the next entry of a region (Table WBR-2, R414). -/
def Weighbridge.link (w : Weighbridge) (r : Region) : List Byte :=
  match w.broken r with
  | some bytes => (sha256 bytes).take 16
  | none => if (w.nv.region r).head.isNone then zeroBytes 16 else (w.nv.region r).hash.take 16

/-- The unexported count at which LOG_NEAR_FULL is raised (R419). -/
def Region.nearFull (r : Region) : Nat := match r with | .prot => 448 | .gen => 3072

/-- Whether a record is an ANCHOR. -/
def LogRecord.anchor (r : LogRecord) : Bool := decide (r.kind = 0x1b#8) || decide (r.kind = 0xc0#8)

/-- The 64 bytes of a record that is committed next (Table WBR-2). -/
def Weighbridge.entryBytes (w : Weighbridge) (r : LogRecord) : List Byte :=
  r.head w.nv.powerCycle (w.nv.payloadOf r) ++ w.link r.region

/-- The NV memory with a record's slot VALID, the counter block not yet updated. -/
def Weighbridge.writeSlot (w : Weighbridge) (r : LogRecord) : Nv :=
  let slot : LogSlot := { status := .valid, bytes := w.entryBytes r, era := r.pair.era }
  { w.nv with slots := Sparse.write LogSlot.blank w.nv.slots (w.nv.nextSlot r.region) slot }

/-- The counter block once a record is committed; an anchor raises the wrap count (Table WBR-1, R410). -/
def Weighbridge.blockAfter (w : Weighbridge) (r : LogRecord) : CounterBlock :=
  let h := w.nv.region r.region
  ({ w.nv.block with next := r.pair.next } : CounterBlock).setRegion r.region
    { h with
      head := some (w.nv.nextSlot r.region), newest := r.pair, hash := sha256 (w.entryBytes r)
      wraps := if r.anchor then satInc32 h.wraps else h.wraps }

/-- One entry committed: its slot written, the counter block updated, an evicted or a last unexported entry noted for
LOG_NEAR_FULL (R409, R410, R419). -/
def Weighbridge.commit (w : Weighbridge) (r : LogRecord) : Weighbridge :=
  let old := w.nv.slot (w.nv.nextSlot r.region)
  let evicted := decide (old.status = .valid) && (w.nv.region r.region).mark.lt old.pair
  let n := (w.writeSlot r).update (w.blockAfter r)
  let full := evicted || (decide (n.unexported r.region = r.region.nearFull) &&
    decide (w.nv.unexported r.region < r.region.nearFull))
  { w.mend r.region with nv := n, nearFull := w.nearFull || full }

/-- A queued entry committed, with what goes ahead of it. -/
def Weighbridge.commitAll (w : Weighbridge) (q : QueuedEntry) : Weighbridge :=
  (q.ahead.foldl Weighbridge.commit w).commit q.entry

/-- The NV memory where the commit of an entry is cut: the records before the k-th are committed, and of that one the slot stays
WRITING, or the copy of the counter block incomplete (R405, R409). -/
def Weighbridge.cut (w : Weighbridge) (q : QueuedEntry) (c : CommitCut) : Nv :=
  let group := q.ahead ++ [q.entry]
  let upTo := fun (k : Nat) => (group.take k).foldl Weighbridge.commit w
  match c with
  | .none => w.nv
  | .slot k =>
    match group[k]? with
    | none => w.nv
    | some r =>
      let n := (upTo k).nv
      let slot : LogSlot := { status := .writing, bytes := [], era := 0 }
      { n with slots := Sparse.write LogSlot.blank n.slots (n.nextSlot r.region) slot }
  | .counters k =>
    match group[k]? with
    | none => w.nv
    | some r => ((upTo k).writeSlot r).cutUpdate ((upTo k).blockAfter r)

/-- An entry written directly, as the power-up entries are (R413). -/
def State.logDirect (s : State) (kind : Byte) (payload : List Byte) : State :=
  let x := s.takeEntry (s.source 0 0) kind payload
  { x.2 with wb := x.2.wb.commitAll x.1 }

/-- Whether entries can be queued: the log is open and the weighbridge not wedged (R434). -/
def State.logLive (s : State) : Bool := s.wb.opened && !s.isWedged 9

/-- Whether an entry of the part itself that arises now is written in the end: the log opens after TRUST, or it takes it. -/
def State.logTakes (s : State) : Bool :=
  (decide (s.power.state = .trust) && !s.wb.opened) || s.logLive && decide (s.wb.systemQ.length < 64)

/-- An entry of the part itself queued in the system queue; a full queue loses it and counts it (R409, R411). One that arises in
TRUST waits for the log to open. -/
def State.logPart (s : State) (kind : Byte) (payload : List Byte) : State :=
  if s.power.state = .trust ∧ s.wb.opened = false then { s with wb := { s.wb with early := s.wb.early ++ [(kind, payload)] } }
  else if s.logLive = false then s
  else if 64 ≤ s.wb.systemQ.length then
    { s with wb := { s.wb with nv := s.wb.nv.update { s.wb.nv.block with lost := satInc32 s.wb.nv.lost } } }
  else
    let x := s.takeEntry (s.source 0 0) kind payload
    { x.2 with wb := { x.2.wb with systemQ := x.2.wb.systemQ ++ [x.1] } }

/-- An entry of a bench or a host queued in the witness queue (R409). -/
def State.logWitness (s : State) (source kind : Byte) (payload : List Byte) : SeqPair × State :=
  let x := s.takeEntry source kind payload
  (x.1.entry.pair, { x.2 with wb := { x.2.wb with witnessQ := x.2.wb.witnessQ ++ [x.1] } })

/-- A witness or host entry of a tenant judged: LOG_BUDGET beyond 8 in the budget second, BUSY when the queue is full or the
weighbridge is wedged, else accepted (R416, R434). The code, and the pair of an accepted entry. -/
def State.appendEntry (s : State) (t : TenantId) (witness : Bool) (source kind : Byte) (payload : List Byte) :
    Byte × SeqPair × State :=
  if s.logLive = false then (0x03, ⟨0, 0⟩, s)
  else if 8 ≤ vget s.wb.used t.val 0 then
    (0x1c, ⟨0, 0⟩, { s with wb :=
      if witness then { s.wb with witnessRefused := vmod s.wb.witnessRefused t.val satInc16 }
      else { s.wb with hostRefused := vmod s.wb.hostRefused t.val satInc16 } })
  else if 32 ≤ s.wb.witnessQ.length then (0x03, ⟨0, 0⟩, s)
  else
    let x := s.logWitness source kind payload
    (0x00, x.1, { x.2 with wb := { x.2.wb with used := vmod x.2.wb.used t.val (· + 1) } })

/-- The queued entry that the writer commits next (R409). -/
def State.nextQueued (s : State) : Option QueuedEntry :=
  match s.wb.witnessQ, s.wb.systemQ with
  | [], l => l.head?
  | q :: _, [] => some q
  | q :: _, p :: _ => some (if q.entry.pair.lt p.entry.pair then q else p)

/-- The NV memory where a wedge or a full reset cuts the writer (R409, R413). -/
def State.cutCommit (s : State) (c : CommitCut) : Nv :=
  match s.nextQueued with
  | none => s.wb.nv
  | some q => if s.logLive then s.wb.cut q c else s.wb.nv

/-- LOG_COMMIT: the queued entry of the least pair is committed and its queue place freed (R409). -/
def State.commitNext (s : State) : State :=
  if s.logLive = false then s
  else
    match s.wb.witnessQ, s.wb.systemQ with
    | [], [] => s
    | q :: rest, [] => { s with wb := { s.wb with witnessQ := rest }.commitAll q }
    | [], q :: rest => { s with wb := { s.wb with systemQ := rest }.commitAll q }
    | q :: rest, p :: more =>
      if q.entry.pair.lt p.entry.pair then { s with wb := { s.wb with witnessQ := rest }.commitAll q }
      else { s with wb := { s.wb with systemQ := more }.commitAll p }

/-- BUDGET_SECOND_END: LOG_BUDGET_COUNT when any refusal occurred, DROPPED_FAILURES when the counter rose (R417, R438). Which of the two
gets its pair first the spec does not say: LOG_BUDGET_COUNT (DESIGN CHOICE, log 75). -/
def State.budgetSecondEnd (s : State) : State :=
  match s.wb.ended with
  | none => s
  | some e =>
    let s := { s with wb := { s.wb with ended := none } }
    let refused := e.witness.toList ++ e.host.toList
    let s := if refused.any (fun c => decide (c ≠ 0)) then
      s.logPart 0xc2 (beBytes 4 e.index ++ refused.flatMap (fun c => beBytes 2 c.toNat)) else s
    if e.drops.counts.toList.any (fun c => decide (c ≠ 0)) then
      s.logPart 0x11 (beBytes 4 e.counter.toNat ++ beBytes 4 e.index ++
        e.drops.counts.toList.flatMap (fun c => beBytes 2 c.toNat) ++
        beBytes 4 e.drops.map.toNat)
    else s

end Sys2Proof.Machine
end

