-- ==== Sys2Proof/Machine/Sense.lean ====
section
/-! DEFINITION. Sys2Proof/Machine/Sense.lean: the energy-limited sense channels (spec/14_sense_channels.md). -/
namespace Sys2Proof.Machine

/-- The energy ceiling class of CODE_H, 0 A to 3 D (Table STR-7). -/
def State.energyClass (s : State) : Nat := (s.code 7).toNat % 4

/-- Io of Table SNS-3 and Po, in µA and µW: the upper ends of the trip ranges of Table SNS-4. -/
def classPo (c : Nat) : Nat := match c with | 0 => 15000 | 1 => 8000 | 2 => 4000 | _ => 320

/-- The range in µA in which the current threshold of a class lies (Table SNS-4). -/
def currentTrip (c : Nat) : Nat × Nat :=
  match c with | 0 => (4200, 4500) | 1 => (2100, 2500) | 2 => (1050, 1200) | _ => (50, 100)

/-- The range in nW in which the power threshold of a class lies (Table SNS-4). -/
def powerTrip (c : Nat) : Nat × Nat :=
  match c with | 0 => (14250000, 15000000) | 1 => (7600000, 8000000) | 2 => (3800000, 4000000) | _ => (300000, 320000)

/-- The meter trip in nJ per 1 ms window (Table SNS-4). -/
def meterNominal (c : Nat) : Nat := match c with | 0 => 15000 | 1 => 8000 | 2 => 4000 | _ => 320

/-- A value of the part taken into the range that the spec gives it. -/
def within (lo hi v : Int) : Int := max lo (min hi v)

/-- A channel's meter trip in nJ: the free value of the part from 90 % of the table's value to it (R351, R457). -/
def meterTrip (c : Nat) (ch : SenseId) : Nat :=
  max (meterNominal c * 9 / 10) (min (meterNominal c) (Config.meterTrip ch.val))

/-- The error in mV of a channel's open threshold 0 or short threshold 1: free within 20 mV (R457). -/
def diagError (ch : SenseId) (k : Nat) : Int := within (-20) 20 (Config.diagError ch.val k)

/-- The current in µA at or below which a BIAS channel is open: free from 17 to 23 (Table SNS-6, R457). -/
def biasOpen (ch : SenseId) : Nat := max 17 (min 23 (Config.biasOpen ch.val))

/-- A comparator threshold of nominal value `mv`: free within 2 % and 20 mV of it, in whole mV (R457). -/
def comparatorMv (ch : SenseId) (mv : Int) : Int := mv + within (-(mv / 50 + 20)) (mv / 50 + 20) (Config.pulseError ch.val mv)

/-- A limiter's current threshold in µA: the free value of the part inside its range (R349). -/
def limiterCurrent (c : Nat) (ch : SenseId) (k : Nat) : Nat :=
  max (currentTrip c).1 (min (currentTrip c).2 (Config.limiterCurrent ch.val k))

/-- A limiter's power threshold in nW: the free value of the part inside its range (R349). -/
def limiterPower (c : Nat) (ch : SenseId) (k : Nat) : Nat :=
  max (powerTrip c).1 (min (powerTrip c).2 (Config.limiterPower ch.val k))

/-- The mode field of a channel's configuration: 0 IEPE, 1 BIAS, 2 PASSIVE, 3 PULSE (Table IMG-6). -/
def SenseDecl.mode (d : SenseDecl) : Nat := (d.w0.extractLsb' 26 2).toNat

/-- The IEPE current in µA (Table IMG-6). -/
def SenseDecl.microamp (d : SenseDecl) : Nat := 500 * 2 ^ (d.w0.extractLsb' 24 2).toNat

/-- The output divisor (Table IMG-6). -/
def SenseDecl.divisor (d : SenseDecl) : Nat := 2 ^ (d.w0.extractLsb' 22 2).toNat

/-- The benches that read the channel (Table IMG-6). -/
def SenseDecl.readers (d : SenseDecl) : Byte := d.w0.extractLsb' 8 8

/-- V_HI in mV (Table SNS-8). -/
def SenseDecl.vHi (d : SenseDecl) : Int := (d.w1.extractLsb' 24 8).toNat * 50

/-- V_LO in mV (Table SNS-8). -/
def SenseDecl.vLo (d : SenseDecl) : Int := (d.w1.extractLsb' 16 8).toNat * 50

/-- Whether the qualifying edge falls (Table SNS-8). -/
def SenseDecl.falling (d : SenseDecl) : Bool := d.w1.getLsbD 15

/-- A channel. -/
def State.chan (s : State) (ch : SenseId) : SenseChannel := s.sense.channels[ch]

/-- A channel changed. -/
def State.modChan (s : State) (ch : SenseId) (f : SenseChannel → SenseChannel) : State :=
  { s with sense := { s.sense with channels := vmod s.sense.channels ch f } }

/-- Whether the sense island works: the part runs and the island is not wedged (R71, R434). -/
def State.senseLive (s : State) : Bool := s.running && !(s.faults.wedged[7])

/-- Whether excitation from VEXC is absent or disconnected (R354). -/
def State.excAbsent (s : State) : Bool := s.power.vexcOff || s.power.vexcLow

/-- Entry to SETTLE, or to EXC_OFF for an IEPE channel without excitation (Table SNS-1): nothing is delivered, the DC
estimate waits for the first sample (R343, R359). -/
def SenseChannel.toSettle (c : SenseChannel) (iepeOff : Bool) (frame : Nat) : SenseChannel :=
  { c with
    state := if iepeOff = true ∧ c.cfg.any (fun d => d.2.mode == 0) = true then .excOff else .settle
    entered := frame, sample := 0, seeded := false }

/-- Bits of a 16-channel map. -/
def State.chanMap (s : State) (p : SenseChannel → Bool) : Nat :=
  (List.finRange 16).foldl (fun a i => if p (s.chan i) then a + 2 ^ i.val else a) 0

/-- The payload of a SENSE_DIAG entry with the channels changed and the changes since the entry before (Table SNS-11). -/
def State.diagPayload (s : State) (map count : Half) (c : DiagChange) : List Byte :=
  beBytes 2 (s.chanMap (·.openDecl)) ++ beBytes 2 (s.chanMap (·.shortDecl)) ++
    beBytes 2 (s.chanMap (fun x => decide (x.pulseFault ≠ 0))) ++
    beBytes 2 (s.chanMap (fun x => decide (x.state = .tripped))) ++
    beBytes 2 map.toNat ++ beBytes 2 count.toNat ++
    [BitVec.ofNat 8 c.channel.val, c.what] ++ beBytes 2 (BitVec.ofInt 16 c.mv).toNat ++ [BitVec.ofNat 8 c.reason]

/-- The counts restarted behind an entry that gives `map` and `count`, written at `frame` (R369). -/
def Sense.diagDone (x : Sense) (frame : Nat) (map count : Half) : Sense :=
  { x with diagAt := some frame, diagMap := 0, diagCount := 0, diagHeld := none, diagWritten := (map, count) }

/-- A SENSE_DIAG entry of Table SNS-11, its rate limit and counts restarted where it is written (R369, R411). -/
def State.writeDiag (s : State) (c : DiagChange) : State :=
  let u := s.logPart 0xc1 (s.diagPayload s.sense.diagMap s.sense.diagCount c)
  if s.logTakes then { u with sense := u.sense.diagDone s.clock.frame s.sense.diagMap s.sense.diagCount } else u

/-- Whether a queued entry is the SENSE_DIAG entry of this strobe. -/
def State.diagQueued (s : State) (q : QueuedEntry) : Bool :=
  decide (q.entry.kind = 0xc1#8) && decide (q.entry.frame = s.clock.frame)

/-- The SENSE_DIAG entry of this strobe brought up to date with further changes at it: one entry summarises every channel (R369). It
describes the latest (log 59). -/
def State.amendDiag (s : State) (c : DiagChange) : State :=
  let map := s.sense.diagWritten.1 ||| s.sense.diagMap
  let count := BitVec.ofNat 16 (min 0xffff (s.sense.diagWritten.2.toNat + s.sense.diagCount.toNat))
  let payload := padTo 0 28 (s.diagPayload map count c)
  { s with
    wb := { s.wb with systemQ := s.wb.systemQ.map (fun q =>
      if s.diagQueued q then { q with entry := { q.entry with payload := payload } } else q) }
    sense := s.sense.diagDone s.clock.frame map count }

/-- A declare or clear counted for the next entry (R369). -/
def Sense.countDiag (x : Sense) (c : DiagChange) : Sense :=
  { x with diagMap := x.diagMap ||| (1#16 <<< c.channel.val), diagCount := satInc16 x.diagCount }

/-- Declares and clears at one strobe recorded: one entry that describes the last of them; where the strobe has its entry already,
that one brought up to date; or, within 10 s of the latest entry, the last change held (R369, log 59). -/
def State.recordDiags (s : State) (cs : List DiagChange) : State :=
  match cs.getLast? with
  | none => s
  | some c =>
    let u := { s with sense := cs.foldl Sense.countDiag s.sense }
    if u.sense.diagAt.all (fun f => decide (f + 10 * u.ff ≤ u.clock.frame)) then u.writeDiag c
    else if u.sense.diagAt = some u.clock.frame ∧ u.wb.systemQ.any u.diagQueued = true then u.amendDiag c
    else { u with sense := { u.sense with diagHeld := some c } }

/-- A declare or clear recorded (R369). -/
def State.recordDiag (s : State) (c : DiagChange) : State := s.recordDiags [c]

/-- The held change written at the first strobe after the 10 s (R369); a wedged sense island writes nothing more. -/
def State.diagHeldDue (s : State) : State :=
  match s.sense.diagHeld, s.sense.diagAt with
  | some c, some f => if s.senseLive = true ∧ f + 10 * s.ff ≤ s.clock.frame then s.writeDiag c else s
  | _, _ => s

/-- The event of the tenant whose image configures the channel (Table MBX-6); none when no image does. -/
def State.raiseChan (s : State) (ch : SenseId) (bit : Nat) : State :=
  match (s.chan ch).cfg with
  | some d => s.raise d.1 bit
  | none => s

/-- A trip: TRIPPED, timers reset, SENSE_LIMIT, and a SENSE_TRIP entry at most every 60 s; one that is not written counts as not logged
(R350 to R352, R368, R411). `how` is
bits 3 to 0 of byte 1 of Table SNS-10. -/
def State.trip (s : State) (ch : SenseId) (how mv ua : Nat) : State :=
  let s := s.modChan ch (fun c => { c with state := .tripped, sample := 0 })
  let s := s.raiseChan ch 22
  let map := s.sense.tripMap ||| (1#16 <<< ch.val)
  let trips := s.sense.trips + 1
  let count := fun (u : State) =>
    { u with sense := { u.sense with tripMap := map, tripNotLogged := u.sense.tripNotLogged + 1, trips := trips } }
  if s.sense.tripAt.all (fun f => decide (f + 60 * s.ff ≤ s.clock.frame)) then
    let mode := ((s.chan ch).cfg.map (fun d => d.2.mode)).getD 0
    let payload := [BitVec.ofNat 8 ch.val, BitVec.ofNat 8 (s.energyClass * 64 + mode * 16 + how)] ++
      beBytes 2 mv ++ beBytes 2 ua ++ beBytes 4 (s.chan ch).energy.toNat ++ beBytes 2 map.toNat ++
      beBytes 4 s.sense.tripNotLogged.toNat ++ beBytes 4 trips.toNat
    let u := s.logPart 0x12 payload
    if s.logTakes then
      { u with sense := { u.sense with tripAt := some s.clock.frame, tripMap := 0, tripNotLogged := 0, trips := trips } }
    else count u
  else count s

/-- Whether the channel's excitation path carries current, so that a limiter can trip (Table SNS-1). -/
def SenseChannel.excited (c : SenseChannel) : Bool :=
  decide (c.state = .settle) || decide (c.state = .run) || decide (c.state = .fault)

/-- LIMITER_TRIP: a limiter's current, or the product of terminal voltage and its current, exceeds its threshold (R349). Bytes 4 and 5
of the entry give limiter 2's current where its current threshold alone was exceeded, else limiter 1's (R368 names one 'limiter
current'; DESIGN CHOICE, log 65). -/
def State.limiterTrip (s : State) (ch : SenseId) (ua1 ua2 mv : Nat) : State :=
  let k := s.energyClass
  let c1 := decide (limiterCurrent k ch 1 < ua1)
  let c2 := decide (limiterCurrent k ch 2 < ua2)
  let p := decide (limiterPower k ch 1 < mv * ua1) || decide (limiterPower k ch 2 < mv * ua2)
  if s.senseLive = true ∧ (s.chan ch).excited = true ∧ (c1 || c2 || p) = true then
    s.trip ch ((if c2 then 8 else 0) + (if c1 then 4 else 0) + (if p then 2 else 0)) mv (if c2 && !c1 then ua2 else ua1)
  else s

/-- METER_WINDOW_END: the window's energy is kept, and it trips the limiters when it exceeds the meter trip (R351). -/
def State.meterWindowEnd (s : State) (ch : SenseId) (nj mv ua : Nat) : State :=
  if s.senseLive = true then
    let s := s.modChan ch (fun c => { c with energy := BitVec.ofNat 32 nj })
    if (s.chan ch).excited = true ∧ meterTrip s.energyClass ch < nj then s.trip ch 1 mv ua else s
  else s

/-- TRIP_RETRY: after 100 ms in TRIPPED the channel enters SETTLE (R352). -/
def State.tripRetry (s : State) (ch : SenseId) (ms : Nat) : State :=
  if s.senseLive = true ∧ (s.chan ch).state = .tripped ∧ 100 ≤ ms then
    s.modChan ch (fun c => c.toSettle s.excAbsent s.clock.frame)
  else s

/-- Every IEPE channel enters EXC_OFF (R354). -/
def State.allExcOff (s : State) : State :=
  { s with sense := { s.sense with channels := s.sense.channels.map (fun c =>
    if c.cfg.any (fun d => d.2.mode == 0) = true then { c with state := .excOff, sample := 0 } else c) } }

/-- Excitation removed from every configured channel (R71, Table FLT-3). -/
def State.removeExcitation (s : State) : State :=
  { s with sense := { s.sense with channels := s.sense.channels.map (fun c =>
    if c.cfg.isSome then { c with state := .excOff, sample := 0 } else c) } }

/-- EXC_OFF: VEXC stays below 11.0 V for 10 µs or longer (R354). -/
def State.excOff (s : State) (mv us : Nat) : State :=
  if s.senseLive = true ∧ mv < 11000 ∧ 10 ≤ us then
    ({ s with power := { s.power with vexcLow := true } }).allExcOff
  else s

/-- EXC_RESTORE: VEXC stays from 11.2 V to 13.2 V for 100 ms (R354). -/
def State.excRestore (s : State) (mvLow mvHigh ms : Nat) : State :=
  if s.senseLive = true ∧ 11200 ≤ mvLow ∧ mvHigh ≤ 13200 ∧ 100 ≤ ms ∧ s.power.vexcOff = false then
    let s := { s with power := { s.power with vexcLow := false } }
    { s with sense := { s.sense with channels := s.sense.channels.map (fun c =>
      if c.state = .excOff then c.toSettle false s.clock.frame else c) } }
  else s

/-- The open condition of Table SNS-6 at a terminal voltage in mV, for PASSIVE the higher terminal, and at a source current in µA for
BIAS. V_C is min(10.0 V, 0.9 × Po / I) (R353). -/
def openCond (cls : Nat) (ch : SenseId) (d : SenseDecl) (mv ua : Int) : Bool :=
  let v := mv - diagError ch 0
  match d.mode with
  | 0 => decide (9800 ≤ v) || decide (900 * (classPo cls : Int) ≤ (v + 200) * (d.microamp : Int))
  | 1 => decide (ua ≤ biasOpen ch)
  | 2 => decide (2800 ≤ v)
  | _ => false

/-- The short condition of Table SNS-6 at a terminal voltage in mV. -/
def shortCond (ch : SenseId) (d : SenseDecl) (mv : Int) : Bool :=
  let v := mv - diagError ch 1
  match d.mode with
  | 0 => decide (v ≤ 500)
  | 1 => decide (v ≤ 200)
  | _ => false

/-- DIAG_DECLARE: an open or short condition has held for 10 ms (R356, R357). A declared condition returns the channel to
FAULT with no new event or entry. -/
def State.diagDeclare (s : State) (ch : SenseId) (mv ua : Int) (ms : Nat) : State :=
  match (s.chan ch).cfg with
  | none => s
  | some d =>
    let c := s.chan ch
    let o := openCond s.energyClass ch d.2 mv ua
    let h := shortCond ch d.2 mv
    if s.senseLive = true ∧ c.excited = true ∧ 10 ≤ ms ∧ (o || h) = true then
      if (if o then c.openDecl else c.shortDecl) = true then
        s.modChan ch (fun c => { c with state := .fault, sample := 0 })
      else
        let s := s.modChan ch (fun c => { c with state := .fault, sample := 0, openDecl := o, shortDecl := !o })
        (s.raiseChan ch (if o then 23 else 24)).recordDiag
          { channel := ch, what := if o then 1 else 2, mv := mv, reason := c.pulseFault }
    else s

/-- DIAG_CLEAR: a declared condition has been absent for 100 ms (R356). -/
def State.diagClear (s : State) (ch : SenseId) (mv ua : Int) (ms : Nat) : State :=
  match (s.chan ch).cfg with
  | none => s
  | some d =>
    let c := s.chan ch
    let still := if c.openDecl then openCond s.energyClass ch d.2 mv ua else shortCond ch d.2 mv
    if s.senseLive = true ∧ c.excited = true ∧ 100 ≤ ms ∧ (c.openDecl || c.shortDecl) = true ∧ still = false then
      let s := s.modChan ch (fun c =>
        let c := { c with openDecl := false, shortDecl := false }
        if c.state = .fault then c.toSettle false s.clock.frame else c)
      s.recordDiag { channel := ch, what := if c.openDecl then 0x81 else 0x82, mv := mv, reason := c.pulseFault }
    else s

/-- `n / d` rounded to the nearest integer, ties to even. -/
def roundDiv (n d : Int) : Int :=
  let q := n / d
  let r := n % d
  if 2 * r < d then q else if d < 2 * r then q + 1 else if q % 2 = 0 then q else q + 1

/-- A value taken into the Q1.31 range. -/
def satQ31 (v : Int) : Int := within q31Min q31Max v

/-- The factory and user calibration of a decimated sample (R366, R367). -/
def calibrate (ch : SenseId) (cal : Option CalDecl) (c : Int) : Int :=
  let yf := roundEven ((c - (Config.factoryOffset ch.val).toInt) * ((Config.factoryGain ch.val).toNat : Int)) 23
  let g := max (-20000) (min 20000 ((cal.map (·.gain)).getD 0))
  let o := max (-10000) (min 10000 ((cal.map (·.offset)).getD 0))
  satQ31 (roundDiv (yf * (1000000 + g)) 1000000 + roundDiv (o * 2147483648) 1000000)

/-- DC removal of one Ff sample x: y and the new estimate m in Q1.47 (R359). -/
def dcRemove (m x : Int) : Int × Int :=
  (x - roundEven m 16, m + roundEven (x * (2 ^ 16 : Nat) - m) 16)

/-- How many samples the divisor stage of a group delay of 24 × (D − 1) frames reaches back, the present one among them (R360). -/
def stageLength (d : Nat) : Nat := 48 * (d - 1) + 1

/-- What the divisor stage gives for the samples before it, latest first: for D = 1 the sample itself, else the part's own filter
(R360). The chain's result saturates here, and the samples before it do not (R358). -/
def divisorStage (d : Nat) (ys : List Int) : Int := satQ31 (if d = 1 then ys.headD 0 else Config.divisorStage d ys)

/-- One channel at a strobe: the chain runs on the Ff sample `c`, and a RUN channel delivers at its delivery strobes (R358 to
R360). -/
def SenseChannel.strobe (x : SenseChannel) (ch : SenseId) (c : Int) (frame align : Nat) : SenseChannel :=
  match x.cfg with
  | none => x
  | some d =>
    let u := calibrate ch x.cal c
    let dc := decide (d.2.mode < 2)
    let m := if x.seeded then x.dc else u * (2 ^ 16 : Nat)
    let y := if dc then (dcRemove m u).1 else u
    let ys := (y :: x.recent).take (stageLength d.2.divisor)
    let offer := BitVec.ofInt 32 (divisorStage d.2.divisor ys)
    let x := { x with dc := if dc then (dcRemove m u).2 else x.dc, seeded := true, recent := ys, offer := offer }
    if x.state = .run ∧ align % d.2.divisor = 0 then { x with sample := offer, deliveredAt := some frame } else x

/-- The group delay in frames (Table SNS-7). -/
def groupDelay (d : Nat) : Nat := 16 + 24 * (d - 1)

/-- SETTLE_COMPLETE: the first delivery strobe at least the group delay after entry, with no condition declared, delivers the
first sample and enters RUN (R360). -/
def State.settleComplete (s : State) (ch : SenseId) : State :=
  match (s.chan ch).cfg with
  | none => s
  | some d =>
    let c := s.chan ch
    if s.senseLive = true ∧ c.state = .settle ∧ c.openDecl = false ∧ c.shortDecl = false ∧
        c.entered + groupDelay d.2.divisor ≤ s.clock.frame ∧ s.align % d.2.divisor = 0 then
      s.modChan ch (fun c => { c with state := .run, sample := c.offer, deliveredAt := some s.clock.frame })
    else s

/-- The filter time t_G in ns: 2 µs standard, 40 µs extended when CODE_H [3:2] is 3 (R361, R363). -/
def State.filterNs (s : State) : Nat := if (s.code 7).toNat / 4 = 3 then 40000 else 2000

/-- The time in cycles of VCO/8, from the strobe of frame 0, from which a strobe shows the edge of a comparator transition at `ts`:
1 µs after its qualification (R363). -/
def State.edgeDue (s : State) (ts : Nat) : Nat :=
  ts + ((s.filterNs + 1000) * (7680 * s.ff / 1000) + 999999) / 1000000

/-- The nominal comparator delay of 150 ns in whole cycles of VCO/8, the resolution of a timestamp (R363, R459): 55.3 at 48 kHz and
50.8 at 44.1 kHz, rounded to the nearest (DEDUCED, log 48). -/
def State.comparatorDelay (s : State) : Nat := if s.family441 then 51 else 55

/-- What the comparator of a PULSE channel makes of a voltage: high above V_HI, low below V_LO, between them no change (R363). -/
def comparatorLevel (ch : SenseId) (d : SenseDecl) (mv : Int) : Option Bool :=
  if comparatorMv ch d.vHi < mv then some true else if mv < comparatorMv ch d.vLo then some false else none

/-- A glitch counted, with those of its 1 ms window (R363, R365). The comparator has changed its level all the same: the change back
is a transition of its own. -/
def SenseChannel.glitch (c : SenseChannel) (window : Nat) : SenseChannel :=
  { c with glitches := c.glitches + 1, burst := (window, if c.burst.1 = window then c.burst.2 + 1 else 1) }

/-- PULSE_EDGE_QUALIFY: SNS_P_x at `mv` changes the comparator's level at `ts` cycles of VCO/8. A transition that persists for t_G
counts, and one of the configured polarity is an edge on its way to the view, at its instant less the comparator's delay; one
that does not persist is a glitch of the given 1 ms window. Either way the comparator stands at the new level, from which the next
transition is judged (R344, R363, R459). -/
def State.pulseEdge (s : State) (ch : SenseId) (mv : Int) (ts persistNs window : Nat) : State :=
  match (s.chan ch).cfg with
  | none => s
  | some d =>
    match (comparatorLevel ch d.2 mv).filter (fun l => l != (s.chan ch).high) with
    | none => s
    | some rising =>
      if s.senseLive = true ∧ d.2.mode = 3 then
        if s.filterNs ≤ persistNs then
          s.modChan ch (fun c =>
            let c := { c with high := rising }
            if rising ≠ d.2.falling then
              { c with edges := c.edges + 1, waiting := c.waiting ++ [(ts - s.comparatorDelay, s.edgeDue ts)] }
            else c)
        else s.modChan ch (fun c => { c.glitch window with high := rising })
      else s

/-- Whether a reason of Table SNS-9 holds: `measure` is the present 1 ms window for reason 1 and milliseconds for the others. -/
def pulseReason (ch : SenseId) (c : SenseChannel) (d : SenseDecl) (reason measure : Nat) (mv : Int) : Bool :=
  match reason with
  | 1 => decide (c.burst.1 = measure) && decide (16 ≤ c.burst.2)
  | 2 => decide (10 ≤ measure) && (comparatorLevel ch d mv).isNone
  | 3 => decide (10 ≤ measure) && (decide (12000 < mv) || decide (mv < -300))
  | _ => false

/-- PULSE_FAULT_DECLARE: a reason of Table SNS-9 holds (R365). In TRIPPED, EXC_OFF and IDLE the diagnostics are suspended
(Table SNS-1, R357). -/
def State.pulseFaultDeclare (s : State) (ch : SenseId) (reason measure : Nat) (mv : Int) : State :=
  match (s.chan ch).cfg with
  | none => s
  | some d =>
    if s.senseLive = true ∧ (s.chan ch).excited = true ∧ d.2.mode = 3 ∧ (s.chan ch).pulseFault = 0 ∧
        pulseReason ch (s.chan ch) d.2 reason measure mv = true then
      let s := s.modChan ch (fun c => { c with pulseFault := reason })
      (s.raiseChan ch 25).recordDiag { channel := ch, what := 3, mv := mv, reason := reason }
    else s

/-- PULSE_FAULT_CLEAR: no reason has held for 100 ms, with the diagnostics running (R365, R357). -/
def State.pulseFaultClear (s : State) (ch : SenseId) (mv : Int) (ms : Nat) : State :=
  if s.senseLive = true ∧ (s.chan ch).excited = true ∧ (s.chan ch).pulseFault ≠ 0 ∧ 100 ≤ ms then
    (s.modChan ch (fun c => { c with pulseFault := 0 })).recordDiag
      { channel := ch, what := 0x83, mv := mv, reason := 0 }
  else s

/-- The clears that IDLE or a reconfiguration gives for the conditions declared on a channel, at a terminal voltage in mV
(R345, R357). -/
def SenseChannel.clears (c : SenseChannel) (ch : SenseId) (mv : Int) : List DiagChange :=
  let clear := fun (b : Bool) (w : Byte) =>
    if b then [({ channel := ch, what := w, mv := mv, reason := 0 } : DiagChange)] else []
  clear c.openDecl 0x81 ++ clear c.shortDecl 0x82 ++ clear (decide (c.pulseFault ≠ 0)) 0x83

/-- A channel after full reset: IDLE, nothing configured (Table SNS-1). -/
def SenseChannel.idle (energy : Word) : SenseChannel :=
  { cfg := none, cal := none, state := .idle, entered := 0, openDecl := false, shortDecl := false, pulseFault := 0,
    sample := 0, deliveredAt := none, offer := 0, dc := 0, seeded := false, recent := [], energy := energy, high := false,
    waiting := [], entering := [], edges := 0, glitches := 0, burst := (0, 0) }

/-- What an activation strobe makes of one channel, and the clears that this gives (R345, R363, R367): `decl` is the new image's
entry, `mv` the terminal voltage then, from which a PULSE channel's comparator takes its initial level. -/
def State.reconfigured (s : State) (t : TenantId) (ch : SenseId) (decl : Option SenseDecl) (cal : Option CalDecl)
    (mv : Int) : SenseChannel × List DiagChange :=
  let old := s.chan ch
  match decl with
  | none => if old.cfg.any (fun d => d.1 == t) then (SenseChannel.idle old.energy, old.clears ch mv) else (old, [])
  | some d =>
    if old.cfg = some (t, d) then ({ old with cal := cal }, [])
    else
      (({ SenseChannel.idle old.energy with
          cfg := some (t, d), cal := cal
          high := decide (d.mode = 3) && decide (comparatorMv ch d.vHi < mv) }).toSettle s.excAbsent s.clock.frame,
        old.clears ch mv)

/-- What an activation strobe does to every channel; the clears of the strobe are summarised in one entry (R345, R369). -/
def State.reconfigure (s : State) (t : TenantId) (decl : SenseId → Option SenseDecl) (cal : SenseId → Option CalDecl)
    (mv : SenseId → Int) : State :=
  let new := fun (ch : SenseId) => s.reconfigured t ch (decl ch) (cal ch) (mv ch)
  ({ s with sense := { s.sense with channels := Vector.ofFn (fun ch => (new ch).1) } }).recordDiags
    ((List.finRange 16).flatMap (fun ch => (new ch).2))

/-! ### The commands -/

/-- LIMITER_TRIP (R349). -/
def execLimiterTrip (ch : SenseId) (ua1 ua2 mv : Nat) (s : State) : Out := .next (s.limiterTrip ch ua1 ua2 mv)

/-- METER_WINDOW_END (R351). -/
def execMeterWindowEnd (ch : SenseId) (nj mv ua : Nat) (s : State) : Out := .next (s.meterWindowEnd ch nj mv ua)

/-- TRIP_RETRY (R352). -/
def execTripRetry (ch : SenseId) (ms : Nat) (s : State) : Out := .next (s.tripRetry ch ms)

/-- EXC_OFF (R354). -/
def execExcOff (mv us : Nat) (s : State) : Out := .next (s.excOff mv us)

/-- EXC_RESTORE (R354). -/
def execExcRestore (mvLow mvHigh ms : Nat) (s : State) : Out := .next (s.excRestore mvLow mvHigh ms)

/-- DIAG_DECLARE (R356). -/
def execDiagDeclare (ch : SenseId) (mv ua : Int) (ms : Nat) (s : State) : Out := .next (s.diagDeclare ch mv ua ms)

/-- DIAG_CLEAR (R356). -/
def execDiagClear (ch : SenseId) (mv ua : Int) (ms : Nat) (s : State) : Out := .next (s.diagClear ch mv ua ms)

/-- SETTLE_COMPLETE (R360). -/
def execSettleComplete (ch : SenseId) (s : State) : Out := .next (s.settleComplete ch)

/-- PULSE_EDGE_QUALIFY (R363). -/
def execPulseEdgeQualify (ch : SenseId) (mv : Int) (ts persistNs window : Nat) (s : State) : Out :=
  .next (s.pulseEdge ch mv ts persistNs window)

/-- PULSE_FAULT_DECLARE (R365). -/
def execPulseFaultDeclare (ch : SenseId) (reason measure : Nat) (mv : Int) (s : State) : Out :=
  .next (s.pulseFaultDeclare ch reason measure mv)

/-- PULSE_FAULT_CLEAR (R365). -/
def execPulseFaultClear (ch : SenseId) (mv : Int) (ms : Nat) (s : State) : Out := .next (s.pulseFaultClear ch mv ms)

/-- SENSE_DIAG_HELD (R369). -/
def execSenseDiagHeld (s : State) : Out := .next s.diagHeldDue

end Sys2Proof.Machine
end

