-- ==== Sys2Proof/Machine/Frames.lean ====
section
/-! DEFINITION. Sys2Proof/Machine/Frames.lean: the fields of a host frame (Table TPT-2, Table TPT-6 of
spec/05_tenant_port.md). -/
namespace Sys2Proof

open Sys2Proof.Machine

/-- The number of payload words that H0 gives (R102). -/
def HostFrame.count (f : HostFrame) : Nat := f.count1.toNat + 1

/-- H0 of a frame of an op (Table TPT-2). -/
def HostFrame.h0 (f : HostFrame) (op : Nat) : Word :=
  BitVec.ofNat 4 op ++ f.tag ++ f.count1 ++ f.mask ++ f.seq

/-- Bits `lo` up of H1. -/
def HostFrame.bits (f : HostFrame) (lo n : Nat) : Nat := (f.h1.extractLsb' lo n).toNat

/-- A payload word; 0 beyond the payload. -/
def HostFrame.word (f : HostFrame) (i : Nat) : Word := f.payload.getD i 0

/-- Whether length and host CRC are right (R106, R109). -/
def HostFrame.intact (f : HostFrame) (op : Nat) : Bool :=
  decide (f.edges = 32 * (f.count + 3)) && decide (f.crc = crc32cWords (f.h0 op :: f.h1 :: f.payload))

/-- Whether the sub-op bits that `n` top bits of H1 hold are one of the op's (Table TPT-6, Table TPT-10). -/
def HostFrame.sub (f : HostFrame) (n : Nat) : Nat := f.bits (32 - n) n

/-- Whether the sub-op of a LOG frame is reserved (Table TPT-10). -/
def HostFrame.logUnknown (f : HostFrame) : Bool := decide (4 < f.sub 4)

/-- Whether the sub-op of an ATTEST frame is reserved (Table TPT-6). -/
def HostFrame.attestUnknown (f : HostFrame) : Bool := decide (f.sub 4 ≠ 0) && decide (f.sub 4 ≠ 4)

/-- Whether the sub-op of a SPECIAL frame, or its PROVISION step, is reserved (Table TPT-6, R427). -/
def HostFrame.specialUnknown (f : HostFrame) : Bool :=
  decide (3 < f.sub 4) || decide (f.sub 4 = 1) && decide (2 < f.bits 24 4)

end Sys2Proof
end

