-- ==== Sys2Proof/WellFormed.lean ====
section
/-! DEFINITION. Sys2Proof/WellFormed.lean: what a command's operands must be for a part to meet them. -/
namespace Sys2Proof

/-- Whether a frame's payload has the length that its H0 gives, so that a host can send it (R102). -/
def HostFrame.whole (f : HostFrame) : Bool := decide (f.payload.length = f.count)

/-- Whether a frame's H1 spells the row's sub-op in its top `n` bits, or a reserved one (Table TPT-6, Table TPT-10). -/
def HostFrame.spells (f : HostFrame) (n sub : Nat) (unknown : Bool) : Bool := decide (f.sub n = sub) || unknown

/-- The codes that BYPASS stands for: its own, and every code that Table PKG-6 does not list (R469). -/
def bypassCode (c : BitVec 5) : Bool := !([0#5, 1#5, 2#5, 4#5, 5#5, 8#5].contains c)

/-- Whether a command can come about at a part. -/
def Instr.wf (c : Instr) : Bool :=
  match c with
  | .porExit _ _ _ _ _ => true
  | .supplyReset _ _ _ _ => true
  | .supplyWarning _ _ _ => true
  | .resetNLow _ _ _ => true
  | .strapPhaseEnd _ => true
  | .trustEnd _ => true
  | .provNObserve _ _ => true
  | .referencePresent _ _ _ _ _ => true
  | .referenceDeadline _ => true
  | .lockAttemptEnd _ => true
  | .lockLost _ => true
  | .relock _ => true
  | .steppedRelock _ _ _ => true
  | .frameStrobe _ => true
  | .thermalReading _ => true
  | .vexcOvervoltage _ => true
  | .vexcReconnect _ _ => true
  | .trstNLow _ _ _ => true
  | .tenantResetHold _ => true
  | .trstNHigh _ _ _ => true
  | .tenantResetRelease _ => true
  | .startEdge _ _ _ _ => true
  | .benchRelease _ => true
  | .benchPeriodEnd _ => true
  | .planSwitch => true
  | .benchFence _ => true
  | .islandWedge _ _ => true
  | .pitProgressWedge => true
  | .nvWriterWedge _ _ _ => true
  | .nop _ _ => true
  | .mov _ _ => true
  | .movi _ _ => true
  | .add _ _ => true
  | .sub _ _ => true
  | .neg _ _ => true
  | .abs _ _ => true
  | .min _ _ => true
  | .max _ _ => true
  | .and _ _ => true
  | .ior _ _ => true
  | .xor _ _ => true
  | .shl _ _ => true
  | .shra _ _ => true
  | .shrl _ _ => true
  | .mul _ _ => true
  | .mulc _ _ => true
  | .mac _ _ => true
  | .macc _ _ => true
  | .msu _ _ => true
  | .msuc _ _ => true
  | .aclr _ _ => true
  | .ald _ _ => true
  | .ast _ _ => true
  | .cmp _ _ => true
  | .sel _ _ => true
  | .clamp _ _ => true
  | .drd _ _ _ => true
  | .drdf _ _ _ _ => true
  | .dwr _ _ => true
  | .dwra _ _ => true
  | .crd _ _ => true
  | .lut _ _ => true
  | .log2 _ _ => true
  | .exp2 _ _ => true
  | .rsq _ _ => true
  | .envf _ _ => true
  | .pin _ _ => true
  | .pout _ _ => true
  | .sin _ _ => true
  | .pls _ _ => true
  | .rin _ _ => true
  | .rout _ _ => true
  | .prd _ _ => true
  | .pget _ _ => true
  | .pwr _ _ => true
  | .prio _ _ => true
  | .postStep _ _ => true
  | .withdrawStep _ _ => true
  | .queryStep _ _ => true
  | .takeStep _ _ => true
  | .ackn _ _ => true
  | .rslt _ _ => true
  | .evt _ _ => true
  | .wit _ _ => true
  | .commitStep _ _ => true
  | .rwr _ _ => true
  | .tod _ _ => true
  | .fcnt _ _ => true
  | .stat _ _ => true
  | .plan _ _ => true
  | .status _ f => f.whole
  | .load _ f => f.whole
  | .read _ f => f.whole
  | .fetch _ f => f.whole
  | .write _ f => f.whole
  | .post _ f => f.whole && f.spells 2 0 (decide (1 < f.sub 2))
  | .withdraw _ f => f.whole && f.spells 2 1 (decide (1 < f.sub 2))
  | .poll _ f => f.whole
  | .take _ f _ => f.whole
  | .ack _ f => f.whole
  | .commitStage _ f => f.whole && f.spells 2 0 (decide (1 < f.sub 2))
  | .commitGroup _ f => f.whole && f.spells 2 1 (decide (1 < f.sub 2))
  | .result _ f _ => f.whole
  | .events _ f => f.whole
  | .logHead _ f => f.whole && f.spells 4 0 f.logUnknown
  | .logEntries _ f => f.whole && f.spells 4 1 f.logUnknown
  | .logExport _ f => f.whole && f.spells 4 2 f.logUnknown
  | .logAppend _ f => f.whole && f.spells 4 3 f.logUnknown
  | .logCollect _ f => f.whole && f.spells 4 4 f.logUnknown
  | .attestRequest _ f => f.whole && f.spells 4 0 f.attestUnknown
  | .attestCollect _ f => f.whole && f.spells 4 4 f.attestUnknown
  | .timeRead _ f => f.whole && f.spells 4 0 (decide (1 < f.sub 4))
  | .timeMark _ f => f.whole && f.spells 4 1 (decide (1 < f.sub 4))
  | .go _ f => f.whole && f.spells 4 0 (decide (3 < f.sub 4))
  | .provisionIdentify _ f => f.whole && f.spells 8 16 f.specialUnknown
  | .provisionSlot _ f => f.whole && f.spells 8 17 f.specialUnknown
  | .provisionFloor _ f => f.whole && f.spells 8 18 f.specialUnknown
  | .lock _ f => f.whole && f.spells 4 2 (decide (3 < f.sub 4))
  | .selftest _ f => f.whole && f.spells 4 3 (decide (3 < f.sub 4))
  | .pitAccess _ _ => true
  | .weighbridgeServiceStart _ => true
  | .weighbridgeRequestDone _ _ => true
  | .logCommit => true
  | .budgetSecondEnd => true
  | .verifyStart => true
  | .verifyEnd => true
  | .holdStrobe => true
  | .activationStrobe _ => true
  | .stagingTimeout => true
  | .noticeVisible _ => true
  | .ackVisible _ => true
  | .mbxTimeout _ => true
  | .commitFlip _ => true
  | .commitDone _ => true
  | .masterPortStart _ => true
  | .followerFrameComplete _ _ _ _ => true
  | .followerCapture _ => true
  | .followerOutputLoad _ _ => true
  | .limiterTrip _ _ _ _ => true
  | .meterWindowEnd _ _ _ _ => true
  | .tripRetry _ _ => true
  | .excOff _ _ => true
  | .excRestore _ _ _ => true
  | .diagDeclare _ _ _ _ => true
  | .diagClear _ _ _ _ => true
  | .settleComplete _ => true
  | .pulseEdgeQualify _ _ _ _ _ => true
  | .pulseFaultDeclare _ _ _ _ => true
  | .pulseFaultClear _ _ _ => true
  | .senseDiagHeld => true
  | .laneDown _ _ _ => true
  | .laneUp _ _ _ => true
  | .homeVisit _ _ _ => true
  | .ringLockGain => true
  | .ringLoss _ => true
  | .phaseStep _ => true
  | .rollcallStart _ _ => true
  | .collectionLap _ _ _ => true
  | .assignmentLap _ => true
  | .fold _ _ _ _ => true
  | .todMarkApply => true
  | .tapReset _ => true
  | .extest _ _ => true
  | .samplePreload _ _ => true
  | .idcode => true
  | .tapClamp _ => true
  | .highz _ => true
  | .benchDbg _ => true
  | .bypass code _ => bypassCode code
  | .stretchCycle _ _ _ => true
  | .faultNPattern => true
  | .outcomeFinal _ => true

end Sys2Proof
end

