-- ==== Sys2Proof/Machine/Benches.lean ====
section
/-! DEFINITION. Sys2Proof/Machine/Benches.lean: bench states, release conditions, release, the bench period, plan switches,
stretch cycles and START edges (R62 to R69 of spec/03_power_reset_release.md, R150 to R180 of spec/07_bench_model.md, R90 to R99
of spec/04_clock_plans.md, R323 of spec/13_audio_ports.md). -/
namespace Sys2Proof.Machine

/-! ### States -/

/-- Whether a change of state raises BENCH_STATE: the code changes, other than between RUNNING and LATE and other than to
FENCED (Table MBX-6). -/
def stateEvent (a b : BenchState) : Bool :=
  decide (a ≠ b) && decide (b ≠ .fenced) &&
    !((decide (a = .running) || decide (a = .late)) && (decide (b = .running) || decide (b = .late)))

/-- A bench's state changed, with its BENCH_STATE event. -/
def State.setBenchState (s : State) (b : BenchId) (st : BenchState) : State :=
  let u := s.modBench b (fun x => { x with state := st })
  if stateEvent (s.bench b).state st then u.raiseOwner b 2 else u

/-- The stream cells of which the active image makes a bench the writer (Table IMG-5). -/
def State.benchCells (s : State) (b : BenchId) : List Nat :=
  ((s.benchImage b).map (fun i => (i.streams.filter (fun d => decide (d.bench = b))).map (·.cell))).getD []

/-- One of the part's own cells changed; a cell not yet listed has no publication. -/
def Ring.modOwn (r : Ring) (c : Nat) (f : OwnCell → OwnCell) : Ring :=
  let old := ((r.own.find? (fun x => decide (x.1 = c))).map (·.2)).getD ⟨none, none⟩
  { r with own := (c, f old) :: r.own.filter (fun x => decide (x.1 ≠ c)) }

/-- Own cells changed. -/
def State.modCells (s : State) (cs : List Nat) (f : OwnCell → OwnCell) : State :=
  { s with ring := cs.foldl (fun r c => r.modOwn c f) s.ring }

/-- The result slots at release, and of a bench that is OFF or newly ARMED (Table MBX-5). -/
def emptyResults : Vector ResultSlot 64 := Vector.replicate 64 ⟨0, 0, false⟩

/-- A bench that stops: the period is abandoned and its stage discarded, its requests not yet performed are of an earlier life,
its condition is open again (R65, R174, R286, R288). What its steps wrote stands (R176). -/
def Bench.stop (x : Bench) : Bench :=
  let y := x.drain
  { y with
    stage := Stage.empty, met := none, goDue := none
    reads := y.reads.map (fun q => { q with stale := true })
    writes := y.writes.map (fun q => { q with stale := true })
    seq := { y.seq with completed := 0 } }

/-- A bench enters HELD, OFF, LOADED or FENCED: it stops, and its cells go out in the lap that begins at this strobe once more (R68,
R387). -/
def State.stopBench (s : State) (b : BenchId) (st : BenchState) : State :=
  let u := (s.modBench b Bench.stop).modCells (s.benchCells b) (fun c =>
    if c.lastFrame.isSome then c else { c with lastFrame := some s.clock.frame })
  u.setBenchState b st

/-! ### Release conditions -/

/-- The release condition of a bench in its owner's active image. -/
def State.releaseCond (s : State) (b : BenchId) : Option ReleaseCond :=
  (s.benchImage b).bind (fun i => (i.releases.find? (fun r => decide (r.bench = b))).map (·.cond))

/-- Whether this strobe is a common start: the start frame of the ring, on the master with or without ring lock, on a member
that held it by lap s - 5 (R324, R400). -/
def State.commonStart (s : State) : Bool :=
  !s.isStandalone && s.ring.startFrame.any (fun f => decide (f = s.align) &&
    (s.isMaster || (s.ring.locked && decide (s.ring.lockedAt + 5 ≤ f))))

/-- Whether the condition of an ARMED bench holds at this strobe (Table PWR-8). -/
def State.condHolds (s : State) (b : BenchId) (c : ReleaseCond) : Bool :=
  let due := (s.bench b).goDue.any (fun f => decide (f ≤ s.clock.frame))
  match c with
  | .onVerify => true
  | .onGo => due
  | .onRingLock => due
  | .onBench o n => (s.bench o).active && decide (n ≤ (s.bench o).seq.completed)
  | .onFrame f => (s.isStandalone || s.ring.locked) && decide (f ≤ s.align)
  | .onStart => s.isStandalone && s.clock.starts.contains s.clock.frame || s.commonStart

/-- The condition of one bench judged: once met, it stays met (R65). -/
def State.judgeBench (s : State) (b : BenchId) : State :=
  if (s.bench b).state = .armed ∧ (s.bench b).met = none ∧ (s.releaseCond b).any (s.condHolds b) = true then
    s.modBench b (fun x => { x with met := some s.clock.frame })
  else s

/-- Every condition judged (R65). -/
def State.judgeReleases (s : State) : State := (List.finRange 8).foldl State.judgeBench s

/-- A bench becomes ARMED: ON_RING_LOCK is met at once where lock is held (Table PWR-8). -/
def State.armBench (s : State) (b : BenchId) : State :=
  let held := decide (s.releaseCond b = some .onRingLock) && s.ring.locked
  (s.modBench b (fun x => { x with met := none, goDue := if held then some s.clock.frame else none })).setBenchState b .armed

/-! ### The period -/

/-- Whether an edge came since the previous view was latched; at release, at this very strobe (R215). `prev` is the strobe of the
previous view, none at release. -/
def PulseTrack.fresh (t : PulseTrack) (frame : Nat) (prev : Option Nat) : Bool :=
  t.at_.any (fun f => match prev with | none => decide (f = frame) | some p => decide (p < f))

/-- A pulse channel as a view is latched: an edge since the previous view enters the view at this strobe (R166, R215). -/
def PulseTrack.latch (t : PulseTrack) (frame : Nat) (prev : Option Nat) : PulseTrack :=
  if t.fresh frame prev then { t with at_ := some frame } else t

/-- A pulse channel as a view shows it (R215). -/
def PulseTrack.show (t : PulseTrack) (frame : Nat) (prev : Option Nat) : PulseView :=
  { interval := t.interval, count := t.count
    age := match (t.latch frame prev).at_ with | none => 0xffffffff | some f => BitVec.ofNat 32 (min 0xffffffff (frame - f))
    fresh := t.fresh frame prev }

/-- The pulse channels of a view: with the sense island wedged they keep their last values (R215, Table FLT-3). -/
def State.viewPulses (s : State) (x : Bench) (prev : Option Nat) : Vector PulseView 16 :=
  if s.gone 8 = true ∧ prev.isSome = true then x.view.pulses.map (fun v => { v with fresh := false })
  else x.pulses.map (fun t => t.show s.clock.frame prev)

/-- A sense channel as a view shows it (R214); no sample while it is not in RUN or the island is wedged. -/
def State.viewSample (s : State) (prev : Option Nat) (c : SenseChannel) : SampleView :=
  if c.state = .run ∧ s.gone 8 = false then
    { value := c.sample
      fresh := c.deliveredAt.any (fun f =>
        match prev with | none => decide (f = s.clock.frame) | some p => decide (p < f)) }
  else { value := 0, fresh := false }

/-- Ring lock as this strobe's views show it: none from the strobe at which the transceiver is wedged (R432, Table FLT-3). -/
def State.viewLock (s : State) : Bool := s.ring.locked && !s.gone 2

/-- The input view that a bench latches at this strobe (R166, R212 to R216, R233); what an island wedged at it presents is poison, so
absent (R432, R434). -/
def State.latchView (s : State) (b : BenchId) (first : Bool) : InputView :=
  let x := s.bench b
  let prev := if first then none else some x.seq.start
  { audio := if s.gone 7 then Vector.replicate 64 0 else s.viewAudio b
    samples := s.sense.channels.map (s.viewSample prev)
    pulses := s.viewPulses x prev
    cells := s.ring.cells.map (fun c =>
      if s.viewLock = true ∧ c.absent = false then ⟨c.value, false⟩ else ⟨0, true⟩)
    todSeconds := s.ring.todSeconds, todFrame := s.ring.todFrame, todMarked := s.ring.todMarked
    todEpoch := s.ring.todEpoch, todChanged := !first && decide (x.view.todEpoch ≠ s.ring.todEpoch)
    ringEpoch := s.ring.epoch, frame := s.clock.frame, ringFrame := if s.viewLock then s.ringFrame else 0, ringLock := s.viewLock
    powerCycle := s.wb.nv.powerCycle }

/-- The period that begins at this strobe, from a vector (R64, R150, R153, R159, R166, R167). -/
def State.beginPeriod (s : State) (b : BenchId) (first : Bool) (vector before : Nat) : State :=
  let v := s.latchView b first
  s.modBench b (fun x => { x with
    pulses := x.pulses.map (fun t => t.latch s.clock.frame (if first then none else some x.seq.start))
    view := v, stage := Stage.empty, p := setBit8 x.p 7 false
    coefs := { x.coefs with view := x.coefs.inForce }
    status := { x.status with periods := x.status.periods + 1 }
    lines := x.lines.map (fun l => { l with fresh := false })
    seq := { x.seq with
      vector := vector, issued := 0, before := before, start := s.clock.frame, due := s.clock.frame + x.seq.divisor,
      granted := s.benchCycles, stretch := 0 } })

/-! ### Release -/

/-- The edges of a pulse channel that enter the view at this strobe, oldest first, taken into a bench's count, interval and age
(R364). -/
def PulseTrack.enter (t : PulseTrack) (edges : List Nat) (frame : Nat) : PulseTrack :=
  edges.foldl (fun t ts =>
    { count := t.count + 1, last := some ts, at_ := some frame
      interval := match t.last with | none => t.interval | some p => BitVec.ofNat 32 (min 0xffffffff (ts - p)) }) t

/-- A bench's registers, predicates, fill counts, written bits, results, tags, priority and status block at release (R63, R171,
R180, R215, R220, R224, R231, R257). -/
def Bench.clear (x : Bench) (entering : SenseId → List Nat) (frame : Nat) : Bench :=
  { x with
    d := Vector.replicate 32 0, acc := Vector.replicate 4 0, accSeen := Vector.replicate 4 0, p := 0, pipe := [],
    delay := [], lines := x.lines.map (fun l => { l with w := 0, f := 0, fresh := false }), stage := Stage.empty,
    pulses := Vector.ofFn (fun c => PulseTrack.init.enter (entering c) frame)
    coefs := { x.coefs with first := true }
    tags := Vector.replicate 4 ⟨0, false, 0, none⟩, tagSeen := 0, prio := 0, prioSeen := 0, results := emptyResults,
    status := BenchStatus.init, met := none, goDue := none, generation := x.generation + 1
    seq := { x.seq with completed := 0, stretch := 0 } }

/-- BENCH_RELEASE: an ARMED bench whose condition is met, at a strobe whose alignment counter is a multiple of its divisor
(R63, R64, R66). Its positions run on from those of its earlier lives. -/
def State.benchRelease (s : State) (b : BenchId) : State :=
  let s := s.judgeBench b
  let x := s.bench b
  if s.running = true ∧ s.clock.strobed = true ∧ x.state = .armed ∧ x.met.isSome = true ∧ s.align % x.seq.divisor = 0 then
    let u := s.modBench b (fun y => y.clear (fun c => (s.chan c).entering) s.clock.frame)
    let v := (u.modCells (s.benchCells b) (fun _ => ⟨none, none⟩)).setBenchState b .running
    (v.beginPeriod b true x.seq.prologue (x.seq.before + x.seq.length)).judgeReleases
  else s

/-! ### The end of a period -/

/-- Publication of one result slot (R304). -/
def ResultSlot.publish (r : ResultSlot) (v : Word) : ResultSlot :=
  { value := v, seq := if r.seq = 0 ∨ r.seq = 0xffff then 1 else r.seq + 1, fresh := true }

/-- The plan word of an index in tenant 0's active image; without a CLOCK_PLANS record the default plan at index 0 (R87). -/
def State.planWord (s : State) (ix : Nat) : Option Word :=
  match (s.tenant 0).image with
  | none => none
  | some i =>
    match i.plans with
    | none => if ix = 0 then some (if (s.code 1).getLsbD 0 then 0x1800 else 0) else none
    | some p => p.words.find? (fun w => decide (w.toNat / 2 ^ 13 % 8 = ix))

/-- Whether a higher bench has already requested a plan at this strobe (R90). -/
def State.outranked (s : State) (b : BenchId) : Bool :=
  s.clock.asked.any (fun a => decide (a.1 = s.clock.frame) && decide (b.val < a.2))

/-- A PLAN request of a bench's period that was not LATE: pending from this strobe unless a higher bench has requested one at it;
discarded where the image defines no such index; the plan in force cancels (R90, R235). -/
def State.requestPlan (s : State) (b : BenchId) (p : Option (BitVec 3)) : State :=
  match p with
  | none => s
  | some ix =>
    match s.planWord ix.toNat with
    | none => s
    | some w =>
      if s.outranked b then s
      else
        let same := decide (s.clock.plan.toNat / 2 ^ 13 % 8 = ix.toNat)
        { s with clock := { s.clock with
          asked := some (s.clock.frame, b.val)
          pending := if same then none else some { word := w, e := s.clock.frame } } }

/-- Everything staged in a period published together: results, stream cells, audio outputs, the plan request (R174). -/
def State.publish (s : State) (b : BenchId) : State :=
  let g := (s.bench b).stage
  let u := s.modBench b (fun x => { x with
    results := g.results.foldl (fun rs r => vmod rs r.1 (fun y => y.publish r.2)) x.results })
  let v := g.cells.foldl (fun s c => s.modCells [c.1] (fun o => { o with value := some c.2 })) u
  (v.publishAudio b g.outputs).requestPlan b g.plan

/-- A delay line at a period boundary (R168). -/
def LineState.rotate (l : LineState) : LineState :=
  { l with w := (l.w + 1) % l.length, f := min (l.f + 1) l.length, fresh := false }

/-- The bench at the end of a period: every write done, lines rotated, the stretch counts kept, its registers latched for debug
(R99, R153, R168, R472). A period that ends LATE counts among the complete ones of ON_BENCH: R66 does not say (DESIGN CHOICE,
log 47). -/
def Bench.endPeriod (x : Bench) (late : Bool) : Bench :=
  let y := x.drain
  let n := BitVec.ofNat 16 (min 0xffff y.seq.stretch)
  { y with
    lines := y.lines.map LineState.rotate, debug := y.d
    status := { y.status with
      stretchLatest := n, stretchMax := if y.status.stretchMax.toNat < n.toNat then n else y.status.stretchMax
      lateCount := if late then satInc16 y.status.lateCount else y.status.lateCount }
    seq := { y.seq with completed := y.seq.completed + 1 } }

/-- Whether the bench's period ends at this strobe (R150, R151); at its fencing strobe nothing of it is published, and it is not LATE
(R179, R433). -/
def State.periodEnds (s : State) (b : BenchId) : Bool :=
  let x := s.bench b
  s.running && s.clock.strobed && x.active && decide (x.seq.due ≤ s.clock.frame) && decide (x.seq.start < s.clock.frame) &&
    decide (s.align % x.seq.divisor = 0) && !s.fenceFound b

/-- BENCH_PERIOD_END: the period is LATE where fewer than L steps have issued, its stage then discarded; else its stage is
published, unless the bench fails this strobe's handshake; the next period begins at the main vector (R150, R174, R177 to R179,
R431). -/
def State.benchPeriodEnd (s : State) (b : BenchId) : State :=
  if s.periodEnds b then
    let x := s.bench b
    let late := decide (x.seq.issued < x.seq.length) && x.acked
    let u := s.modBench b (fun y => y.endPeriod late)
    let v := if late then u.raiseOwner b 0 else if x.acked then u.publish b else u
    let w := v.setBenchState b (if late then .late else .running)
    (w.beginPeriod b false x.seq.main (x.seq.before + x.seq.length)).judgeReleases
  else s

/-! ### Plan switches -/

/-- The counted benches of a strobe: tenant 0's RUNNING and LATE benches that were so before it (R91). A bench released at this
strobe began its first period here. -/
def State.counted (s : State) : List BenchId :=
  (s.owned 0).filter (fun b => (s.bench b).active &&
    !(decide ((s.bench b).seq.start = s.clock.frame) && decide ((s.bench b).seq.completed = 0)))

/-- A plan put in force at this strobe: every running period has the frame's cycles under it (R89, R93). -/
def State.loadPlan (s : State) (w : Word) : State :=
  let old := s.benchCycles
  let u := { s with clock := { s.clock with plan := w } }
  { u with benches := u.benches.map (fun x =>
    if x.active then { x with seq := { x.seq with granted := x.seq.granted - old + u.benchCycles } } else x) }

/-- PLAN_SWITCH: the pending plan is loaded at the first strobe from e + 1 on at which every counted bench has ended a period
(R91). -/
def State.planSwitch (s : State) : State :=
  match s.clock.pending with
  | none => s
  | some p =>
    if s.running = true ∧ s.clock.strobed = true ∧ p.e + 1 ≤ s.clock.frame ∧
        s.counted.all (fun b => decide ((s.bench b).seq.start = s.clock.frame)) = true then
      let u := s.loadPlan p.word
      { u with clock := { u.clock with pending := none } }
    else s

/-- A pending switch cancelled when tenant 0's benches enter HELD (R92). -/
def State.cancelPlan (s : State) (t : TenantId) : State :=
  if t = 0 then { s with clock := { s.clock with pending := none } } else s

/-! ### Stretch cycles -/

/-- Whether a reading in mV lies below the droop threshold of 0.755 V ±5 mV; between its limits a free value (R98). -/
def State.droops (s : State) (mv : Nat) : Bool × State :=
  if mv < 750 then (true, s)
  else if 760 ≤ mv then (false, s)
  else
    let k := s.takeFree
    (Config.droopInBand k.1, k.2)

/-- Whether a bench cycle of the frame lies in the issue window of the bench's period (R93). -/
def State.inWindow (s : State) (b : BenchId) (cycle : Nat) : Bool :=
  let x := s.bench b
  decide (cycle < s.benchCycles) && (decide (8 ≤ cycle) || decide (x.seq.start ≠ s.clock.frame)) &&
    (decide (cycle + 8 < s.benchCycles) || !s.lastFrame b)

/-- Whether the stretch toggle is set at a bench cycle of a frame: it changes at every bench cycle; `toggle` is its value where the
frame begins (R98). -/
def Sequencer.toggleAt (q : Sequencer) (cycle : Nat) : Bool := (decide (cycle % 2 = 1)) != q.toggle

/-- STRETCH_CYCLE: below the threshold a cycle at which the toggle is set is withheld; in the issue window of a running bench it
counts, and no step issues in it (R93, R98, R99). -/
def State.stretchCycle (s : State) (b : BenchId) (mv cycle : Nat) : State :=
  if s.running = true ∧ (s.bench b).active = true ∧ s.inWindow b cycle = true ∧ (s.bench b).seq.toggleAt cycle = true then
    let d := s.droops mv
    if d.1 then d.2.modBench b (fun x => { x with seq := { x.seq with stretch := x.seq.stretch + 1 } }) else d.2
  else s

/-! ### START -/

/-- A START edge that the part takes: a standalone part starts at n + 2, its ports and the benches that are ARMED there with
ON_START; a master names ring frame n + 8 unless a start is pending; a member ignores its own pin (R66, R323, R400). -/
def State.takeStart (s : State) : State :=
  if s.isStandalone then
    ({ s with clock := { s.clock with starts := (s.clock.frame + 2) :: s.clock.starts } }).startPorts (s.clock.frame + 2)
  else if s.isMaster = true ∧ s.ring.startPending = false then
    let f := s.clock.frame + 8
    ({ s with ring := { s.ring with startPending := true, startFrame := some f } }).startPorts f
  else s

/-- START_EDGE: a rising edge recognised after low and then high for the times of Table PWR-5. START in its band counts as high, so
only a level outside it on the low side begins an edge (R54, R55, R323, R451). -/
def State.startEdge (s : State) (before : PinInput) (lowNs : Nat) (after : PinInput) (highNs : Nat) : State :=
  if s.running = true ∧ s.clock.strobed = true ∧ before.level = .low ∧ after.level ≠ .low then
    let r := s.recognise (min lowNs highNs) 200 1000
    if r.1 then r.2.takeStart else r.2
  else s

/-! ### The commands -/

/-- BENCH_RELEASE (R66). -/
def execBenchRelease (b : BenchId) (s : State) : Out := .next (s.benchRelease b)

/-- BENCH_PERIOD_END (R150). -/
def execBenchPeriodEnd (b : BenchId) (s : State) : Out := .next (s.benchPeriodEnd b)

/-- PLAN_SWITCH (R91). -/
def execPlanSwitch (s : State) : Out := .next s.planSwitch

/-- STRETCH_CYCLE (R98). -/
def execStretchCycle (b : BenchId) (mv cycle : Nat) (s : State) : Out :=
  .next (s.stretchCycle b mv cycle)

/-- START_EDGE (R323). -/
def execStartEdge (before : PinInput) (lowNs : Nat) (after : PinInput) (highNs : Nat) (s : State) : Out :=
  .next (s.startEdge before lowNs after highNs)

end Sys2Proof.Machine
end

