-- ==== Sys2Proof/Machine/Straps.lean ====
section
/-! DEFINITION. Sys2Proof/Machine/Straps.lean: the STRAP phase and the observation of PROV_N (R17 to R41 of
spec/02_straps_and_codes.md). -/
namespace Sys2Proof.Machine

/-! ### Coded pins -/

/-- One conversion of a coded pin at a voltage in 0.1 mV: readings above 1.20 V saturate (R21, R452). -/
def convertPin (v : Nat) : Nat := min 12000 v

/-- The reading of a pin in 0.1 mV: the mean of its 16 conversions, a half step rounded up (R21). -/
def pinMean (conv : Vector Nat 16) : Nat := (conv.toList.foldl (· + ·) 0 + 8) / 16

/-- Whether a pin is unstable: its conversions differ by more than 7.5 mV (R22). -/
def pinUnstable (conv : Vector Nat 16) : Bool :=
  decide (conv.toList.foldl min (conv.toList.headD 0) + 75 < conv.toList.foldl max 0)

/-- The code whose window centre lies nearest a reading, a half way taken up, at most 15 (Table STR-10). -/
def nearestCode (v : Nat) : Nat := min 15 ((v + 375) / 750)

/-- Whether a reading lies in a guard band of Table STR-2. -/
def inGuard (v : Nat) : Bool :=
  let k := nearestCode v
  (decide (k < 15) && decide (750 * k + 225 < v)) || (decide (0 < k) && decide (v + 225 < 750 * k))

/-- Whether a pin's code is reserved (Tables STR-3 and STR-5): CODE_A 14, CODE_C 8 to 14. -/
def reservedCode (pin k : Nat) : Bool :=
  (decide (pin = 0) && decide (k = 14)) || (decide (pin = 2) && decide (8 ≤ k) && decide (k ≤ 14))

/-- The reason a coded pin faults by itself, 0 for none (Table STR-9). -/
def codedReason (pin : Nat) (conv : Vector Nat 16) : Nat :=
  if pinUnstable conv then 1
  else if inGuard (pinMean conv) then 2
  else if reservedCode pin (nearestCode (pinMean conv)) then 3
  else 0

/-! ### Binary straps -/

/-- How many samples of a binary strap lie at a level. -/
def levelCount (v : Vector PinLevel 16) (l : PinLevel) : Nat := (v.toList.filter (fun x => decide (x = l))).length

/-- The reason a binary strap faults, 0 for none (R26, Table STR-9). -/
def binaryReason (v : Vector PinLevel 16) : Nat :=
  if 0 < levelCount v .high ∧ 0 < levelCount v .low then 1 else if 0 < levelCount v .band then 4 else 0

/-- The level bit of the record (Table STR-10). -/
def binaryBit (v : Vector PinLevel 16) : Bool := decide (levelCount v .low < levelCount v .high)

/-! ### Consistency checks -/

/-- Whether an arrangement of CODE_G makes SAP_0 a follower that receives its word clock (Table SAP-1). -/
def sap0Follows (g : Nat) : Bool := [1, 6, 7, 8, 11, 13].contains g

/-- The first check that fails and blames a pin (Table STR-8), 0 for none. `s` holds the decoded codes. -/
def State.failedCheck (s : State) (pin : Nat) : Nat :=
  if pin = 1 then
    if s.refSource = 2 ∧ s.isStandalone = true then 1
    else if s.refSource = 2 ∧ s.isMaster = true then 2
    else if s.isMember = true ∧ s.refSource ≠ 2 then 3
    else 0
  else if pin = 6 then (if s.refSource = 3 ∧ sap0Follows (s.code 6).toNat = false then 4 else 0)
  else if pin = 4 then
    (if 1 ≤ (s.code 2).toNat ∧ (s.code 2).toNat ≤ 6 ∧ 92 < (s.ringId + 1) * s.cellCount then 5 else 0)
  else 0

/-- The 16 conversions of a coded pin. -/
def pinConv (r : StrapReadings) (p : Nat) : Vector Nat 16 := (vget r.volts p (Vector.replicate 16 0)).map convertPin

/-- The 16 samples of a binary strap against its window comparators (R26). -/
def strapSamples (vddIo : Nat) (v : Vector Nat 16) : Vector PinLevel 16 := v.map (pinLevel vddIo)

/-- The strap faults of the readings, in ascending pin order; the checks apply when every coded pin has decoded (R31, R32). -/
def State.strapFaults (s : State) (r : StrapReadings) : List StrapFault :=
  let own := (List.range 8).map (fun p => codedReason p (pinConv r p))
  let decoded := own.all (· == 0)
  let coded := (List.range 8).filterMap (fun p =>
    let reason := own.getD p 0
    let check := s.failedCheck p
    if reason ≠ 0 then some { pin := p, reason := reason, check := 0 }
    else if decoded = true ∧ check ≠ 0 then some { pin := p, reason := 5, check := check }
    else none)
  let binary := fun (p : Nat) (v : Vector PinLevel 16) =>
    if binaryReason v = 0 then [] else [({ pin := p, reason := binaryReason v, check := 0 } : StrapFault)]
  coded ++ binary 8 (strapSamples r.vddIo r.devel) ++ binary 9 (strapSamples r.vddIo r.provN)

/-! ### The snapshot record -/

/-- The first fault of a list sorted by pin: the blamed one (R35). -/
def blamed (fs : List StrapFault) : Option StrapFault := fs.head?

/-- The snapshot record, 28 bytes (Table STR-10). The temperature byte of a junction above 127 °C is open (R36, log 17). -/
def snapshotRecord (codes : Vector (BitVec 4) 8) (fs : List StrapFault) (r : StrapReadings) : List Byte :=
  let c := fun (i : Nat) => (vget codes i 0).toNat
  let devel := strapSamples r.vddIo r.devel
  let provN := strapSamples r.vddIo r.provN
  let flags := (if binaryBit devel then 128 else 0) + (if binaryBit provN then 64 else 0) +
    (if fs.isEmpty then 0 else 32) + ((blamed fs).map (·.pin)).getD 15
  let detail := ((blamed fs).map (fun f => f.check * 16 + f.reason)).getD 0
  (List.range 4).map (fun i => BitVec.ofNat 8 (c (2 * i) * 16 + c (2 * i + 1))) ++
    [BitVec.ofNat 8 flags, BitVec.ofNat 8 detail] ++
    (List.range 8).flatMap (fun p => beBytes 2 (min 0xffff (pinMean (pinConv r p)))) ++
    [BitVec.ofNat 8 (levelCount devel .high), BitVec.ofNat 8 (levelCount devel .low),
     BitVec.ofNat 8 (levelCount provN .high), BitVec.ofNat 8 (levelCount provN .low),
     celsiusByte r.temp, 0x01]

/-- The straps once a phase has decoded its readings (R20, R26, R28, R29). A binary strap is sampled high, or low, only when all of
its samples are: a faulted DEVEL is not sampled high, and a faulted PROV_N not sampled low (R26, R33). -/
def State.decodeStraps (s : State) (r : StrapReadings) : State :=
  let codes := Vector.ofFn (fun (p : Fin 8) => BitVec.ofNat 4 (nearestCode (pinMean (pinConv r p.val))))
  let u := { s with straps := { s.straps with codes := codes } }
  let fs := u.strapFaults r
  { u with straps :=
    { s.straps with
      codes := codes, devel := decide (levelCount (strapSamples r.vddIo r.devel) .high = 16)
      provN := decide (levelCount (strapSamples r.vddIo r.provN) .low ≠ 16)
      sourcesOn := false, faults := fs, snapshot := snapshotRecord codes fs r, notLowRun := 0, provClosed := false } }

/-- STRAP_PHASE_END: readings decoded, the record built, the sources off, TRUST begins (R18, R20, R48). -/
def State.strapPhaseEnd (s : State) (r : StrapReadings) : State :=
  if s.power.state = .strap then
    let u := s.decodeStraps r
    { u with power := { u.power with state := .trust } }
  else s

/-- PROV_N_OBSERVE: provisioning closes at the second consecutive observation that counts as not low (R29). -/
def State.provNObserve (s : State) (mv vddIo : Nat) : State :=
  if s.power.state = .por ∨ s.power.state = .strap then s
  else if pinLevel vddIo mv = .low then { s with straps := { s.straps with notLowRun := 0 } }
  else { s with straps := { s.straps with
    notLowRun := s.straps.notLowRun + 1
    provClosed := s.straps.provClosed || decide (1 ≤ s.straps.notLowRun) } }

/-- STRAP_PHASE_END (R20). -/
def execStrapPhaseEnd (r : StrapReadings) (s : State) : Out := .next (s.strapPhaseEnd r)

/-- PROV_N_OBSERVE (R29). -/
def execProvNObserve (mv vddIo : Nat) (s : State) : Out := .next (s.provNObserve mv vddIo)

end Sys2Proof.Machine
end

