-- ==== Sys2Proof/Machine/Ecdsa.lean ====
section
/-! DEFINITION. Sys2Proof/Machine/Ecdsa.lean: ECDSA over P-256 with SHA-256, by which images are verified (R130 of
spec/06_program_images.md) and exports and attestations are signed (R424 of spec/16_weighbridge.md). -/
namespace Sys2Proof.Machine

/-- The prime of P-256. -/
def p256P : Nat := 0xffffffff00000001000000000000000000000000ffffffffffffffffffffffff

/-- The order of P-256. -/
def p256N : Nat := 0xffffffff00000000ffffffffffffffffbce6faada7179e84f3b9cac2fc632551

/-- The constant term of the curve. -/
def p256B : Nat := 0x5ac635d8aa3a93e7b3ebbd55769886bc651d06b0cc53b0f63bce3c3e27d2604b

/-- The base point. -/
def p256G : Nat × Nat :=
  (0x6b17d1f2e12c4247f8bce6e563a440f277037d812deb33a0f4a13945d898c296,
   0x4fe342e2fe1a7f9b8ee7eb4a7c0f9e162bce33576b315ececbb6406837bf51f5)

/-- `acc * b ^ e mod m` for an exponent of at most `fuel` bits. -/
def powMod (m : Nat) : Nat → Nat → Nat → Nat → Nat
  | 0, _, _, acc => acc
  | fuel + 1, b, e, acc => powMod m fuel (b * b % m) (e / 2) (if e % 2 = 1 then acc * b % m else acc)

/-- The inverse modulo a prime of at most 256 bits (Fermat); 0 for 0. -/
def invMod (m a : Nat) : Nat := powMod m 256 (a % m) (m - 2) 1

/-- A point of the curve; `none` is the point at infinity. -/
abbrev P256Point := Option (Nat × Nat)

/-- Whether a pair of numbers is a point of the curve. -/
def p256OnCurve (x y : Nat) : Bool :=
  decide (x < p256P) && decide (y < p256P) &&
    decide (y * y % p256P = (x * x % p256P * x + (p256P - 3) * x + p256B) % p256P)

/-- The sum of two points. -/
def p256Add (u v : P256Point) : P256Point :=
  match u, v with
  | none, q => q
  | p, none => p
  | some (x1, y1), some (x2, y2) =>
    if x1 = x2 ∧ (y1 + y2) % p256P = 0 then none
    else
      let l := if x1 = x2 then (3 * x1 * x1 + (p256P - 3)) * invMod p256P (2 * y1) % p256P
        else (y2 + p256P - y1) * invMod p256P (x2 + p256P - x1) % p256P
      let x3 := (l * l + 2 * p256P - x1 - x2) % p256P
      some (x3, (l * (x1 + p256P - x3) + p256P - y1) % p256P)

/-- The multiple of a point by a number of at most `fuel` bits, added to `acc`. -/
def p256MulAux : Nat → Nat → P256Point → P256Point → P256Point
  | 0, _, _, acc => acc
  | fuel + 1, k, pt, acc =>
    p256MulAux fuel (k / 2) (p256Add pt pt) (if k % 2 = 1 then p256Add acc pt else acc)

/-- The multiple of a point by a number below 2^256. -/
def p256Mul (k : Nat) (pt : P256Point) : P256Point := p256MulAux 256 k pt none

/-- Whether (r, s) is a signature of the message under the public key (x, y). -/
def ecdsaVerify (x y r s : Nat) (msg : List Byte) : Bool :=
  let z := beNat (sha256 msg)
  if r = 0 ∨ s = 0 ∨ p256N ≤ r ∨ p256N ≤ s ∨ p256OnCurve x y = false then false
  else
    let w := invMod p256N s
    match p256Add (p256Mul (z * w % p256N) (some p256G)) (p256Mul (r * w % p256N) (some (x, y))) with
    | none => false
    | some (vx, _) => decide (vx % p256N = r)

/-- The signature (r, s) of the message with the private key `d` and the per-signature secret `k`. -/
def ecdsaSign (d k : Nat) (msg : List Byte) : Nat × Nat :=
  let z := beNat (sha256 msg)
  match p256Mul k (some p256G) with
  | none => (0, 0)
  | some (x, _) =>
    let r := x % p256N
    (r, invMod p256N k * ((z + r * d) % p256N) % p256N)

end Sys2Proof.Machine
end

