-- ==== Sys2Proof/Machine/Weighbridge.lean ====
section
/-! DEFINITION. Sys2Proof/Machine/Weighbridge.lean: the weighbridge's tagged requests, attestation, provisioning and lock
(R418 to R428 of spec/16_weighbridge.md), and the commands of its writer. -/
namespace Sys2Proof.Machine

/-- A number as `n` words, most significant first. -/
def beWords (n v : Nat) : List Word := bytesToWords (beBytes (4 * n) v)

/-- A number taken into 1 to n − 1, the range of a P-256 private key and of a per-signature secret (FIPS 186-5, R424). -/
def secretOf (v : Nat) : Nat := v % (p256N - 1) + 1

/-- The device private key (R425). -/
def devicePrivate : Nat := secretOf Config.deviceKey

/-- The device public key (R425). -/
def deviceKeyXY : Nat × Nat := (p256Mul devicePrivate (some p256G)).getD (0, 0)

/-- The 64 bytes X then Y of the device public key. -/
def deviceKeyBytes : List Byte := beBytes 32 deviceKeyXY.1 ++ beBytes 32 deviceKeyXY.2

/-- The device key ID: SHA-256 of X then Y (R424). -/
def deviceKeyId : List Word := bytesToWords (sha256 deviceKeyBytes)

/-- The authority slots provisioned, as bits (Table WBR-9). -/
def Otp.provisioned (o : Otp) : Nat :=
  (List.range 4).foldl (fun m i => if (vget o.keys i none).isSome then m + 2 ^ i else m) 0

/-- Whether the OTP lock reads as set: any of its three bits (R426). -/
def Otp.locked (o : Otp) : Bool := decide (o.lock ≠ 0)

/-- Whether provisioning is open (R29). -/
def State.provisioningOpen (s : State) : Bool := !s.straps.provN && !s.straps.provClosed && !s.otp.locked

/-- The local frame counter of the latest strobe, 0 before the first. -/
def State.localFrame (s : State) : Nat := if s.clock.strobed then s.clock.frame else 0

/-- A 64-bit counter as two words (Table TPT-8). -/
def counterWords (n : Nat) : List Word := [BitVec.ofNat 32 (n / 2 ^ 32), BitVec.ofNat 32 n]

/-- Two halves as a word. -/
def halves (hi lo : Half) : Word := hi ++ lo

/-- A flag at a bit of a word as a number. -/
def bitAt (b : Bool) (i : Nat) : Nat := if b then 2 ^ i else 0

/-! ### Snapshots (R422) -/

/-- Words 11 to 15 of HEAD for a region. -/
def Nv.headWords (n : Nv) (r : Region) : List Word :=
  [(n.region r).newest.seq, (n.oldest r).seq, BitVec.ofNat 32 (n.entries r).length, (n.region r).wraps,
   (n.region r).mark.seq]

/-- LOG HEAD tag data (Table WBR-7). -/
def Nv.headData (n : Nv) : List Word :=
  [0x01000000#32, n.newest.1.seq, n.next.seq] ++ bytesToWords n.newest.2 ++ n.headWords .prot ++ n.headWords .gen ++
    [n.lost, halves n.next.era n.newest.1.era, halves n.prot.newest.era (n.oldest .prot).era,
     halves n.gen.newest.era (n.oldest .gen).era, halves n.prot.mark.era n.gen.mark.era]

/-- The entries from a pair on, at most `k`, up to the first pair not present (R423). -/
def Nv.run (n : Nv) : Nat → SeqPair → List (Nat × LogSlot)
  | 0, _ => []
  | k + 1, p =>
    match n.find p with
    | none => []
    | some x => x :: Nv.run n k p.next

/-- The bytes a slot returns: as read where it is uncorrectable, else as stored (R423). -/
def slotBytes (bad : List (Nat × List Byte)) (x : Nat × LogSlot) : List Byte :=
  match bad.find? (fun b => decide (b.1 = x.1)) with
  | some b => padTo 0 64 b.2
  | none => x.2.bytes

/-- The uncorrectable map of a run of entries, bit i = entry i. -/
def badMap (bad : List (Nat × List Byte)) (i : Nat) (xs : List (Nat × LogSlot)) : Nat :=
  match xs with
  | [] => 0
  | x :: rest => bitAt (bad.any (fun b => decide (b.1 = x.1))) i + badMap bad (i + 1) rest

/-- The highest pair of a region among the entries returned (R418). -/
def topPair (r : Region) (xs : List (Nat × LogSlot)) : SeqPair :=
  xs.foldl (fun m x =>
    if decide (r.first ≤ x.1) && decide (x.1 < r.first + r.size) && m.lt x.2.pair then x.2.pair else m) ⟨0, 0⟩

/-- The words of ENTRIES, and of EXPORT before its nonce (Table WBR-8). -/
def State.entryData (s : State) (first : SeqPair) (k : Nat) (bad : List (Nat × List Byte)) : List Word :=
  let xs := s.wb.nv.run k first
  [BitVec.ofNat 32 (0x01000000 + xs.length * 2 ^ 16 + bitAt (decide (xs.length < k)) 9 + bitAt s.straps.devel 8),
   first.seq, halves first.era (BitVec.ofNat 16 (badMap bad 0 xs))] ++
    xs.flatMap (fun x => bytesToWords (slotBytes bad x))

/-- Words 56 + 10t to 65 + 10t of an attestation (Table WBR-9). -/
def State.attestTenant (s : State) (t : TenantId) : List Word :=
  vget s.wb.nv.floors t.val 0 ::
    (match (s.tenant t).image with
     | none => List.replicate 9 0
     | some i => i.rollback :: bytesToWords i.digest)

/-- A mask over the four tenants. -/
def tenantMask (p : TenantId → Bool) : Nat := (List.finRange 4).foldl (fun m t => m + bitAt (p t) t.val) 0

/-- Word 34 of an attestation (Table WBR-9). In HELD_STRAP a CODE_B without a code gives no family, and its bit reads 0. -/
def State.attestFlags (s : State) : Word :=
  BitVec.ofNat 32 (bitAt s.otp.locked 31 + bitAt s.straps.devel 30 + bitAt s.provisioningOpen 29 +
    s.otp.provisioned * 2 ^ 24 + s.power.state.code * 2 ^ 20 + bitAt (s.family441 && !s.codeless 1) 16 +
    min 15 (s.wb.nv.newest.1.era.toNat - s.wb.nv.prot.newest.era.toNat) * 2 ^ 12 +
    bitAt (s.running && s.economy) 11 + (if s.running then s.clock.plan.toNat / 2 ^ 13 % 8 else 0) * 2 ^ 8 +
    tenantMask s.present * 2 ^ 4 + tenantMask (fun t => (s.tenant t).image.isSome))

/-- The channels with a user calibration in force, as bits (Table WBR-9). -/
def State.calMap (s : State) : Half :=
  BitVec.ofNat 16 ((List.finRange 16).foldl (fun m c => m + bitAt s.sense.channels[c].cal.isSome c.val) 0)

/-- TIME READ word 5 (Table TPT-8). -/
def State.todWord (s : State) : Word := halves s.ring.todFrame (if s.ring.todMarked then 1 else 0)

/-- Words 0 to 103 of an attestation (Table WBR-9). -/
def State.attestData (s : State) (t : TenantId) (nonce : List Word) : List Word :=
  let n := s.wb.nv
  [BitVec.ofNat 32 (0x01b00000 + t.val * 256)] ++ beWords 2 Config.partId.toNat ++ deviceKeyId ++
    bytesToWords deviceKeyBytes ++ bytesToWords (padTo 0 28 s.straps.snapshot) ++
    [s.attestFlags, halves n.newest.1.era s.calMap] ++ counterWords s.localFrame ++ counterWords s.ringFrame ++
    [n.powerCycle, s.ring.todSeconds, s.todWord, s.ring.todEpoch, s.ring.epoch, n.newest.1.seq] ++
    bytesToWords n.newest.2 ++ [n.prot.newest.seq, n.lost] ++ (List.finRange 4).flatMap s.attestTenant ++
    padTo 0 8 nonce

/-- The words of a request's snapshot, and the highest pairs that an EXPORT returns (R422, R423). -/
def State.snapshot (s : State) (t : TenantId) (q : WbRequest) (bad : List (Nat × List Byte)) :
    List Word × SeqPair × SeqPair :=
  match q with
  | .head => (s.wb.nv.headData, ⟨0, 0⟩, ⟨0, 0⟩)
  | .entries p k => (s.entryData p k bad, ⟨0, 0⟩, ⟨0, 0⟩)
  | .exportLog p k nonce =>
    (s.entryData p k bad ++ padTo 0 8 nonce ++ deviceKeyId ++ counterWords s.localFrame ++ [s.wb.nv.powerCycle],
      topPair .prot (s.wb.nv.run k p), topPair .gen (s.wb.nv.run k p))
  | .attest nonce => (s.attestData t nonce, ⟨0, 0⟩, ⟨0, 0⟩)
  | .identify =>
    (beWords 2 Config.partId.toNat ++ bytesToWords deviceKeyBytes ++
      [BitVec.ofNat 32 (bitAt s.otp.locked 31 + s.otp.provisioned * 2 ^ 24)], ⟨0, 0⟩, ⟨0, 0⟩)
  | .slot _ _ => ([], ⟨0, 0⟩, ⟨0, 0⟩)
  | .floor _ _ => ([], ⟨0, 0⟩, ⟨0, 0⟩)
  | .selftest => ([], ⟨0, 0⟩, ⟨0, 0⟩)

/-! ### Service (R421) -/

/-- The next tenant with a pending request, in round-robin order from the turn on (R421). -/
def State.nextRequest (s : State) : Option (TenantId × Nat × WbRequest) :=
  ((List.range 4).map (fun i => tenantOf (s.wb.turn + i))).findSome? (fun t =>
    match vget s.wb.requests t.val [] with
    | [] => none
    | q :: _ => some (t, q.1, q.2))

/-- WEIGHBRIDGE_SERVICE_START: the oldest request of the next tenant is taken, and its snapshot with it (R421, R422). -/
def State.serviceStart (s : State) (bad : List (Fin 4096 × Vector Byte 64)) : State :=
  if s.logLive = false ∨ s.wb.service.isSome = true then s
  else
    match s.nextRequest with
    | none => s
    | some (t, tag, q) =>
      let x := s.snapshot t q (bad.map (fun e => (e.1.val, e.2.toList)))
      { s with wb := { s.wb with
        requests := vmod s.wb.requests t.val (fun l => l.drop 1)
        service := some { tenant := t, tag := tag, request := q, words := x.1, marks := x.2 }
        turn := t.val + 1 } }

/-- A request's tag becomes READY with its data and its completion code (R115, R116). -/
def State.completeTag (s : State) (t : TenantId) (tag : Nat) (data : List Word) (code : Byte)
    (marks : SeqPair × SeqPair) : State :=
  s.modPort t (fun p => { p with tags := vmod p.tags tag (fun g =>
    { g with state := .ready, data := data, code := code, marks := marks }) })

/-- The signature of a message with the first secret, from `k` on, that was never drawn and gives neither r = 0 nor s = 0, with that
secret (R424). -/
def signFresh (drawn : List Nat) (msg : List Byte) : Nat → Nat → Nat × (Nat × Nat)
  | 0, k => (k, ecdsaSign devicePrivate k msg)
  | fuel + 1, k =>
    let x := ecdsaSign devicePrivate k msg
    if drawn.contains k || decide (x.1 = 0) || decide (x.2 = 0) then signFresh drawn msg fuel (secretOf k) else (k, x)

/-- The words of a signature of words; the per-signature secret is the generator's next, the state's next free value, and none that
it gave before, so that two signatures over one message differ (R424). -/
def State.sign (s : State) (words : List Word) : List Word × State :=
  let k := s.takeFree
  let x := signFresh s.drawn (wordsToBytes words) (s.drawn.length + 8) (secretOf (Config.signSecret k.1))
  (beWords 8 x.2.1 ++ beWords 8 x.2.2, { k.2 with drawn := x.1 :: s.drawn })

/-- An authority slot programmed, or the completion code that refuses it (Table WBR-10). R428 has each SLOT that completes commit a
PROVISION entry and does not say whether one whose tag completes with PROV_LOCKED or OP_UNKNOWN is meant: the model writes none for it
(DESIGN CHOICE, log 70). -/
def State.programSlot (s : State) (t : TenantId) (i : Nat) (hash : List Word) : Byte × State :=
  if (vget s.otp.keys i none).isSome then (0x19, s)
  else if hash.all (fun w => decide (w = 0)) then (0x02, s)
  else
    let u := { s with otp := { s.otp with keys := vmod s.otp.keys i (fun _ => some (wordsToBytes hash)) } }
    (0x00, u.logPart 0x18 ([1, BitVec.ofNat 8 t.val, BitVec.ofNat 8 i, 0] ++ (wordsToBytes hash).take 16))

/-- A rollback floor raised (Table WBR-10). -/
def State.programFloor (s : State) (t : TenantId) (i : TenantId) (v : Word) : State :=
  let b := s.wb.nv.block
  let f := if (vget b.floors i.val 0).toNat < v.toNat then v else vget b.floors i.val 0
  let u := { s with wb := { s.wb with nv := s.wb.nv.update { b with floors := vmod b.floors i.val (fun _ => f) } } }
  u.logPart 0x18 ([2, BitVec.ofNat 8 t.val, BitVec.ofNat 8 i.val, 0] ++ beBytes 4 f.toNat)

/-- WEIGHBRIDGE_REQUEST_DONE: the request in service completes (R421 to R428). -/
def State.requestDone (s : State) (selftest : BitVec 4) (us : Word) : State :=
  match s.wb.service with
  | none => s
  | some v =>
    let u := { s with wb := { s.wb with service := none } }
    match v.request with
    | .exportLog _ _ _ =>
      let g := u.sign v.words
      g.2.completeTag v.tenant v.tag (v.words ++ g.1) 0 v.marks
    | .attest _ =>
      let g := u.sign v.words
      g.2.completeTag v.tenant v.tag (v.words ++ g.1) 0 v.marks
    | .slot i hash =>
      let g := u.programSlot v.tenant i hash
      g.2.completeTag v.tenant v.tag [BitVec.ofNat 32 g.2.otp.provisioned] g.1 v.marks
    | .floor i w =>
      let g := u.programFloor v.tenant i w
      g.completeTag v.tenant v.tag [vget g.wb.nv.floors i.val 0] 0 v.marks
    | .selftest => u.completeTag v.tenant v.tag [selftest.setWidth 32, us] 0 v.marks
    | .head => u.completeTag v.tenant v.tag v.words 0 v.marks
    | .entries _ _ => u.completeTag v.tenant v.tag v.words 0 v.marks
    | .identify => u.completeTag v.tenant v.tag v.words 0 v.marks

/-- A tagged request accepted: its tag PENDING, the request queued; with the weighbridge wedged it completes at once with
zeros and BUSY (R421, Table FLT-3). -/
def State.request (s : State) (t : TenantId) (tag : Nat) (op : TagOp) (q : WbRequest) : State :=
  let u := s.modPort t (fun p => { p with tags := vmod p.tags tag (fun _ =>
    { state := .pending, op := op, data := [], code := 0, marks := (⟨0, 0⟩, ⟨0, 0⟩) }) })
  if s.isWedged 9 then u.completeTag t tag [] 0x03 (⟨0, 0⟩, ⟨0, 0⟩)
  else { u with wb := { u.wb with requests := vmod u.wb.requests t.val (fun l => l ++ [(tag, q)]) } }

/-- The requests of a tenant retired (R421). -/
def State.retireRequests (s : State) (t : TenantId) : State :=
  { s with wb := { s.wb with
    requests := vmod s.wb.requests t.val (fun _ => [])
    service := s.wb.service.filter (fun v => decide (v.tenant ≠ t)) } }

/-- The export marks raised when an EXPORT's tag becomes FETCHED (R418); a wedged weighbridge writes nothing (R432). -/
def State.raiseMarks (s : State) (m : SeqPair × SeqPair) : State :=
  let b := s.wb.nv.block
  let raise := fun (h : RegionHead) (p : SeqPair) => { h with mark := if h.mark.lt p then p else h.mark }
  if s.isWedged 9 = false ∧ (b.prot.mark.lt m.1 || b.gen.mark.lt m.2) = true then
    { s with wb := { s.wb with nv := s.wb.nv.update { b with prot := raise b.prot m.1, gen := raise b.gen m.2 } } }
  else s

/-- An accepted LOCK: the lock bits programmed, a LOCK entry (R428, Table WBR-5). One accepted while the weighbridge is wedged is
discarded with its data (R432): Table FLT-3 does not name LOCK, and the model programs nothing and writes no entry (DEDUCED, log 69). -/
def State.lockOtp (s : State) (t : TenantId) : State :=
  if s.isWedged 9 then s
  else ({ s with otp := { s.otp with lock := 7 } }).logPart 0x19
    ([BitVec.ofNat 8 s.otp.provisioned, BitVec.ofNat 8 t.val] ++ s.wb.nv.floors.toList.flatMap (fun (w : Word) => beBytes 4 w.toNat))

/-- The weighbridge declared wedged: its writer is cut in the commit in progress, nothing queued is written, and every tagged request
completes with zeros and BUSY (Table FLT-3, R409, R412). -/
def State.poisonWeighbridge (s : State) (cut : CommitCut) : State :=
  let done := fun (s : State) (x : TenantId × Nat) => s.completeTag x.1 x.2 [] 0x03 (⟨0, 0⟩, ⟨0, 0⟩)
  let waiting := (List.finRange 4).flatMap (fun t => (vget s.wb.requests t.val []).map (fun q => (t, q.1)))
  let served := match s.wb.service with | none => [] | some v => [(v.tenant, v.tag)]
  let u := (served ++ waiting).foldl done s
  { u with wb := { u.wb with
    nv := s.cutCommit cut, witnessQ := [], systemQ := [], requests := Vector.replicate 4 [], service := none } }

/-- WEIGHBRIDGE_SERVICE_START (R422). -/
def execWeighbridgeServiceStart (bad : List (Fin 4096 × Vector Byte 64)) (s : State) : Out := .next (s.serviceStart bad)

/-- WEIGHBRIDGE_REQUEST_DONE (R421). -/
def execWeighbridgeRequestDone (selftest : BitVec 4) (us : Word) (s : State) : Out := .next (s.requestDone selftest us)

/-- LOG_COMMIT (R409). -/
def execLogCommit (s : State) : Out := .next s.commitNext

/-- BUDGET_SECOND_END (R417). -/
def execBudgetSecondEnd (s : State) : Out := .next s.budgetSecondEnd

end Sys2Proof.Machine
end

