-- ==== Sys2Proof/Machine/Power.lean ====
section
/-! DEFINITION. Sys2Proof/Machine/Power.lean: supplies, full reset, temperature, FAULT_N, and the end of TRUST with the opening
of the log (R42 to R59, R70 to R72 of spec/03_power_reset_release.md, R33 to R40 of spec/02_straps_and_codes.md, R413 to R415 of
spec/16_weighbridge.md). -/
namespace Sys2Proof.Machine

/-! ### Supplies -/

/-- The rising reset threshold of a required supply in mV, VDD_CORE 0 to VDD_NV 6 (Table PWR-1). -/
def risingMv (i : Nat) : Nat := [730, 730, 1600, 1600, 2900, 1600, 1650].getD i 0

/-- The falling reset threshold of a required supply in mV (Table PWR-1). -/
def fallingMv (i : Nat) : Nat := [700, 700, 1500, 1500, 2800, 1500, 1550].getD i 0

/-- The warning threshold of a required supply in mV, by the range of its bank (Table PWR-1). -/
def Power.warningMv (p : Power) (i : Nat) : Nat :=
  let io := fun (r33 : Bool) => if r33 then 2970 else 1620
  [750, 750, io p.bankA33, io p.bankB33, 3000, 1620, 1670].getD i 0

/-- Whether a reading of a supply is one that warns (Table PWR-1). -/
def Power.warns (p : Power) (i mv : Nat) : Bool :=
  if i = 7 then decide (mv < 11000) || decide (13400 < mv) else decide (mv < p.warningMv i)

/-- The supply changed. -/
def Power.modSupply (p : Power) (i : Nat) (f : SupplyLog → SupplyLog) : Power := { p with supplies := vmod p.supplies i f }

/-- One SUPPLY crossing recorded: an entry, at most one a second for a supply; a crossing without an entry, for the limit or for want
of a log or of a place in its queue, counts as not logged (R44). In TRUST the entry waits for the log to open (log 16). -/
def State.logSupply (s : State) (i mv : Nat) : State :=
  let x := vget s.power.supplies i ⟨none, 0⟩
  let count := fun (u : State) => { u with power := u.power.modSupply i (fun x => { x with notLogged := x.notLogged + 1 }) }
  if x.lastMs.all (fun t => decide (t + 1000 ≤ s.power.ms)) then
    let u := s.logPart 0x06 ([BitVec.ofNat 8 i, if i = 7 ∧ 13400 < mv then 1 else 0] ++ beBytes 2 mv ++
      beBytes 4 x.notLogged.toNat)
    if s.logTakes then { u with power := u.power.modSupply i (fun _ => ⟨some s.power.ms, 0⟩) } else count u
  else count s

/-- SUPPLY_WARNING (R44): SUPPLY for every present tenant and an entry. In POR and STRAP there is no tenant and no log. -/
def State.supplyWarning (s : State) (i mv ns : Nat) : State :=
  if 10000 ≤ ns ∧ s.power.warns i mv = true ∧ s.power.state ≠ .por ∧ s.power.state ≠ .strap then
    (s.raiseAll 30).logSupply i mv
  else s

/-- VEXC_OVERVOLTAGE (R46). -/
def State.vexcOvervoltage (s : State) (mv : Nat) : State :=
  if 13400 < mv then ({ s with power := { s.power with vexcOff := true } }).allExcOff else s

/-- VEXC_RECONNECT (R46). -/
def State.vexcReconnect (s : State) (mv ms : Nat) : State :=
  if mv ≤ 13200 ∧ 100 ≤ ms then { s with power := { s.power with vexcOff := false } } else s

/-! ### Full reset -/

/-- Whether the TAP holds the part in POR: EXTEST, CLAMP or HIGHZ (R470). -/
def Tap.holds (t : Tap) : Bool := decide (t.ir = 0) || decide (t.ir = 4) || decide (t.ir = 5)

/-- POR with every island in its reset state; NV memory, OTP and the TAP stay, and the wedge note where the supplies stood
(R56, R57, R58, R436). A power-up from POWER_OFF, which State.reset begins with the supply cause, records 0x03 where RESET_N was
recognised low in the same POR: R58 gives 0x01 for the one and 0x03 for both causes (DEDUCED, log 45). -/
def State.fullReset (s : State) (supply pin : Bool) (cut : CommitCut) : State :=
  let again := decide (s.power.state = .por)
  { State.reset with
    power := Power.por (supply || again && s.power.causeSupply) (pin || again && s.power.causePin)
    faults := Faults.init (if supply then none else s.faults.note)
    wb := Weighbridge.closed (s.cutCommit cut)
    otp := s.otp, tap := { s.tap with blocked := s.tap.holds }, drawn := s.drawn, freeIdx := s.freeIdx, pending := s.pending }

/-- SUPPLY_RESET: a required supply below its falling threshold for 2 µs (R43). -/
def State.supplyReset (s : State) (i mv ns : Nat) (cut : CommitCut) : State :=
  if i < 7 ∧ mv < fallingMv i ∧ 2000 ≤ ns then s.fullReset true false cut else s

/-- RESET_N_LOW: RESET_N low, or in its band, for the time of Table PWR-5 (R54, R55). -/
def State.resetNLow (s : State) (pin : PinInput) (ns : Nat) (cut : CommitCut) : State :=
  if pin.level = .high then s
  else
    let r := s.recognise ns 500 2000
    if r.1 then r.2.fullReset false true cut else r.2

/-- A tenant at the end of POR: held in tenant reset where TRST_N_x is low or in its band (R55). -/
def Tenant.atPorExit (x : Tenant) (level : PinLevel) : Tenant :=
  if level = .high then x else { x with held := true, trstLow := decide (level = .low), lowFrame := 0, holdDue := some 0 }

/-- POR_EXIT: 1.0 ms with every required supply above its rising threshold and RESET_N high, and, where EXTEST, CLAMP or HIGHZ held
the part in this POR, 1.0 ms since another instruction is in force; the strap trims are read, the banks take their range and the
strap sources are driven (R19, R20, R42, R45, R470). The levels refer to VDD_IO_A as read. -/
def State.porExit (s : State) (mv : Vector Nat 8) (resetN : Option Nat) (heldUs tapUs : Nat) (trstN : Vector (Option Nat) 4) :
    State :=
  let up := (List.range 7).all (fun i => decide (risingMv i < vget mv i 0))
  let level := inputLevel (vget mv 2 0)
  if s.power.state = .por ∧ up = true ∧ level resetN = .high ∧ 1000 ≤ heldUs ∧ s.tap.holds = false ∧
      (s.tap.blocked = false ∨ 1000 ≤ tapUs) then
    { s with
      power := { s.power with state := .strap, bankA33 := decide (2500 ≤ vget mv 2 0), bankB33 := decide (2500 ≤ vget mv 3 0) }
      straps := { s.straps with sourcesOn := true, trims := Vector.ofFn (fun (p : Fin 8) => Config.strapTrim p.val) }
      tap := { s.tap with blocked := false }
      tenants := s.tenants.mapIdx (fun i x => x.atPorExit (level (vget trstN i none))) }
  else s

/-! ### FAULT_N -/

/-- The patterns of Table PWR-3 that alternate. -/
inductive FaultPattern where
  | burst (index : Nat)
  | blink (low high : Nat)
  deriving DecidableEq, Repr

/-- Whether a bench is FENCED or a shared island wedged. -/
def State.unitFault (s : State) : Bool :=
  s.benches.toList.any (fun b => decide (b.state = .fenced)) || s.faults.wedged.toList.any id

/-- The pattern of the present condition (Table PWR-3, R35). -/
def State.faultPattern (s : State) : Option FaultPattern :=
  match s.power.state with
  | .heldStrap => some (.burst (((blamed s.straps.faults).map (·.pin)).getD 15))
  | .heldClock => some (.blink 250 250)
  | .heldThermal => some (.blink 1000 1000)
  | .awaitImage => if s.unitFault then some (.blink 100 900) else none
  | .operating => if s.unitFault then some (.blink 100 900) else none
  | _ => none

/-- The time in ms, from the start of a pattern, of its k-th level change; the pattern starts low (R35, Table PWR-3). -/
def FaultPattern.edgeMs (p : FaultPattern) (k : Nat) : Nat :=
  match p with
  | .burst i => k / (2 * (i + 1)) * 2000 + k % (2 * (i + 1)) * 50
  | .blink low high => k / 2 * (low + high) + k % 2 * low

/-- A pattern begins: low. -/
def Power.startPattern (p : Power) : Power := { p with faultLow := true, faultEdge := 0 }

/-- FAULT_N released. -/
def Power.release (p : Power) : Power := { p with faultLow := false, faultEdge := 0 }

/-- FAULT_N where AWAIT_IMAGE begins: released, or the pattern of a unit that is wedged already (R51). -/
def State.faultAtLock (s : State) : Power := if s.unitFault then s.power.startPattern else s.power.release

/-- The pattern of a first FENCED bench or wedged island begins; it runs on at a later one. -/
def State.startUnitFault (s : State) : State :=
  if s.running = true ∧ s.unitFault = false then { s with power := s.power.startPattern } else s

/-- FAULT_N_PATTERN: the level changes at the next edge of the pattern (R51). -/
def State.faultNPattern (s : State) : State :=
  match s.faultPattern with
  | none => s
  | some _ => { s with power := { s.power with faultLow := !s.power.faultLow, faultEdge := s.power.faultEdge + 1 } }

/-! ### Temperature -/

/-- Everything that HELD_THERMAL stops (R71): audio ports and their clocks, the ring links, excitation, the PLL. The benches
stop because the part no longer runs. What the pins then drive stands in Pins.lean. -/
def State.heldThermal (s : State) : State :=
  let u := s.stopAudio.removeExcitation
  { u with
    power := { u.power.startPattern with state := .heldThermal }
    clock := { u.clock with locked := false, holdover := false, stepped := .none }
    ring := { u.ring with
      locked := false, laneUp := false, laneDown := false, severedUp := false, severedDown := false, sent := none } }

/-- The reading taken into the temperature record. -/
def Power.takeReading (p : Power) (celsius : Int) : Power :=
  { p with
    previous := p.reading, reading := celsius, ms := p.ms + 1
    hotRun := if 130 ≤ celsius then p.hotRun + 1 else 0
    thermalArmed := p.thermalArmed || decide (celsius ≤ 115) }

/-- A reading of a THERMAL_HOLD entry: the plain byte, or below zero the two's complement one; the byte of a reading that fits neither
is open (Table WBR-5, log 17). -/
def holdByte (c : Int) : Byte := if -128 ≤ c ∧ c ≤ 255 then BitVec.ofInt 8 c else Config.hotByte c

/-- The THERMAL_HOLD payload: two readings in °C (Table WBR-5). -/
def holdPayload (a b : Int) : List Byte := [holdByte a, holdByte b]

/-- THERMAL raised at 120 °C or above, once until 115 °C or below (R70). -/
def State.raiseThermal (s : State) (celsius : Int) : State :=
  if 120 ≤ celsius ∧ s.power.thermalArmed = true then
    let u := { s with power := { s.power with thermalArmed := false, thermalRaises := s.power.thermalRaises + 1 } }
    (u.raiseAll 29).logPart 0x07 (celsiusByte celsius :: beBytes 4 u.power.thermalRaises.toNat)
  else s

/-- The states from which two readings of 130 °C lead to HELD_THERMAL: those after TRUST but for the held ones, which R33 and the exits
of Table PWR-2 leave only on a full reset; where R71 and the table differ, the table binds (R48, the edges of spec/00_scope.md;
DEDUCED, log 46). -/
def PartState.heats (p : PartState) : Bool :=
  match p with
  | .clock => true
  | .awaitImage => true
  | .operating => true
  | _ => false

/-- THERMAL_READING (R70, R71). -/
def State.thermalReading (s : State) (celsius : Int) : State :=
  if s.power.state = .por ∨ s.power.state = .strap then s
  else
    let u := ({ s with power := s.power.takeReading celsius }).raiseThermal celsius
    if 2 ≤ u.power.hotRun ∧ u.power.state.heats = true then
      (u.logPart 0x08 (holdPayload u.power.previous u.power.reading)).heldThermal
    else u

/-! ### The opening of the log -/

/-- The NV memory with every slot in WRITING erased, and whether there was one (R413). R413 says nothing of a slot left VALID whose
counter-block update was cut: it stays VALID, so it counts as present and unexported, and overwriting it as an eviction, though its
sequence is used again (DESIGN CHOICE, log 73). -/
def Nv.eraseWriting (n : Nv) : Bool × Nv :=
  (n.slots.any (fun p => decide (p.2.status = .writing)),
    { n with slots := n.slots.filter (fun p => decide (p.2.status ≠ .writing)) })

/-- The bytes that a head slot returns and the cause of Table WBR-5 where its check fails, 0 for none (R413, R414). A region
without entries has no head to check. -/
def Nv.checkHead (n : Nv) (r : Region) (read : HeadRead) : Nat × List Byte :=
  match (n.region r).head with
  | none => (0, [])
  | some i =>
    let l := n.slot i
    if l.status ≠ .valid then (3, zeroBytes 64)
    else
      match read with
      | .uncorrectable bytes => (2, bytes.toList)
      | .altered bytes => (if sha256 bytes.toList = (n.region r).hash then 0 else 1, bytes.toList)
      | .stored => (if sha256 l.bytes = (n.region r).hash then 0 else 1, l.bytes)

/-- The bytes that the next entry links to, where the check failed (R414). -/
def breakBytes (c : Nat × List Byte) : Option (List Byte) := if c.1 = 0 then none else some c.2

/-- A CHAIN_BREAK payload (Table WBR-5) from the counter block at open. -/
def chainBreak (n : Nv) (r : Region) (cause : Nat) : List Byte :=
  [match r with | .prot => 0#8 | .gen => 1#8, BitVec.ofNat 8 cause] ++ beBytes 2 (((n.region r).head).getD 0) ++
    beBytes 4 (n.region r).newest.seq.toNat ++ (n.region r).hash.take 16

/-- The counter block in force, and the pairs and slots that the first entries take (R413). -/
def State.openLog (s : State) (n : Nv) (p g : Nat × List Byte) : State :=
  let n := n.update { n.block with powerCycle := satInc32 n.powerCycle }
  { s with wb := { Weighbridge.closed n with
    opened := true, planned := n.next, protNext := n.nextSlot .prot, genNext := n.nextSlot .gen
    breakProt := breakBytes p, breakGen := breakBytes g } }

/-- Entries written directly where a condition holds. -/
def State.logIf (s : State) (c : Bool) (kind : Byte) (payload : List Byte) : State :=
  if c then s.logDirect kind payload else s

/-- Which items of two snapshot records differ: CODE_A to CODE_H bits 0 to 7, DEVEL 8, PROV_N 9 (Table STR-11). -/
def changedMap (old new : List Byte) : Nat :=
  let code := fun (l : List Byte) (i : Nat) =>
    let b := (l.getD (i / 2) 0).toNat
    if i % 2 = 0 then b / 16 else b % 16
  let flag := fun (l : List Byte) (i : Nat) => (l.getD 4 0).getLsbD i
  (List.range 8).foldl (fun m i => if code old i = code new i then m else m + 2 ^ i) 0 +
    (if flag old 7 = flag new 7 then 0 else 256) + (if flag old 6 = flag new 6 then 0 else 512)

/-- The STRAP_CHANGE payload (Table STR-11). -/
def strapChange (r : StrapReference) (new : List Byte) : List Byte :=
  padTo 0 5 r.bytes ++ new.take 5 ++ beBytes 4 r.powerCycle.toNat ++ beBytes 2 (changedMap r.bytes new) ++
    beBytes 4 r.seq.toNat

/-- The reference replaced by a record that shows no fault (R39). `seq` is the sequence of its STRAP_SNAPSHOT entry. -/
def State.takeReference (s : State) (seq : Word) : State :=
  if s.straps.faults.isEmpty then
    { s with wb := { s.wb with nv := s.wb.nv.update { s.wb.nv.block with
      reference := some { bytes := s.straps.snapshot.take 5, powerCycle := s.wb.nv.powerCycle, seq := seq } } } }
  else s

/-- The WEDGE payload written from the wedge note (Table FLT-5). -/
def WedgeNote.payload (n : WedgeNote) : List Byte :=
  [0x09, BitVec.ofNat 8 (128 + n.watchdog)] ++ beBytes 8 n.frame ++ beBytes 4 n.powerCycle.toNat ++
    [BitVec.ofNat 8 ((if n.otherWedged then 1 else 0) + (if n.benchFenced then 2 else 0))]

/-- The wedge note committed and cleared (R436). -/
def State.commitNote (s : State) : State :=
  match s.faults.note with
  | none => s
  | some n =>
    let u := s.logDirect 0x10 n.payload
    { u with faults := { u.faults with note := none } }

/-- The reset cause of R58. -/
def Power.cause (p : Power) : Nat := (if p.causeSupply then 1 else 0) + (if p.causePin then 2 else 0)

/-- The RESET payload (Table WBR-5); `at_` is the counter block at open. -/
def State.resetPayload (s : State) (at_ : Nv) (broken discarded : Bool) : List Byte :=
  [BitVec.ofNat 8 s.power.cause, BitVec.ofNat 8 ((if broken then 2 else 0) + (if discarded then 1 else 0))] ++
    beBytes 4 (satInc32 at_.powerCycle).toNat ++ [0xb0, 0] ++ beBytes 4 at_.next.seq.toNat ++ beBytes 4 at_.lost.toNat

/-- The entries of the power-up after RESET and STRAP_SNAPSHOT, in the order of R413, R415 and R436. -/
def State.powerUpRest (s : State) (at_ : Nv) (p g : Nat × List Byte) : State :=
  let seq := s.wb.nv.prot.newest.seq
  let a := match at_.reference with
    | none => s
    | some r => s.logIf (decide (changedMap r.bytes s.straps.snapshot ≠ 0)) 0x03 (strapChange r s.straps.snapshot)
  let b := (a.takeReference seq).logIf (decide (p.1 ≠ 0)) 0x05 (chainBreak at_ .prot p.1)
  let c := b.logIf (decide (g.1 ≠ 0)) 0x05 (chainBreak at_ .gen g.1)
  let d := c.logIf c.straps.devel 0x04 (beBytes 4 c.wb.nv.powerCycle.toNat)
  let e := d.logIf (!d.straps.provN && d.otp.locked) 0x1a (beBytes 4 d.wb.nv.powerCycle.toNat)
  e.commitNote

/-- The log opened and the power-up entries committed (R37 to R40, R413 to R415). -/
def State.powerUpLog (s : State) (w : TrustWork) : State :=
  let n := s.wb.nv.choose.eraseWriting
  let p := n.2.checkHead .prot w.protectedHead
  let g := n.2.checkHead .gen w.generalHead
  let u := (s.openLog n.2 p g).logDirect 0x01 (s.resetPayload n.2 (decide (p.1 ≠ 0) || decide (g.1 ≠ 0)) n.1)
  (u.logDirect 0x02 s.straps.snapshot).powerUpRest n.2 p g

/-- The plan word in force from CLOCK until an image gives its own: full, or economy as the CODE_B default names it
(Tables STR-4 and CLK-2). -/
def defaultPlan (economy : Bool) : Word := if economy then 0x1800 else 0

/-- CODE_B [0], the default plan (Table STR-4). -/
def State.strapEconomy (s : State) : Bool := (s.code 1).getLsbD 0

/-- The VCO frequency of the family in kHz. -/
def State.vcoKhz (s : State) : Nat := if s.family441 then 2709504 else 2949120

/-- The distance in kHz of a band's centre from a frequency. -/
def bandDistance (khz b : Nat) : Nat := (max khz (100 * Config.bandCentre b)) - (min khz (100 * Config.bandCentre b))

/-- The OTP default starting band: the nearest centre, the lower index of two equally near (R76). -/
def defaultBand (khz : Nat) : Nat :=
  (List.range 64).foldl (fun m b => if bandDistance khz b < bandDistance khz m then b else m) 0

/-- The active starting band and window (R76, R78). -/
def State.bandEntry (s : State) : BandEntry :=
  s.clock.override.getD { band := BitVec.ofNat 6 (defaultBand s.vcoKhz), lo := 250, hi := 550 }

/-- The exit of TRUST: HELD_THERMAL at 125 °C, with its entry, HELD_STRAP on a strap fault, else CLOCK (R50, R71). The entry names
the latest 1 ms reading and the one at the end of TRUST. In CLOCK the VCO starts in the starting band at 400 mV (R74). -/
def State.exitTrust (s : State) (temp : Int) : State :=
  if 125 ≤ temp then (s.logPart 0x08 (holdPayload (if s.power.ms = 0 then temp else s.power.reading) temp)).heldThermal
  else if s.straps.faults.isEmpty = false then { s with power := { s.power.startPattern with state := .heldStrap } }
  else
    { s with
      power := { s.power.release with state := .clock }
      clock := { s.clock with
        begun := true, plan := defaultPlan s.strapEconomy, vt := 400, band := s.bandEntry.band, seqBand := s.bandEntry.band } }

/-- TRUST_END (R49, R50): a failure leaves HELD_TRUST and writes nothing; else the log is opened and the part goes on. -/
def State.trustEnd (s : State) (w : TrustWork) : State :=
  if s.power.state = .trust then
    if (w.otpOk && w.shaOk && w.ecdsaOk && w.nvAnswers) = false then
      { s with power := { s.power with state := .heldTrust, faultLow := true } }
    else (s.wb.early.foldl (fun s e => s.logPart e.1 e.2) (s.powerUpLog w)).exitTrust w.temp
  else s

/-! ### The commands -/

/-- POR_EXIT (R42). -/
def execPorExit (mv : Vector Nat 8) (resetN : Option Nat) (heldUs tapUs : Nat) (trstN : Vector (Option Nat) 4) (s : State) : Out :=
  .next (s.porExit mv resetN heldUs tapUs trstN)

/-- SUPPLY_RESET (R43). -/
def execSupplyReset (supply : Fin 8) (mv ns : Nat) (cut : CommitCut) (s : State) : Out :=
  .next (s.supplyReset supply.val mv ns cut)

/-- SUPPLY_WARNING (R44). -/
def execSupplyWarning (supply : Fin 8) (mv ns : Nat) (s : State) : Out := .next (s.supplyWarning supply.val mv ns)

/-- RESET_N_LOW (R54). -/
def execResetNLow (pin : PinInput) (ns : Nat) (cut : CommitCut) (s : State) : Out := .next (s.resetNLow pin ns cut)

/-- TRUST_END (R50). -/
def execTrustEnd (w : TrustWork) (s : State) : Out := .next (s.trustEnd w)

/-- THERMAL_READING (R70). -/
def execThermalReading (celsius : Int) (s : State) : Out := .next (s.thermalReading celsius)

/-- VEXC_OVERVOLTAGE (R46). -/
def execVexcOvervoltage (mv : Nat) (s : State) : Out := .next (s.vexcOvervoltage mv)

/-- VEXC_RECONNECT (R46). -/
def execVexcReconnect (mv ms : Nat) (s : State) : Out := .next (s.vexcReconnect mv ms)

/-- FAULT_N_PATTERN (R51). -/
def execFaultNPattern (s : State) : Out := .next s.faultNPattern

end Sys2Proof.Machine
end

