-- ==== Sys2Proof/Machine/Clock.lean ====
section
/-! DEFINITION. Sys2Proof/Machine/Clock.lean: the reference, the lock sequence, holdover and re-lock (R73 to R85 of
spec/04_clock_plans.md). -/
namespace Sys2Proof

open Sys2Proof.Machine

/-! ### Bands -/

/-- VT as taken: exactly the limit to which the loop drove it (R79). -/
def LockAttempt.taken (a : LockAttempt) : Nat := match a.limit with | .none => a.vt | .lower => 50 | .upper => 750

/-- Whether VT lies outside a window (R79, R84). -/
def LockAttempt.outside (a : LockAttempt) (e : BandEntry) : Bool := decide (a.taken < e.lo) || decide (e.hi < a.taken)

/-- Whether an attempt succeeds (R79). -/
def LockAttempt.ok (a : LockAttempt) (e : BandEntry) : Bool :=
  a.reached && decide (e.lo ≤ a.taken) && decide (a.taken ≤ e.hi)

/-- The band after a failed attempt, none outside 0 to 63 (R80). -/
def LockAttempt.nextBand (a : LockAttempt) (e : BandEntry) (b : BitVec 6) : Option (BitVec 6) :=
  if e.hi < a.taken ∨ (a.reached = false ∧ a.limit = .upper) then
    if b = 63#6 then none else some (b + 1)
  else if b = 0#6 then none else some (b - 1)

end Sys2Proof

namespace Sys2Proof.Machine

/-- What one attempt of a sequence comes to: locked, another attempt, or the sequence failed (R80). -/
inductive SequenceStep where
  | locked
  | again (b : BitVec 6)
  | failed
  deriving DecidableEq, Repr

/-- The step of a sequence after an attempt in band `b`, `tried` bands before it. -/
def sequenceStep (e : BandEntry) (b : BitVec 6) (tried : Nat) (a : LockAttempt) : SequenceStep :=
  if a.ok e then .locked
  else if 3 ≤ tried then .failed
  else match a.nextBand e b with
    | none => .failed
    | some n => .again n

/-- What a whole sequence comes to: success, the bands tried, the last VT; none where the attempts are no whole sequence. -/
def runSequence (e : BandEntry) (b : BitVec 6) (tried : List (BitVec 6)) (l : List LockAttempt) :
    Option (Bool × List (BitVec 6) × Nat) :=
  match l with
  | [] => none
  | a :: rest =>
    match sequenceStep e b tried.length a with
    | .locked => if rest.isEmpty then some (true, tried ++ [b], a.taken) else none
    | .failed => if rest.isEmpty then some (false, tried ++ [b], a.taken) else none
    | .again n => runSequence e n (tried ++ [b]) rest

/-- Four band bytes, 0xFF unused. -/
def bandBytes (l : List (BitVec 6)) : List Byte := padTo 0xff 4 (l.map (fun (b : BitVec 6) => b.setWidth 8))

/-! ### CLOCK -/

/-- The link from which a member recovers its reference, of those that present valid characters: with ring lock that of its home
visit, else up before down (Table HRG-4). -/
def State.recoveredFrom (s : State) (up down : Bool) : Option RingLink :=
  if s.ring.locked then
    match s.homeLink with
    | .up => if up then some .up else none
    | .down => if down then some .down else none
  else if up then some .up
  else if down then some .down
  else none

/-- Whether the reference is there to be present: the recovered one needs a link with valid characters, and character alignment
through both windows (R74, R382). -/
def State.sourceHeld (s : State) (aligned up down : Bool) : Bool :=
  decide (s.refSource ≠ 2) || aligned && (s.recoveredFrom up down).isSome

/-- The reference link taken where the source is the recovered one (R382). -/
def State.takeRefLink (s : State) (up down : Bool) : State :=
  if s.refSource = 2 then { s with ring := { s.ring with refLink := s.recoveredFrom up down } } else s

/-- REFERENCE_PRESENT: two consecutive windows within 3 %, for a recovered reference on its link and with character alignment (R74,
R382). In CLOCK a lock sequence begins in the starting band; in holdover the reference is there for a re-lock. -/
def State.referencePresent (s : State) (ppm1 ppm2 : Int) (aligned up down : Bool) : State :=
  if ppm1.natAbs ≤ 30000 ∧ ppm2.natAbs ≤ 30000 ∧ s.sourceHeld aligned up down = true ∧ s.clock.present = false then
    let u := s.takeRefLink up down
    if s.power.state = .clock then
      { u with clock := { u.clock with present := true, seqBand := s.bandEntry.band, tried := [] } }
    else if s.running = true ∧ s.clock.holdover = true then { u with clock := { u.clock with present := true } }
    else s
  else s

/-- The deadline of a source in ms, none for the recovered reference (Table CLK-1, R75). -/
def refDeadline (source : Nat) : Option Nat := match source with | 0 => some 20 | 1 => some 20 | 3 => some 1000 | _ => none

/-- A clock fault: CLOCK_FAULT logged, HELD_CLOCK (R81). -/
def State.clockFault (s : State) (cause : Byte) (tried : List (BitVec 6)) (vt : Nat) : State :=
  let u := s.logPart 0x09 ([cause, BitVec.ofNat 8 s.refSource, BitVec.ofNat 8 tried.length] ++ bandBytes tried ++ beBytes 2 vt)
  { u with power := { u.power.startPattern with state := .heldClock } }

/-- REFERENCE_DEADLINE (R73, R81). -/
def State.referenceDeadline (s : State) (ms : Nat) : State :=
  if s.power.state = .clock ∧ s.clock.present = false ∧ (refDeadline s.refSource).any (fun d => decide (d ≤ ms)) = true then
    s.clockFault 1 [] 0xffff
  else s

/-- The first lock: AWAIT_IMAGE, strobes from here on, FAULT_N released unless a unit is at fault (Table PWR-2, R51). -/
def State.firstLock (s : State) (vt : Nat) : State :=
  { s with
    power := { s.faultAtLock with state := .awaitImage }
    clock := { s.clock with locked := true, band := s.clock.seqBand, vt := vt, tried := [] } }

/-- LOCK_ATTEMPT_END (R79, R80, R81). -/
def State.lockAttemptEnd (s : State) (a : LockAttempt) : State :=
  if s.power.state = .clock ∧ s.clock.present = true then
    let tried := s.clock.tried ++ [s.clock.seqBand]
    match sequenceStep s.bandEntry s.clock.seqBand s.clock.tried.length a with
    | .locked => s.firstLock a.taken
    | .failed => s.clockFault 2 tried a.taken
    | .again n => { s with clock := { s.clock with seqBand := n, tried := tried } }
  else s

/-! ### Holdover and re-lock -/

end Sys2Proof.Machine

namespace Sys2Proof

/-- The cause of a lock loss, 0 where none is declared (R82). -/
def LockLoss.cause (c : LockLoss) : Nat :=
  match c with
  | .phaseError ns count => if 20 < ns ∧ 4 ≤ count then 1 else 0
  | .missingEdges count => if 4 ≤ count then 2 else 0

end Sys2Proof

namespace Sys2Proof.Machine

/-- LOCK_LOST: holdover; in holdover already, missing edges alone lose the reference again, which lets a later one re-lock: the
frozen VCO's phase tells nothing of it (R82, R84, log 18). The VT frozen is the one read last, at the latest lock attempt or
re-lock: R82 names no read of VT at the loss of lock (DEDUCED, log 49). -/
def State.lockLost (s : State) (c : LockLoss) : State :=
  if s.running = false ∨ c.cause = 0 then s
  else if s.clock.holdover then
    if c.cause = 2 then { s with clock := { s.clock with present := false, inhibited := false } } else s
  else if s.clock.locked then
    let u := { s with clock := { s.clock with locked := false, holdover := true, present := false, inhibited := false } }
    u.logPart 0x0a ([u.clock.band.setWidth 8] ++ beBytes 2 u.clock.vt ++ [BitVec.ofNat 8 c.cause])
  else s

/-- The RELOCK payload (Table WBR-5). An unstepped re-lock counts its band as one tried, and a failed stepped one gives the VT of
its last attempt (DEDUCED, log 49). -/
def relockPayload (ok stepped : Bool) (gap : Half) (tried : List (BitVec 6)) (vt : Nat) (band : BitVec 6) : List Byte :=
  [BitVec.ofNat 8 ((if ok then 2 else 0) + (if stepped then 1 else 0))] ++ beBytes 2 gap.toNat ++
    [BitVec.ofNat 8 tried.length] ++ bandBytes tried ++ beBytes 2 vt ++ [band.setWidth 8]

/-- Whether a re-lock in the band in use can run (R83, R84). -/
def Clock.canRelock (c : Clock) : Bool := c.holdover && c.present && !c.inhibited && decide (c.stepped = .none)

/-- RELOCK: complete where lock is reached in the window; with VT outside it a stepped re-lock follows, whose entry is the only one
(R83, R84, R85, log 49). Without lock and with VT in the window it goes on (log 18). -/
def State.relock (s : State) (a : LockAttempt) : State :=
  if s.running = true ∧ s.clock.canRelock = true then
    if a.ok s.bandEntry then
      let u := { s with clock := { s.clock with locked := true, holdover := false, vt := a.taken } }
      u.logPart 0x0b (relockPayload true false 0 [u.clock.band] u.clock.vt u.clock.band)
    else if a.outside s.bandEntry then { s with clock := { s.clock with stepped := .afterNext } }
    else s
  else s

/-- STEPPED_RELOCK: in the gap, which lengthens the frame by `cycles` of VCO/8, a whole lock sequence runs from the starting band;
strobes resume in the new band, or in holdover in the old one (R84, R85). -/
def State.steppedRelock (s : State) (attempts : List LockAttempt) (gap : Half) (cycles : Nat) : State :=
  if s.running = true ∧ s.clock.stepped = .stopped then
    match runSequence s.bandEntry s.bandEntry.band [] attempts with
    | none => s
    | some (ok, tried, vt) =>
      let c := if ok then
          { s.clock with stepped := .none, locked := true, holdover := false, band := tried.getLastD 0, vt := vt }
        else { s.clock with stepped := .none, inhibited := true }
      let u := { s with clock := { c with added := c.added + cycles } }
      (u.logPart 0x0b (relockPayload ok true gap tried vt u.clock.band)).gapAudio
  else s

/-! ### The commands -/

/-- REFERENCE_PRESENT (R74). -/
def execReferencePresent (ppm1 ppm2 : Int) (aligned up down : Bool) (s : State) : Out :=
  .next (s.referencePresent ppm1 ppm2 aligned up down)

/-- REFERENCE_DEADLINE (R73). -/
def execReferenceDeadline (ms : Nat) (s : State) : Out := .next (s.referenceDeadline ms)

/-- LOCK_ATTEMPT_END (R79). -/
def execLockAttemptEnd (a : LockAttempt) (s : State) : Out := .next (s.lockAttemptEnd a)

/-- LOCK_LOST (R82). -/
def execLockLost (c : LockLoss) (s : State) : Out := .next (s.lockLost c)

/-- RELOCK (R83). -/
def execRelock (a : LockAttempt) (s : State) : Out := .next (s.relock a)

/-- STEPPED_RELOCK (R84). -/
def execSteppedRelock (attempts : List LockAttempt) (gap : Half) (cycles : Nat) (s : State) : Out :=
  .next (s.steppedRelock attempts gap cycles)

end Sys2Proof.Machine
end

