-- ==== Sys2Proof/Machine/Windows.lean ====
section
/-! DEFINITION. Sys2Proof/Machine/Windows.lean: windows, rights, and the two-point check (R135, R136 of
spec/06_program_images.md; R283 to R286 of spec/11_pit_windows.md; R391 of spec/15_haul_ring.md). -/
namespace Sys2Proof.Machine

/-- The read right of a rights field. -/
def rightRead : Nat := 0

/-- The write right of a rights field. -/
def rightWrite : Nat := 1

/-- The post-pointer right of a rights field. -/
def rightPost : Nat := 2

/-- Whether a rights word gives an endpoint a right: benches from bit 0 on, three bits each, the host at bit 24. -/
def wordRight (w : Word) (e bit : Nat) : Bool := w.getLsbD ((if e < 8 then 3 * e else 24) + bit)

/-- The tenant of an endpoint (R290). -/
def State.endpointTenant (s : State) (e : Nat) : Option TenantId :=
  if e < 8 then s.owner (benchOf e) else some (tenantOf (e - 8))

/-- The tenant of a window ID (Table IMG-5). -/
def windowOwner (w : Nat) : TenantId := tenantOf (w / 16)

/-- The declaration of a window in the active image of its owner. -/
def State.window (s : State) (w : Nat) : Option WindowDecl :=
  (s.tenant (windowOwner w)).image.bind (fun i => i.windows.find? (fun d => decide (d.id = w)))

/-- Whether the owner's grant and the tenant's accept both give an endpoint of tenant `t` a right (R136). -/
def State.sharedRight (s : State) (t : TenantId) (e w bit : Nat) : Bool :=
  match (s.tenant (windowOwner w)).image, (s.tenant t).image with
  | some o, some i =>
    o.grants.any (fun g => decide (g.id = w) && decide (g.tenant = t) && wordRight g.rights e bit) &&
      i.accepts.any (fun a => decide (a.id = w) && decide (a.tenant = windowOwner w) && wordRight a.rights e bit)
  | _, _ => false

/-- Whether an endpoint is one whose rights are all withdrawn: a FENCED bench (R285). -/
def State.rightless (s : State) (e : Nat) : Bool :=
  decide (e < 8) && decide ((s.bench (benchOf e)).state = .fenced)

/-- Whether an endpoint holds a right in a window (R283). A tenant under tenant reset holds none and grants none
(Table PWR-6). -/
def State.hasRight (s : State) (e w bit : Nat) : Bool :=
  match s.endpointTenant e, s.window w with
  | some t, some d =>
    !s.rightless e && !(s.tenant t).held && !(s.tenant (windowOwner w)).held &&
      (if t = windowOwner w then wordRight d.rights e bit else s.sharedRight t e w bit)
  | _, _ => false

/-- The check at acceptance of `count` words from an offset: WINDOW_DENIED, WINDOW_OVERRUN or OK, with the window (R122). -/
def State.checkWindow (s : State) (e w bit offset count : Nat) : Byte × WindowDecl :=
  match s.window w with
  | none => (0x05, ⟨w, 0, 0, 0⟩)
  | some d =>
    if s.hasRight e w bit = false then (0x05, d) else if d.length < offset + count then (0x06, d) else (0x00, d)

/-- The check at performance: the right is still held, and the window has the base and length it had at acceptance
(R286). -/
def State.stillPasses (s : State) (e w bit base length : Nat) : Bool :=
  s.hasRight e w bit && (s.window w).any (fun d => decide (d.base = base) && decide (d.length = length))

/-- Whether an INBOUND entry of the owner's active image names the window for a source part (R391). -/
def State.inboundNames (s : State) (w source : Nat) : Bool :=
  (s.tenant (windowOwner w)).image.any (fun i =>
    i.inbound.any (fun d => decide (d.id = w) && (d.any || decide (d.source = source))))

/-- The check at acceptance of a remote write (R391): EPOCH_REVOKED, WINDOW_DENIED, WINDOW_OVERRUN or OK. -/
def State.checkInbound (s : State) (w source offset : Nat) : Byte × WindowDecl :=
  let t := windowOwner w
  match s.window w with
  | none => (if (s.tenant t).held || s.installing t then 0x1a else 0x05, ⟨w, 0, 0, 0⟩)
  | some d =>
    if ((s.tenant t).held || s.installing t) = true then (0x1a, d)
    else if s.inboundNames w source = false then (0x05, d)
    else if d.length ≤ offset then (0x06, d) else (0x00, d)

/-- The check at performance of a remote write (R286, R392). -/
def State.inboundPasses (s : State) (w source base length : Nat) : Bool :=
  !(s.tenant (windowOwner w)).held && s.inboundNames w source &&
    (s.window w).any (fun d => decide (d.base = base) && decide (d.length = length))

end Sys2Proof.Machine
end

