-- ==== Sys2Proof/Machine/Mailbox.lean ====
section
/-! DEFINITION. Sys2Proof/Machine/Mailbox.lean: what the mailbox unit does with requests, absences and strobes (R290 to R303
of spec/12_mailboxes_results_events.md). -/
namespace Sys2Proof.Machine

/-- The ID of the channel from a sender to a receiver (R290). -/
def channelId (sender receiver : Nat) : Nat := sender * 16 + receiver

/-- Whether a channel exists: the active image declares it (R290). -/
def State.declaredChannel (s : State) (id : Nat) : Option Channel := (s.channel id).filter (·.declared)

/-- The window of a notice word (Table MBX-1). -/
def noticeWindow (n : Word) : Nat := n.toNat / 2 ^ 26

/-- The word offset of a notice word. -/
def noticeOffset (n : Word) : Nat := n.toNat / 2 ^ 8 % 2 ^ 18

/-- The length of a notice's run. -/
def noticeLength (n : Word) : Nat := n.toNat % 2 ^ 8 + 1

/-- The checks of Table MBX-2 in order. -/
def State.checkPost (s : State) (sender receiver : Nat) (notice : Word) : Byte :=
  match s.declaredChannel (channelId sender receiver) with
  | none => 0x0c
  | some c =>
    if s.endpointAbsent receiver then 0x09
    else
      let w := s.checkWindow sender (noticeWindow notice) rightPost (noticeOffset notice) (noticeLength notice)
      if w.1 ≠ 0 then w.1 else if c.full then 0x0a else 0x00

/-- A notice stored: FULL at once, VISIBLE later (R293 to R295). `waitFor` bounds the sender's earlier writes; `number` is the
posting's. -/
def Channel.post (c : Channel) (notice : Word) (waitFor number : Nat) : Channel :=
  { c with notice := notice, full := true, visible := false, taken := false, done := false, code := 0, timedOut := false,
           timer := 0, posting := number, waitFor := waitFor, ack := none }

/-- A POST judged and served: its code and what it changes (R292). -/
def State.postNotice (s : State) (sender receiver : Nat) (notice : Word) (waitFor : Nat) : Byte × State :=
  let code := s.checkPost sender receiver notice
  (code, if code = 0 then
      { s with posted := s.posted + 1 }.modChannel (channelId sender receiver) (fun c => c.post notice waitFor (s.posted + 1))
    else s)

/-- A WITHDRAW by the sender (Tables MBX-3 and MBX-4, R302). -/
def State.withdrawNotice (s : State) (sender receiver : Nat) : Byte × State :=
  match s.channel (channelId sender receiver) with
  | none => (0x0c, s)
  | some c =>
    if c.residual || !c.declared then (0x0c, s)
    else if c.full = false then (0x0b, s)
    else (0x00, s.modChannel (channelId sender receiver) Channel.empty)

/-- A channel after a TAKE of its visible notice (Tables MBX-3 and MBX-4, R302). -/
def Channel.take (c : Channel) : Channel :=
  if c.residual then c.empty
  else if c.explicit then { c with taken := true }
  else { c with full := false, visible := false, timer := 0 }

/-- The channels left once an undeclared one holds nothing (R302). -/
def State.pruneChannels (s : State) : State := { s with channels := s.channels.filter (fun c => c.declared || c.full) }

/-- A TAKE by the receiver: the notice, or none where the channel shows no notice (R294, R295). -/
def State.takeNotice (s : State) (sender receiver : Nat) : Option Word × State :=
  match s.channel (channelId sender receiver) with
  | none => (none, s)
  | some c =>
    if c.visible then (some c.notice, (s.modChannel (channelId sender receiver) Channel.take).pruneChannels) else (none, s)

/-- An acknowledgement by the receiver: its code and what it changes; DONE and the return code wait (R293, R295, R302). -/
def State.ackNotice (s : State) (sender receiver : Nat) (code : Half) (waitFor : Nat) : Byte × State :=
  match s.channel (channelId sender receiver) with
  | none => (0x0c, s)
  | some c =>
    if c.residual || !c.declared || !c.explicit then (0x0c, s)
    else if c.visible = false then (0x0b, s)
    else (0x00, s.modChannel (channelId sender receiver) (fun c =>
      { c with full := false, visible := false, taken := false, timer := 0, ack := some (code, waitFor) }))

/-- The bound that an endpoint's writes issued until now lie under: a bench position, or the next port frame (R293). -/
def State.writeBound (s : State) (e pos : Nat) : Nat :=
  if e < 8 then pos else (s.tenant (tenantOf (e - 8))).port.nextJob

/-- Whether every write of an endpoint under a bound has been performed or has failed (R293). A bench's positions never run back,
so a bound tells the same writes whatever has become of the bench. -/
def State.writesDone (s : State) (e bound : Nat) : Bool :=
  if e < 8 then !(s.bench (benchOf e)).writes.any (fun w => decide (w.pos < bound))
  else !(s.tenant (tenantOf (e - 8))).port.jobs.any (fun j => decide (j.kind = .write) && decide (j.id < bound))

/-- NOTICE_VISIBLE: VISIBLE set once the sender's earlier writes are done; the timer loads (R293, R298). -/
def State.noticeVisible (s : State) (id : Nat) : State :=
  match s.channel id with
  | none => s
  | some c =>
    if c.full = true ∧ c.visible = false ∧ s.writesDone c.sender c.waitFor = true then
      s.modChannel id (fun c => { c with visible := true, timer := if c.residual then 0 else c.timeout.toNat })
    else s

/-- ACK_VISIBLE: DONE and the return code set once the acknowledger's earlier writes are done (R293). -/
def State.ackVisible (s : State) (id : Nat) : State :=
  match s.channel id with
  | none => s
  | some c =>
    match c.ack with
    | none => s
    | some a =>
      if s.writesDone c.receiver a.2 then
        s.modChannel id (fun c => { c with done := true, code := a.1, ack := none })
      else s

/-- An event raised for a channel's tenant (R290). -/
def State.raiseChannel (s : State) (c : Channel) (bit : Nat) : State :=
  match s.endpointTenant c.sender with
  | some t => s.raise t bit
  | none => s

/-- MBX_TIMEOUT: a timer that has reached 0 while its notice is posted sets TIMEOUT, once (R298). -/
def State.mbxTimeout (s : State) (id : Nat) : State :=
  match s.channel id with
  | none => s
  | some c =>
    if c.full = true ∧ c.visible = true ∧ c.residual = false ∧ c.timeout ≠ 0 ∧ c.timer = 0 ∧ c.timedOut = false then
      (s.modChannel id (fun c => { c with timedOut := true })).raiseChannel c 7
    else s

/-- A channel's timer at a strobe (R298). -/
def Channel.tick (c : Channel) : Channel :=
  if c.full = true ∧ c.visible = true then { c with timer := c.timer - 1 } else c

/-- Whether a bench receives on a channel. -/
def Channel.isTo (c : Channel) (b : BenchId) : Bool := decide (c.receiver = b.val)

/-- The senders of the channels to a bench that hold a notice, as bits (Table FLT-5). -/
def State.fullSenders (s : State) (b : BenchId) : Nat :=
  s.channels.foldl (fun m c => if c.isTo b && c.full then m ||| 2 ^ c.sender else m) 0

/-- A bench becomes absent: every channel to it that holds a notice is emptied, and MBX_ABSENT is raised once if there was
one (R299). -/
def State.emptyTo (s : State) (b : BenchId) : State :=
  let any := s.channels.any (fun c => c.isTo b && c.full)
  let s := { s with channels := s.channels.map (fun c => if c.isTo b && c.full then c.empty else c) }
  if any then s.raiseOwner b 8 else s

/-- Whether a channel is a tenant's (R290). -/
def State.ownsChannel (s : State) (t : TenantId) (c : Channel) : Bool :=
  s.endpointTenant c.sender == some t || s.endpointTenant c.receiver == some t

/-- At the hold strobe of a tenant reset every channel of the tenant is emptied, without an event (R301). -/
def State.emptyTenant (s : State) (t : TenantId) : State :=
  ({ s with channels := s.channels.map (fun c => if s.ownsChannel t c then c.empty else c) }).pruneChannels

/-- At the release strobe after a tenant reset the tenant's channels start (R301). -/
def State.restartTenant (s : State) (t : TenantId) : State :=
  let decls := ((s.tenant t).image.map (·.channels)).getD []
  { s with channels := s.channels.filter (fun c => !s.ownsChannel t c) ++ decls.map ChannelDecl.start }

/-- At an activation strobe the tenant's channels start afresh, but a bench-to-host notice stays as a residual notice
(R291, R302). -/
def State.activateChannels (s : State) (t : TenantId) (decls : List ChannelDecl) : State :=
  let kept := (s.channels.filter (s.ownsChannel t)).filter (fun c => c.full && decide (8 ≤ c.receiver))
  let start := decls.map (fun d =>
    match kept.find? (fun c => decide (c.id = d.id)) with
    | some c => { d.start with notice := c.notice, full := true, visible := c.visible, residual := true,
                               posting := c.posting, waitFor := c.waitFor }
    | none => d.start)
  let rest := kept.filter (fun c => !decls.any (fun d => decide (d.id = c.id)))
  { s with channels := s.channels.filter (fun c => !s.ownsChannel t c) ++ start ++
      rest.map (fun c => { c with declared := false, residual := true, taken := false, done := false, code := 0,
                                  timedOut := false, timer := 0, ack := none }) }

/-- What QUERY writes: return code, ABSENT, TIMEOUT, DONE, FULL (R226). -/
def State.queryWord (s : State) (sender receiver : Nat) : Word × Bool :=
  match s.declaredChannel (channelId sender receiver) with
  | none => (0, false)
  | some c =>
    let bit := fun (b : Bool) (i : Nat) => if b then 1#32 <<< i else 0#32
    ((c.code.setWidth 32 <<< 16) ||| bit (s.endpointAbsent receiver) 3 ||| bit c.timedOut 2 ||| bit c.done 1 |||
      bit c.full 0, c.full)

/-- NOTICE_VISIBLE (R293). -/
def execNoticeVisible (channel : Byte) (s : State) : Out := .next (s.noticeVisible channel.toNat)

/-- ACK_VISIBLE (R293). -/
def execAckVisible (channel : Byte) (s : State) : Out := .next (s.ackVisible channel.toNat)

/-- MBX_TIMEOUT (R298). -/
def execMbxTimeout (channel : Byte) (s : State) : Out := .next (s.mbxTimeout channel.toNat)

end Sys2Proof.Machine
end

