-- ==== Sys2Proof/Machine/Pit.lean ====
section
/-! DEFINITION. Sys2Proof/Machine/Pit.lean: the pit: its words, its slot schedule, what each requester's access does, late
failures, and the completion with poison when it is wedged (spec/11_pit_windows.md, R117 to R119 of spec/05_tenant_port.md,
R392 of spec/15_haul_ring.md, Table FLT-3 of spec/17_faults_recovery.md). -/
namespace Sys2Proof.Machine

/-- The first pit word of the staging area (R264). -/
def stagingBase : Nat := 0xc0000

/-- What a written pit word stores: its data and its check bits (R264). -/
def pitCode (v : Word) : BitVec 39 := Config.checkBits v ++ v

/-- The data of a stored pit word. -/
def pitData (c : BitVec 39) : Word := c.extractLsb' 0 32

/-- A pit word as data: an unwritten word reads 0 (R265). -/
def State.pitWord (s : State) (a : Nat) : Word := ((Sparse.read none s.pit.mem a).map pitData).getD 0

/-- A full-word write performed: the word, its written bit, and a scrub of it cancelled (R265, R282). -/
def State.pitWrite (s : State) (a : Nat) (v : Word) : State :=
  { s with pit := { s.pit with
    mem := Sparse.write none s.pit.mem a (some (pitCode v))
    scrub := s.pit.scrub.filter (fun x => decide (x.1 ≠ a)) } }

/-- A corrected word put in the scrub queue of 8 (R282). -/
def State.pitScrub (s : State) (a : Nat) (v : Word) : State :=
  if s.pit.scrub.length < 8 then { s with pit := { s.pit with scrub := s.pit.scrub ++ [(a, v)] } } else s

/-- An event for a tenant, if there is one. -/
def State.raiseFor (s : State) (t : Option TenantId) (bit : Nat) : State :=
  match t with
  | some t => s.raise t bit
  | none => s

/-- One read performed for a requester of a tenant: its word, or none where it is uncorrectable (R281, Table PIT-4). -/
def State.pitRead (s : State) (a : Nat) (ecc : EccRead) (t : Option TenantId) : Option Word × State :=
  match (Sparse.read none s.pit.mem a).map pitData with
  | none => (some 0, s)
  | some v =>
    match ecc with
    | .clean => (some v, s)
    | .silent x => (some x, s)
    | .corrected => (some v, (s.raiseFor t 10).pitScrub a v)
    | .miscorrected x => (some x, (s.raiseFor t 10).pitScrub a x)
    | .uncorrectable => (none, s.raiseFor t 11)

/-! ### Late failures -/

/-- A failure-record entry of a bench, written at position `pos` of its pipeline (R181, Table BEN-7). -/
def Bench.recordAt (b : Bench) (pos : Nat) (code : Byte) (source addr frame : Nat) : Bench :=
  b.push pos (.failure (BitVec.ofNat 32 (code.toNat * 2 ^ 24 + source * 2 ^ 20 + addr)) (BitVec.ofNat 32 frame))

/-- A failure-record entry of a bench written now. -/
def Bench.recordNow (b : Bench) (code : Byte) (source addr frame : Nat) : Bench :=
  let w := BitVec.ofNat 32 (code.toNat * 2 ^ 24 + source * 2 ^ 20 + addr)
  { b with status := b.status.addFailure w (BitVec.ofNat 32 frame) }

/-- A bench PWR that fails at performance: its record and LATE_WRITE_FAIL, or a dropped failure (R288). -/
def State.failPwr (s : State) (b : BenchId) (q : BenchRequest) (code : Byte) : State :=
  if q.stale then
    match s.owner b with
    | some t => s.drop t 1
    | none => s
  else (s.modBench b (fun x => x.recordNow code 1 q.addr s.clock.frame)).raiseOwner b 12

/-- A word of an accepted host WRITE or LOAD that fails: LATE_WRITE_FAIL and the record of its frame's first failure, or a
dropped failure after a tenant reset (R119, R288). -/
def State.failHost (s : State) (t : TenantId) (j : PortJob) (code : Byte) : State :=
  if j.stale then s.drop t 2
  else
    let s := if j.code = 0 then
        s.modPort t (fun p => { p with lateCode := code, lateCount := satInc8 p.lateCount, lateSeq := j.seq })
      else s
    s.raise t 12

/-! ### Bench requests -/

/-- A PWR performed: its word written if the check passes, else its failure; one accepted before a tenant reset took effect
fails (R286, Table PWR-6). The code. -/
def State.performPwr (s : State) (b : BenchId) (q : BenchRequest) : Byte × State :=
  if q.revoked = false ∧ s.stillPasses b.val q.window rightWrite q.base q.length = true then (0, s.pitWrite (q.base + q.offset) q.data)
  else (0x1a, s.failPwr b q 0x1a)

/-- A tag of a bench filled (R220): data and valid bit, at once as STAT sees it. A bench that entered HELD meanwhile is served too
(R270, R276). -/
def Bench.fillTag (x : Bench) (q : BenchRequest) (v : Option Word) : Bench :=
  { x with
    tags := vmod x.tags q.tag (fun g => { g with data := v.getD 0, valid := v.isSome })
    tagSeen := setBit4 x.tagSeen q.tag v.isSome }

/-- Whether a queued write goes ahead of a read of the same bench to the same pit word (R275). -/
def BenchRequest.precedes (w q : BenchRequest) : Bool :=
  decide (w.base + w.offset = q.base + q.offset) && decide (w.pos < q.pos)

/-- Queued writes performed in order; the code of the latest. -/
def State.performAll (s : State) (b : BenchId) (qs : List BenchRequest) : Byte × State :=
  qs.foldl (fun x q => x.2.performPwr b q) (0, s)

/-- The oldest PRD of a bench served, with the earlier writes to its word (R274, R275, R286); one accepted before a tenant reset took
effect fails (Table PWR-6). -/
def State.servePrd (s : State) (b : BenchId) (q : BenchRequest) (rest : List BenchRequest) (ecc : EccRead) : State :=
  let ahead := (s.bench b).writes.filter (fun w => w.precedes q)
  let s := s.modBench b (fun x => { x with reads := rest, writes := x.writes.filter (fun w => !w.precedes q) })
  let w := s.performAll b ahead
  let s := w.2
  let ok := !q.revoked && s.stillPasses b.val q.window rightRead q.base q.length
  if ok = false ∨ w.1 ≠ 0 then (s.modBench b (fun x => x.fillTag q none)).raiseOwner b 9
  else if ahead.isEmpty then
    let r := s.pitRead (q.base + q.offset) ecc (s.owner b)
    r.2.modBench b (fun x => x.fillTag q r.1)
  else s.modBench b (fun x => x.fillTag q (some (s.pitWord (q.base + q.offset))))

/-- One access of a bench: its oldest PRD, else its oldest PWR (R274). -/
def State.serveBench (s : State) (b : BenchId) (ecc : EccRead) : State :=
  match (s.bench b).reads, (s.bench b).writes with
  | q :: rest, _ => s.servePrd b q rest ecc
  | [], q :: rest => ((s.modBench b (fun x => { x with writes := rest })).performPwr b q).2
  | [], [] => s

/-! ### Port frames -/

/-- The bits of a lane mask (R120). -/
def laneBits (m : BitVec 4) : Word :=
  (if m.getLsbD 3 then 0xff000000#32 else 0) ||| (if m.getLsbD 2 then 0x00ff0000#32 else 0) |||
    (if m.getLsbD 1 then 0x0000ff00#32 else 0) ||| (if m.getLsbD 0 then 0x000000ff#32 else 0)

/-- A frame whose words are all done: a READ's tag becomes READY, but not of one from before a tenant reset; the credit that a WRITE
or a LOAD holds returns (R115, R118, R141). -/
def Port.finish (p : Port) (j : PortJob) : Port :=
  match j.kind with
  | .read tag =>
    if j.stale then p
    else { p with tags := vmod p.tags tag (fun g => { g with state := .ready, data := j.got, code := j.code }) }
  | _ => if j.credit then { p with credits := min 8 (p.credits + 1) } else p

/-- The head frame of a port put back after one slot, or finished; a finished frame ends the spare grant (R272). -/
def State.putJob (s : State) (t : TenantId) (j : PortJob) : State :=
  let put := fun (js : List PortJob) => j :: js.drop 1
  if j.left.isEmpty then
    let s := s.modPort t (fun p => ({ p with jobs := p.jobs.drop 1 }).finish j)
    if s.pit.grant = some t then { s with pit := { s.pit with grant := none } } else s
  else s.modPort t (fun p => { p with jobs := put p.jobs })

/-- The word of a frame that was not performed: the next word comes next, and the first failure's code stays (R278, R287). -/
def PortJob.failWord (j : PortJob) (code : Byte) : PortJob :=
  { j with left := j.left.drop 1, offset := j.offset + 1, merge := none, got := j.got ++ [0],
           code := if j.code = 0 then code else j.code }

/-- The word of a frame that was performed. -/
def PortJob.doneWord (j : PortJob) (v : Word) : PortJob :=
  { j with left := j.left.drop 1, offset := j.offset + 1, merge := none, got := j.got ++ [v] }

/-- One access of a port: one slot of its oldest frame; a WRITE accepted before a tenant reset took effect fails (R117, R278,
R286, Table PWR-6). -/
def State.servePort (s : State) (t : TenantId) (ecc : EccRead) : State :=
  match (s.tenant t).port.jobs with
  | [] => s
  | j :: _ =>
    let e := 8 + t.val
    let a := j.base + j.offset
    match j.kind with
    | .read _ =>
      if s.stillPasses e j.window rightRead j.base j.length then
        let r := s.pitRead a ecc (some t)
        match r.1 with
        | some v => r.2.putJob t (j.doneWord (v &&& laneBits j.mask))
        | none => r.2.putJob t (j.failWord 0x1b)
      else s.putJob t (j.failWord 0x1a)
    | .load g =>
      let v := j.left.headD 0
      let s := if s.staging.generation = g then s.pitWrite a v else s
      s.putJob t (j.doneWord v)
    | .write =>
      if j.stale = false ∧ s.stillPasses e j.window rightWrite j.base j.length = true then
        let v := j.left.headD 0
        if j.mask = 0xf#4 then (s.pitWrite a v).putJob t (j.doneWord v)
        else
          match j.merge with
          | some m =>
            let v := (v &&& laneBits j.mask) ||| (m &&& ~~~laneBits j.mask)
            (s.pitWrite a v).putJob t (j.doneWord v)
          | none =>
            let r := s.pitRead a ecc (some t)
            match r.1 with
            | some m => r.2.putJob t { j with merge := some m }
            | none => (r.2.failHost t j 0x1b).putJob t (j.failWord 0x1b)
      else (s.failHost t j 0x1a).putJob t (j.failWord 0x1a)

/-! ### Ring inbound and the system requester -/

/-- A LATE_FAIL queued for a source, or a dropped failure when 16 wait (R392). -/
def State.queueLateFail (s : State) (w : LatchedWrite) (code : Byte) : State :=
  if s.ring.lateQ.length < 16 then
    { s with ring := { s.ring with
      lateQ := s.ring.lateQ ++ [{ tenant := windowOwner w.window, dest := w.source, bench := w.bench, tag := w.tag, code := code }] } }
  else s.drop (windowOwner w.window) 4

/-- The first full message latch, with its number from `i` on. -/
def firstLatch (i : Nat) (ls : List (Option LatchedWrite)) : Option (Nat × LatchedWrite) :=
  match ls with
  | [] => none
  | some w :: _ => some (i, w)
  | none :: rest => firstLatch (i + 1) rest

/-- One access of ring inbound: the first full latch (R392). -/
def State.serveRing (s : State) : State :=
  match firstLatch 0 s.ring.latches.toList with
  | none => s
  | some (i, w) =>
    let s := { s with ring := { s.ring with latches := vmod s.ring.latches i (fun _ => none) } }
    if s.inboundPasses w.window w.source w.base w.length then s.pitWrite (w.base + w.offset) w.data
    else s.queueLateFail w 0x1a

/-- The word of the staging area, and its bench, that the installer reads as its k-th (R280). -/
def installWord (bodies : List (Nat × Nat × BenchId)) (k : Nat) : Option (Nat × BenchId) :=
  match bodies with
  | [] => none
  | (at_, n, b) :: rest => if k < n then some (at_ + k, b) else installWord rest (k - n)

/-- A staged word as the verifier or the installer was given it; the word in the pit is as it was (R281). -/
def State.keepRead (s : State) (k : Nat) (v : Word) : Sparse (Option Word) :=
  Sparse.write none s.staging.misread k (if s.pitWord (stagingBase + k) = v then none else some v)

/-- The next staged word that the system requester reads for the verifier or the installer, with the bench whose record it
is for the installer. -/
def State.systemRead (s : State) : Option (Nat × Option BenchId) :=
  match s.staging.phase with
  | .verifying =>
    if s.staging.nextRead < s.staging.length ∧ s.staging.bad.isNone = true then some (s.staging.nextRead, none) else none
  | .installing =>
    s.staging.image.bind (fun i => (installWord i.bodies s.staging.nextRead).map (fun x => (x.1, some x.2)))
  | _ => none

/-- One access of the system requester: a read of the verifier or the installer, else a scrub write (R269, R282). -/
def State.serveSystem (s : State) (ecc : EccRead) : State :=
  match s.systemRead with
  | some (k, b) =>
    let r := s.pitRead (stagingBase + k) ecc s.staging.holder
    let st := { r.2.staging with nextRead := s.staging.nextRead + 1 }
    match r.1, b with
    | some v, _ => { r.2 with staging := { st with misread := s.keepRead k v } }
    | none, none => { r.2 with staging := { st with bad := some k } }
    | none, some b => { r.2 with staging := { st with spoiled := st.spoiled ||| (1#8 <<< b.val) } }
  | none =>
    match s.pit.scrub with
    | [] => s
    | x :: rest => ({ s with pit := { s.pit with scrub := rest } }).pitWrite x.1 x.2

/-! ### The slot schedule -/

/-- The owners of residues 0 to 7 of a bench pattern, 14 for spare (Table PIT-1). -/
def patternOwners (pattern : Nat) : List Nat :=
  match pattern with
  | 0 => [0, 1, 2, 3, 4, 5, 6, 7]
  | 1 => [0, 1, 2, 3, 4, 5, 0, 7]
  | 2 => [0, 1, 2, 3, 4, 5, 0, 1]
  | 3 => [0, 1, 2, 3, 4, 5, 6, 1]
  | 4 => [0, 1, 2, 3, 14, 14, 14, 14]
  | 5 => [0, 1, 2, 3, 14, 14, 0, 1]
  | 6 => [0, 1, 14, 14, 14, 14, 0, 1]
  | _ => [0, 14, 14, 14, 14, 14, 0, 14]

/-- The owners of residues 8 to 11, group by group: ports 8 to 11, ring inbound 12, system 13, spare 14 (Table PIT-2). -/
def fixedOwners (residue : Nat) : List Nat :=
  match residue with
  | 8 => [8, 9, 10, 11, 13]
  | 9 => [12, 13, 14, 12, 13]
  | 10 => [11, 14, 8, 9, 10]
  | _ => [14, 12, 13, 14, 12]

/-- The owner of a slot under a profile, 14 for spare (R268). -/
def slotOwner (profile slot : Nat) : Nat :=
  let p := slot % 60
  let r := p % 12
  if r < 8 then (patternOwners (profile % 8)).getD r 14
  else if 8 ≤ profile ∧ (p = 23 ∨ p = 59) then 14
  else (fixedOwners r).getD (p / 12) 14

/-- The number of slots of a bench in a frame (Table PIT-1). -/
def benchSlots (profile b : Nat) : Nat := 640 * ((patternOwners (profile % 8)).filter (· == b)).length

/-- Whether a requester has a request ready. -/
def State.ready (s : State) (r : Nat) : Bool :=
  if r < 8 then !(s.bench (benchOf r)).reads.isEmpty || !(s.bench (benchOf r)).writes.isEmpty
  else if r < 12 then !(s.tenant (tenantOf (r - 8))).port.jobs.isEmpty
  else if r = 12 then (firstLatch 0 s.ring.latches.toList).isSome
  else s.systemRead.isSome || !s.pit.scrub.isEmpty

/-- The priority of a requester in a spare-slot decision (R271). -/
def State.priority (s : State) (r : Nat) : Nat :=
  if r < 8 then (s.bench (benchOf r)).prio.toNat else if r < 12 then 4 else if r = 12 then 6 else 5

/-- The winner of a spare slot: the highest priority among the ready requesters, ties to the first at or after the pointer
(R271). -/
def State.spareWinner (s : State) : Option Nat :=
  let order := (List.range 14).map (fun i => (s.pit.pointer + i) % 14)
  let cand := order.filter s.ready
  let best := cand.foldl (fun m r => max m (s.priority r)) 0
  cand.find? (fun r => decide (s.priority r = best))

/-- One access of a requester. -/
def State.serve (s : State) (r : Nat) (ecc : EccRead) : State :=
  if r < 8 then s.serveBench (benchOf r) ecc
  else if r < 12 then s.servePort (tenantOf (r - 8)) ecc
  else if r = 12 then s.serveRing
  else s.serveSystem ecc

/-- A spare slot: the holder of the grant, else the winner; a port that wins with words left holds the grant
(R271, R272). -/
def State.serveSpare (s : State) (ecc : EccRead) : State × Bool :=
  match s.pit.grant with
  | some t => if s.ready (8 + t.val) then (s.serve (8 + t.val) ecc, true) else (s, false)
  | none =>
    match s.spareWinner with
    | none => (s, false)
    | some r =>
      let head := if 8 ≤ r ∧ r < 12 then (s.tenant (tenantOf (r - 8))).port.jobs.head?.map (·.id) else none
      let s := { s with pit := { s.pit with pointer := (r + 1) % 14 } }
      let s := s.serve r ecc
      let still := head.isSome && decide ((s.tenant (tenantOf (r - 8))).port.jobs.head?.map (·.id) = head)
      (if still then { s with pit := { s.pit with grant := some (tenantOf (r - 8)) } } else s, true)

/-- One slot of the frame: the owner if it has a request ready, else a spare decision (R267, R270). A slot already past, a
wedged pit, or a gap of a stepped re-lock performs nothing. -/
def State.pitSlot (s : State) (slot : Nat) (ecc : EccRead) : State :=
  if s.running = false ∨ s.isWedged 1 = true ∨ s.clock.stepped = .stopped ∨ slot < s.pit.nextSlot then s
  else
    let s := { s with pit := { s.pit with nextSlot := slot + 1 } }
    let o := slotOwner (s.code 5).toNat slot
    let r := if o < 14 ∧ s.ready o = true then (s.serve o ecc, true) else s.serveSpare ecc
    if r.2 then { r.1 with faults := { r.1.faults with pitServed := true } } else r.1

/-! ### The pit wedged (Table FLT-3) -/

/-- The requests of a bench completed with poison. -/
def State.poisonBench (s : State) (b : BenchId) : State :=
  let reads := (s.bench b).reads
  let writes := (s.bench b).writes
  let s := s.modBench b (fun x => reads.foldl (fun x q => x.fillTag q none) { x with reads := [], writes := [] })
  writes.foldl (fun s q => s.failPwr b q 0x1b) s

/-- The words of a frame that fail one after the other. -/
def State.failWords (s : State) (t : TenantId) (j : PortJob) (code : Byte) (ws : List Word) : State :=
  match ws with
  | [] => s
  | _ :: rest => State.failWords (s.failHost t j code) t (j.failWord code) code rest

/-- A READ frame completed with poison: its words left are 0 and its code ECC_FATAL. -/
def PortJob.poisonRead (j : PortJob) : PortJob :=
  { j with got := j.got ++ j.left.map (fun _ => 0#32), left := [], code := if j.code = 0 then 0x1b else j.code }

/-- A frame completed with poison: READ words 0 with ECC_FATAL, WRITE and LOAD words late failures. The words of a discarded
load are dropped (R141). -/
def State.poisonJob (s : State) (t : TenantId) (j : PortJob) : State :=
  match j.kind with
  | .read _ => s.modPort t (fun p => p.finish j.poisonRead)
  | .load g =>
    let fails := if s.staging.generation = g then j.left else []
    (s.failWords t j 0x1b fails).modPort t (fun p => p.finish j)
  | .write => (s.failWords t j 0x1b j.left).modPort t (fun p => p.finish j)

/-- The frames of a port completed with poison. -/
def State.poisonPort (s : State) (t : TenantId) : State :=
  let jobs := (s.tenant t).port.jobs
  jobs.foldl (fun s j => s.poisonJob t j) (s.modPort t (fun p => { p with jobs := [] }))

/-- Every latched remote write completed with poison (R392). -/
def State.poisonRing (s : State) : State :=
  let ws := s.ring.latches.toList.filterMap id
  ws.foldl (fun s w => s.queueLateFail w 0x1b)
    { s with ring := { s.ring with latches := Vector.replicate 8 none } }

/-- The system requester's accesses not yet performed: the verifier's next read, or the installer's reads left, and the scrubs. -/
def State.systemOutstanding (s : State) : Nat :=
  let reads := match s.staging.phase with
    | .verifying => if s.systemRead.isSome then 1 else 0
    | .installing =>
      ((s.staging.image.map (fun i => i.bodies.foldl (fun n b => n + b.2.1) 0)).getD 0) - s.staging.nextRead
    | _ => 0
  reads + s.pit.scrub.length

/-- The accesses not yet performed (WEDGE bytes 15 to 18, Table FLT-5). -/
def State.pitOutstanding (s : State) : Nat :=
  s.systemOutstanding + (s.benches.toList.foldl (fun n b => n + b.reads.length + b.writes.length) 0) +
    (s.tenants.toList.foldl (fun n t => t.port.jobs.foldl (fun n j => n + j.left.length) n) 0) +
    (s.ring.latches.toList.filterMap id).length

/-- The benches whose records the installer has not read to their end after `k` words. -/
def unread (bodies : List (Nat × Nat × BenchId)) (k : Nat) : Byte :=
  match bodies with
  | [] => 0
  | (_, n, b) :: rest => (if k < n then 1#8 <<< b.val else 0) ||| unread rest (k - n)

/-- The reads of the verifier and of the installer that are left completed with poison; no scrub and no grant is left. -/
def State.poisonSystem (s : State) : State :=
  let bad := if s.staging.phase = .verifying ∧ s.staging.bad = none ∧ s.staging.nextRead < s.staging.length then some s.staging.nextRead else s.staging.bad
  let bodies := if s.staging.phase = .installing then (s.staging.image.map (·.bodies)).getD [] else []
  { s with
    pit := { s.pit with grant := none, scrub := [] }
    staging := { s.staging with bad := bad, spoiled := s.staging.spoiled ||| unread bodies s.staging.nextRead } }

/-- Every access not yet performed is completed with poison, and PIT_ECC_FATAL is raised for every present tenant
(Table FLT-3). -/
def State.poisonPit (s : State) : State :=
  ((List.finRange 4).foldl State.poisonPort ((List.finRange 8).foldl State.poisonBench s)).poisonRing.poisonSystem.raiseAll 11

/-- PIT_ACCESS: one slot of the schedule (R270). -/
def execPitAccess (slot : Fin 7680) (ecc : EccRead) (s : State) : Out := .next (s.pitSlot slot.val ecc)

end Sys2Proof.Machine
end

