-- ==== Sys2Proof/Machine/Ring.lean ====
section
/-! DEFINITION. Sys2Proof/Machine/Ring.lean: the haul ring (R370 to R404, R478 of spec/15_haul_ring.md). A home visit stands for
what passes a part's home visit from one of its strobes to the next: the header, the message slots and the positions below β of
the lap whose strobe comes next, and the positions from β on of the lap whose strobe began the frame (R378, R389). -/
namespace Sys2Proof.Machine

/-- The ring changed. -/
def State.modRing (s : State) (f : Ring → Ring) : State := { s with ring := f s.ring }

/-- Whether the part takes part in a ring: it runs, it is a master or a member, its transceiver is not wedged (R372,
Table FLT-3). -/
def State.ringLive (s : State) : Bool := s.running && (s.isMaster || s.isMember) && !s.isWedged 2

/-- The rotation limit of 0.75 frame in ns (R375). -/
def State.rotationLimit (s : State) : Nat := if s.family441 then 17007 else 15625

/-- A ring event that is raised at the next strobe (R403). -/
def State.ringEvent (s : State) (bit : Nat) : State := s.modRing (fun r => { r with events := r.events ||| (1#32 <<< bit) })

/-- The ring events that wait, raised for every present tenant at the strobe (R403). -/
def State.raiseRing (s : State) : State :=
  (List.range 32).foldl (fun u i => if s.ring.events.getLsbD i then u.raiseAll i else u) (s.modRing (fun r => { r with events := 0 }))

/-- A ring entry: at most one of each kind a second; those not written are counted in the next one (R404, R411). -/
def State.ringLog (s : State) (k : Nat) (kind : Byte) (payload : Word → List Byte) : State :=
  let x := vget s.ring.logs k ⟨none, 0⟩
  let count := fun (u : State) =>
    u.modRing (fun r => { r with logs := vmod r.logs k (fun y => { y with notLogged := y.notLogged + 1 }) })
  if x.last.all (fun f => decide (f + s.ff ≤ s.clock.frame)) then
    let u := s.logPart kind (payload x.notLogged)
    if s.logTakes then u.modRing (fun r => { r with logs := vmod r.logs k (fun _ => ⟨some s.clock.frame, 0⟩) }) else count u
  else count s

/-! ### Characters -/

/-- The word of a position of four data characters (R370). -/
def posWord (p : Vector RingChar 4) : Option Word :=
  match p[0], p[1], p[2], p[3] with
  | .data a, .data b, .data c, .data d => some (a ++ b ++ c ++ d)
  | _, _, _, _ => none

/-- The word of position 0: the lap marker K28.5, and three data characters (Table HRG-2). -/
def markWord (p : Vector RingChar 4) : Option Word :=
  match p[0], p[1], p[2], p[3] with
  | .k28_5, .data b, .data c, .data d => some (0xbc#8 ++ b ++ c ++ d)
  | _, _, _, _ => none

/-- A position that carries an absent cell (Table HRG-1). -/
def absentPos : Vector RingChar 4 := Vector.replicate 4 .k28_0

/-- A position of characters that are no code. -/
def badPos : Vector RingChar 4 := Vector.replicate 4 .bad

/-- A stream position as it arrives: any character but data in it, four K28.0 apart, is an error (R371, R388). -/
def cellOf (p : Vector RingChar 4) : CellArrival :=
  match posWord p with
  | some w => .value w
  | none => if p = absentPos then .absent else .error

/-- The four characters of a word, most significant byte first (R370). -/
def wordChars (w : Word) : Vector RingChar 4 :=
  #v[.data (w.extractLsb' 24 8), .data (w.extractLsb' 16 8), .data (w.extractLsb' 8 8), .data (w.extractLsb' 0 8)]

end Sys2Proof.Machine

namespace Sys2Proof

open Sys2Proof.Machine

/-- A slot that carries no message. -/
def MessageSlot.freed : MessageSlot := { clean := true, w0 := 0, w1 := 0, w2 := 0, w3 := 0 }

/-- The word of a slot at position `k` of its four. -/
def MessageSlot.word (m : MessageSlot) (k : Nat) : Word :=
  match k with | 0 => m.w0 | 1 => m.w1 | 2 => m.w2 | _ => m.w3

/-- The characters of position `i` of a lap; what arrived with an error goes on with one (DESIGN CHOICE, log 58). -/
def Lap.position (l : Lap) (i : Nat) : Vector RingChar 4 :=
  if i < 4 then
    if l.clean = false then badPos
    else match i with
      | 0 => (wordChars l.h0).set 0 .k28_5
      | 1 => wordChars l.h1
      | 2 => wordChars l.h2
      | _ => wordChars l.h3
  else if i < 36 then
    let m := vget l.slots ((i - 4) / 4) MessageSlot.freed
    if m.clean then wordChars (m.word ((i - 4) % 4)) else badPos
  else match vget l.cells (i - 36) .error with
    | .value w => wordChars w
    | .absent => absentPos
    | .error => badPos

/-- The characters of a lap (R370). -/
def Lap.encode (l : Lap) : LapChars := Vector.ofFn (fun (i : Fin 128) => l.position i.val)

end Sys2Proof

namespace Sys2Proof.Machine

/-- A position of a lap. -/
def lapPos (c : LapChars) (i : Nat) : Vector RingChar 4 := vget c i badPos

/-- A message slot of a lap: clean where its 16 characters are data (Table HRG-6, R371). -/
def slotOf (c : LapChars) (i : Nat) : MessageSlot :=
  let w := fun (k : Nat) => posWord (lapPos c (4 + 4 * i + k))
  { clean := (List.range 4).all (fun k => (w k).isSome), w0 := (w 0).getD 0, w1 := (w 1).getD 0, w2 := (w 2).getD 0
    w3 := (w 3).getD 0 }

/-- A lap as its characters spell it (R371, R374, Tables HRG-1 and HRG-2). -/
def decodeLap (c : LapChars) : Lap :=
  let m := markWord (lapPos c 0)
  let w := fun (k : Nat) => posWord (lapPos c k)
  { clean := m.isSome && (w 1).isSome && (w 2).isSome && (w 3).isSome
    h0 := m.getD 0, h1 := (w 1).getD 0, h2 := (w 2).getD 0, h3 := (w 3).getD 0
    slots := Vector.ofFn (fun (i : Fin 8) => slotOf c i.val)
    cells := Vector.ofFn (fun (i : Fin 92) => cellOf (lapPos c (36 + i.val))) }

/-! ### Roll-call entries -/

/-- The ring ID of a table entry (R383). -/
def entryId (w : Word) : Nat := (w.extractLsb' 24 6).toNat

/-- The cell count of a table entry. -/
def entryCells (w : Word) : Nat := 2 ^ (w.extractLsb' 22 2).toNat

/-- The listen-only bit of a table entry. -/
def entryListens (w : Word) : Bool := w.getLsbD 21

/-- The physical base of an assignment entry. -/
def entryBase (w : Word) : Nat := (w.extractLsb' 0 7).toNat

/-- β of an assignment entry. -/
def entryBeta (w : Word) : Nat := (w.extractLsb' 7 7).toNat

/-- The first logical cell of an entry (Table STR-6). -/
def entryFirst (w : Word) : Nat := 36 + entryId w * entryCells w

/-- The part's own collection entry (R383). -/
def State.ownEntry (s : State) : Word :=
  let c := (s.code 2).toNat
  BitVec.ofNat 32 (2 ^ 31 + (if s.isMaster then 2 ^ 30 else 0) + s.ringId * 2 ^ 24 + (s.code 4).toNat / 4 * 2 ^ 22 +
    (if c = 7 then 2 ^ 21 else 0) + (if s.foldEnabled then 2 ^ 20 else 0) +
    (if c = 2 ∨ c = 3 ∨ c = 5 ∨ c = 6 then 2 ^ 19 else 0))

/-- Whether two entries share a logical cell. -/
def entriesOverlap (a b : Word) : Bool :=
  decide (entryFirst a < entryFirst b + entryCells b) && decide (entryFirst b < entryFirst a + entryCells a)

/-- The table with the entries that overlap an earlier cell owner in home order made listen-only (R384). -/
def refuseOverlaps (before : List Word) (table : List Word) : List Word :=
  match table with
  | [] => []
  | w :: rest =>
    if entryListens w then w :: refuseOverlaps before rest
    else if before.any (entriesOverlap w) then (w ||| 0x00200000#32) :: refuseOverlaps before rest
    else w :: refuseOverlaps (before ++ [w]) rest

/-- The first ring ID that the check of overlaps refuses. -/
def firstRefused (table checked : List Word) : Option Nat :=
  ((table.zip checked).find? (fun p => decide (p.1 ≠ p.2))).map (fun p => entryId p.1)

/-- The assignment entries, farthest part first as given: each cell owner takes the next positions, a listen-only part the base
of the next nearer owner as its β (R385). -/
def assignFar (next : Nat) (far : List Word) : List Word :=
  match far with
  | [] => []
  | w :: rest =>
    let head := 2 ^ 31 + entryId w * 2 ^ 24 + (w.extractLsb' 22 2).toNat * 2 ^ 22
    if entryListens w then BitVec.ofNat 32 (head + 2 ^ 21 + next * 2 ^ 7) :: assignFar next rest
    else BitVec.ofNat 32 (head + next * 2 ^ 7 + next) :: assignFar (next + entryCells w) rest

/-- The assignment table in home order (R385). -/
def assignment (table : List Word) : List Word := (assignFar 36 (refuseOverlaps [] table).reverse).reverse

/-- The logical cells with their physical positions, by entry (R383). -/
def physicalMap (table : List Word) : List (Nat × Nat) :=
  table.flatMap (fun w =>
    if entryListens w then [] else (List.range (entryCells w)).map (fun i => (entryFirst w + i, entryBase w + i)))

/-! ### Failures of remote writes -/

/-- A failure of a remote write at its source: a record with source 2 and LATE_WRITE_FAIL where the bench's generation is the
tag's, else a dropped failure (R393). -/
def State.failRwr (s : State) (b : BenchId) (tag : BitVec 12) (addr : Nat) (code : Byte) : State :=
  if (s.bench b).generation = tag.extractLsb' 4 8 then
    (s.modBench b (fun x => x.recordNow code 2 addr s.clock.frame)).raiseOwner b 12
  else match s.owner b with
    | some t => s.drop t 3
    | none => s

/-- A message of this part ended by a reply, or by none (R392, R393). -/
def State.endMessage (s : State) (m : SentMessage) (reply : Option Byte) : State :=
  match m with
  | .write b q =>
    let u := s.modBench b (fun x => { x with remotes := x.remotes - 1 })
    match reply with
    | some 0 => u
    | some code => u.failRwr b q.tag q.addr code
    | none => u.failRwr b q.tag q.addr 0x09
  | .lateFail t => if reply.isNone then s.drop t 4 else s
  | .lost => s

/-- Every message in flight ended without a reply. -/
def State.loseMessages (s : State) : State :=
  (s.ring.slots.toList.filterMap id).foldl (fun s m => s.endMessage m none)
    (s.modRing (fun r => { r with slots := Vector.replicate 8 none }))

/-- What a loss of ring lock makes of a message in flight: an RWR has failed, and its slot is still read and set FREE at the next home
visit (R393). -/
def SentMessage.atLoss (m : SentMessage) : SentMessage := match m with | .write _ _ => .lost | m => m

/-- The RWR requests in flight failed with BENCH_ABSENT (R393). -/
def State.failInFlight (s : State) : State :=
  (s.ring.slots.toList.filterMap id).foldl (fun s m => match m with | .write _ _ => s.endMessage m none | _ => s)
    (s.modRing (fun r => { r with slots := r.slots.map (·.map SentMessage.atLoss) }))

/-- The queued RWR requests of a bench failed with BENCH_ABSENT (R393). -/
def State.failQueued (s : State) (b : BenchId) : State :=
  (vget s.ring.rwrQ b.val []).foldl (fun s q => s.endMessage (.write b q) none)
    (s.modRing (fun r => { r with rwrQ := vmod r.rwrQ b.val (fun _ => []) }))

/-- The RING_LOSS payload (Table HRG-9). -/
def ringLossPayload (cause last : Nat) (n : Word) : List Byte :=
  [BitVec.ofNat 8 cause] ++ beBytes 8 last ++ beBytes 4 n.toNat

/-- Ring lock lost: RING_LOSS, every cell absent, the RWR requests failed; a member takes no part in a start that is pending, and a
master tries roll call again unless the ring comes back before (R381, R383, R388, R393, R400). -/
def State.loseLock (s : State) : State :=
  let last := if s.isMaster then s.clock.frame else s.ring.counter
  let u := s.modRing (fun r => { r with
    locked := false, lastCounter := last, cells := Vector.replicate 128 ⟨0, 0, true⟩
    startFrame := if s.isMaster then r.startFrame else none, retry := true })
  let v := if s.isMaster then u else u.dropStarts
  ((List.finRange 8).foldl State.failQueued v.failInFlight).raiseAll 14

/-- The cause byte of RING_LOSS (Table HRG-9); for a strobe off the instant of R378 the table has none, and it is open (log 57). -/
def State.lossCode (s : State) (cause : Nat) : Nat × State :=
  if cause < 3 then (cause + 1, s)
  else
    let k := s.takeFree
    ((Config.openWord k.1).toNat % 256, k.2)

/-- Ring lock lost for a cause, with the entry. -/
def State.dropLock (s : State) (cause : Nat) : State :=
  let c := s.loseLock.lossCode cause
  c.2.ringLog 1 0x14 (ringLossPayload c.1 c.2.ring.lastCounter)

/-! ### Message slots -/

end Sys2Proof.Machine

namespace Sys2Proof

open Sys2Proof.Machine

/-- The CRC-8 of a slot's words (R478). -/
def MessageSlot.crc (m : MessageSlot) : Byte := crc8 (wordsToBytes [m.w0, m.w1, m.w2])

/-- The kind of a slot (Table HRG-6). -/
def MessageSlot.kind (m : MessageSlot) : Nat := (m.w0.extractLsb' 30 2).toNat

/-- The sender of a slot. -/
def MessageSlot.sender (m : MessageSlot) : Nat := (m.w0.extractLsb' 24 6).toNat

/-- The addressee of a slot. -/
def MessageSlot.addressee (m : MessageSlot) : Nat := (m.w0.extractLsb' 18 6).toNat

/-- REPLIED. -/
def MessageSlot.replied (m : MessageSlot) : Bool := m.w3.getLsbD 31

/-- A slot with its reply written. -/
def MessageSlot.reply (m : MessageSlot) (code : Byte) : MessageSlot :=
  { m with w3 := 0x80#8 ++ code ++ m.w3.extractLsb' 0 16 }

/-- A slot with its CRC. -/
def MessageSlot.seal (m : MessageSlot) : MessageSlot := { m with w3 := m.crc.setWidth 32 }

end Sys2Proof

namespace Sys2Proof.Machine

/-- An accepted remote write put into the latch of its slot; with the pit wedged it is completed with poison (R391, R392). -/
def State.latchWrite (s : State) (i : Nat) (w : LatchedWrite) : State :=
  if s.isWedged 1 then s.queueLateFail w 0x1b
  else s.modRing (fun r => { r with latches := vmod r.latches i (fun _ => some w) })

/-- A WRITE judged by its addressee: the reply code and what it changes (R391). -/
def State.judgeWrite (s : State) (i : Nat) (m : MessageSlot) : Byte × State :=
  let w := (m.w1.extractLsb' 26 6).toNat
  let off := (m.w1.extractLsb' 6 20).toNat
  let c := s.checkInbound w m.sender off
  if c.1 ≠ 0 then (c.1, s)
  else if (vget s.ring.latches i none).isSome then (0x03, s)
  else
    (0x00, s.latchWrite i
      { window := w, base := c.2.base, length := c.2.length, offset := off, data := m.w2, source := m.sender,
        bench := m.w0.extractLsb' 15 3, tag := m.w0.extractLsb' 0 12 })

/-- A LATE_FAIL received: the failure of the write it names (R392, R393). -/
def State.takeLateFail (s : State) (m : MessageSlot) : State :=
  let b := benchOf (m.w0.extractLsb' 15 3).toNat
  let tag := m.w0.extractLsb' 0 12
  s.failRwr b tag (vget (vget s.ring.rwrAddr b.val (Vector.replicate 16 0)) (tag.toNat % 16) 0) (m.w1.extractLsb' 18 8)

/-- A slot addressed to this part judged; one with a code error or a bad CRC-8 gets no reply (R371, R391, R392). -/
def State.judgeSlot (s : State) (i : Nat) (m : MessageSlot) : MessageSlot × State :=
  if m.clean = true ∧ (m.kind = 1 ∨ m.kind = 2) ∧ m.addressee = s.ringId ∧ m.replied = false ∧ m.w3.extractLsb' 0 8 = m.crc then
    if m.kind = 1 then
      let j := s.judgeWrite i m
      (m.reply j.1, j.2)
    else (m.reply 0, s.takeLateFail m)
  else (m, s)

/-- The slot that this part filled in the lap before read: its reply, and FREE. One that arrives with an error, and one that another
message has taken meanwhile, brings none (R393). -/
def State.takeReply (s : State) (i : Nat) (sent : SentMessage) (m : MessageSlot) : MessageSlot × State :=
  let mine := decide (m.kind ≠ 0) && decide (m.sender = s.ringId)
  let u := s.modRing (fun r => { r with slots := vmod r.slots i (fun _ => none) })
  if m.clean = false then (MessageSlot.freed, u.endMessage sent none)
  else if mine then (MessageSlot.freed, u.endMessage sent (if m.replied then some (m.w3.extractLsb' 16 8) else none))
  else (m, u.endMessage sent none)

/-- The message of an RWR request (Table HRG-6). -/
def State.writeMessage (s : State) (b : BenchId) (q : RemoteRequest) : MessageSlot :=
  ({ clean := true, w0 := BitVec.ofNat 32 (2 ^ 30 + s.ringId * 2 ^ 24 + q.rid * 2 ^ 18 + b.val * 2 ^ 15 + q.tag.toNat)
     w1 := BitVec.ofNat 32 (q.window * 2 ^ 26 + q.offset * 2 ^ 6), w2 := q.data, w3 := 0 } : MessageSlot).seal

/-- The message of a LATE_FAIL (Table HRG-6). -/
def State.lateFailMessage (s : State) (l : LateFail) : MessageSlot :=
  ({ clean := true, w0 := BitVec.ofNat 32 (2 ^ 31 + s.ringId * 2 ^ 24 + l.dest * 2 ^ 18 + l.bench.toNat * 2 ^ 15 + l.tag.toNat)
     w1 := BitVec.ofNat 32 (l.code.toNat * 2 ^ 18), w2 := 0, w3 := 0 } : MessageSlot).seal

/-- The next RWR request, round-robin over the benches (R390). -/
def State.nextRwr (s : State) : Option (BenchId × RemoteRequest) :=
  ((List.range 8).map (fun i => benchOf (s.ring.rwrTurn + i))).findSome? (fun b =>
    ((vget s.ring.rwrQ b.val []).head?).map (fun q => (b, q)))

/-- The message that this part inserts next, LATE_FAIL first (R390). -/
def State.nextMessage (s : State) : Option (MessageSlot × SentMessage × State) :=
  match s.ring.lateQ with
  | l :: rest => some (s.lateFailMessage l, .lateFail l.tenant, s.modRing (fun r => { r with lateQ := rest }))
  | [] =>
    match s.nextRwr with
    | none => none
    | some (b, q) =>
      some (s.writeMessage b q, .write b q, s.modRing (fun r => { r with
        rwrQ := vmod r.rwrQ b.val (fun l => l.drop 1), rwrTurn := b.val + 1
        rwrAddr := vmod r.rwrAddr b.val (fun v => vmod v (q.tag.toNat % 16) (fun _ => q.addr)) }))

/-- One slot at a home visit: judged, its reply taken, or filled if it is FREE and nothing was inserted yet (R390 to R393). -/
def State.visitSlot (s : State) (i : Nat) (m : MessageSlot) (inserted : Bool) : MessageSlot × Bool × State :=
  let a := s.judgeSlot i m
  match vget a.2.ring.slots i none with
  | some sent =>
    let r := a.2.takeReply i sent a.1
    (r.1, inserted, r.2)
  | none =>
    if a.1.clean = true ∧ a.1.kind = 0 ∧ inserted = false then
      match a.2.nextMessage with
      | none => (a.1, inserted, a.2)
      | some (n, sent, u) => (n, true, u.modRing (fun r => { r with slots := vmod r.slots i (fun _ => some sent) }))
    else (a.1, inserted, a.2)

/-- Every slot of a lap from slot `i` on: the slots as they leave the part. -/
def State.visitSlots (s : State) (i : Nat) (inserted : Bool) (ms : List MessageSlot) : List MessageSlot × State :=
  match ms with
  | [] => ([], s)
  | m :: rest =>
    let v := s.visitSlot i m inserted
    let w := v.2.2.visitSlots (i + 1) v.2.1 rest
    (v.1 :: w.1, w.2)

/-! ### Cells -/

/-- A cell buffer after its position has come by (R388). -/
def CellBuffer.take (c : CellBuffer) (a : CellArrival) : CellBuffer :=
  match a with
  | .value w => ⟨w, 0, false⟩
  | .absent => ⟨0, 0, true⟩
  | .error => { c with misses := c.misses + 1, absent := c.absent || decide (1 ≤ c.misses) }

/-- What this part writes for one of its own cells in this frame's lap (R387). -/
def State.ownCell (s : State) (c : Nat) : CellArrival :=
  let named := s.tenants.toList.any (fun t => t.image.any (fun i => i.streams.any (fun d => decide (d.cell = c))))
  match (s.ring.own.find? (fun x => decide (x.1 = c))).map (·.2) with
  | none => .absent
  | some o =>
    match o.value with
    | none => .absent
    | some v => if named = true ∧ o.lastFrame.all (fun f => decide (s.clock.frame ≤ f)) = true then .value v else .absent

/-- Whether a logical cell is this part's own by the assignment: strapped so and not refused (R385, R388). -/
def State.writesCell (s : State) (c : Nat) : Bool := s.ownsCell c && !s.ring.refused

/-- The physical positions of the parts that a fold cuts off from the master, by their places in home order (R397). -/
def Ring.cutPositions (r : Ring) : List Nat := (physicalMap (r.cutOff.filterMap (fun k => r.table[k]?))).map (·.2)

/-- The positions of a RUN lap as they leave the part: its own written, the others relayed; a master fills what is assigned to
none, and what a part that is cut off would write (R385, R387, R397). -/
def State.sentCells (s : State) (cells : Vector CellArrival 92) : Vector CellArrival 92 :=
  let m := physicalMap s.ring.table
  let cut := s.ring.cutPositions
  cells.mapIdx (fun i a =>
    match m.find? (fun p => decide (p.2 = 36 + i)) with
    | none => if s.isMaster then .absent else a
    | some p =>
      if s.writesCell p.1 then (if s.ring.locked then s.ownCell p.1 else .absent)
      else if s.isMaster = true ∧ cut.contains p.2 = true then .absent
      else a)

/-- The buffers after a visit: every assigned position into its logical cell, the part's own from the internal copy (R388). -/
def State.readCells (s : State) (sent : Vector CellArrival 92) : Vector CellBuffer 128 :=
  (physicalMap s.ring.table).foldl (fun bs p =>
    if 36 ≤ p.2 then vmod bs p.1 (fun c => c.take (vget sent (p.2 - 36) .error)) else bs) s.ring.cells

/-- Every buffer after a lap that did not come (R388). The part's own cells miss with the others: their internal copy has the same
absence rules, and the spec does not say whether it counts a miss in a lap that does not come to the part (DESIGN CHOICE, log 66). -/
def Ring.missCells (r : Ring) : Ring := { r with cells := r.cells.map (fun c => c.take .error) }

/-! ### The header -/

/-- A header is valid (R374). -/
def validHeader (l : Lap) : Bool :=
  l.clean && decide (l.h0.extractLsb' 20 4 = 1#4) && decide (l.h0.extractLsb' 18 2 = l.h1.extractLsb' 0 2)

/-- A ring status bit (Table HRG-3). -/
def statusBit (st : Byte) (i : Nat) : Bool := st.getLsbD i

/-- The TOD that follows by one frame (R401). -/
def State.nextTod (s : State) : Word × Half :=
  if s.ring.todMarked = false then (0, 0)
  else if s.ring.todFrame.toNat + 1 = s.ff then (s.ring.todSeconds + 1, 0)
  else (s.ring.todSeconds, s.ring.todFrame + 1)

/-- The master's ring status byte of lap `n` (Table HRG-3). -/
def State.masterStatus (s : State) (n : Nat) : Byte :=
  let r := s.ring
  let bit := fun (b : Bool) (i : Nat) => if b then 2 ^ i else 0
  BitVec.ofNat 8 (bit (decide (r.roll = .run)) 7 + bit (r.startPending && r.startFrame.any (fun f => decide (n < f))) 6 +
    bit (r.todMarked || r.mark.any (fun k => decide (k.m = n))) 5 + bit (decide (r.roll = .collect) || decide (r.roll = .assign)) 4 +
    bit r.conflict 3 + bit (decide (2 ≤ (s.code 2).toNat)) 2 +
    (if r.roll = .collect then 1 else if r.roll = .assign then 2 else 0))

/-- Subword j of lap `n` (Table HRG-2). -/
def State.masterSubword (s : State) (n j : Nat) : Nat :=
  let f := if s.ring.startPending then (s.ring.startFrame.filter (fun f => decide (n < f))).getD 0 else 0
  match j with
  | 0 => n / 2 ^ 48 % 2 ^ 16
  | 1 => n / 2 ^ 32 % 2 ^ 16
  | 2 => f / 2 ^ 16 % 2 ^ 16
  | _ => f % 2 ^ 16

/-- The header that the master sends in lap `n` (Table HRG-2). -/
def State.masterHeader (s : State) (n : Nat) (l : Lap) : Lap :=
  let tod := match s.ring.mark.filter (fun k => decide (k.m = n)) with
    | some k => (k.seconds, k.frame)
    | none => s.nextTod
  let j := n % 4
  { l with
    clean := true
    h0 := BitVec.ofNat 32 (0xbc100000 + j * 2 ^ 18 + s.masterSubword n j), h1 := BitVec.ofNat 32 n, h2 := tod.1
    h3 := tod.2 ++ s.masterStatus n ++ (if s.ring.folded then 0x80#8 ||| s.ring.fold else 0#8) }

/-- The ring frame counter of a valid header, with the part's subwords (R374, R398). -/
def Ring.headerCounter (r : Ring) (h1 : Word) : Nat :=
  ((vget r.subwords 0 0).toNat * 2 ^ 16 + (vget r.subwords 1 0).toNat) * 2 ^ 32 + h1.toNat

/-- The start frame named by subwords 2 and 3 while START_PENDING is 1, as a ring frame after the header's (R400). -/
def Ring.namedStart (r : Ring) : Option Nat :=
  match r.startHigh, r.startLow with
  | some h, some l => some (r.header + ((h.toNat * 2 ^ 16 + l.toNat) + 2 ^ 32 - r.header % 2 ^ 32) % 2 ^ 32)
  | _, _ => none

/-- What a valid header brings: subword j, counter, status, TOD (R374, R398, R401). -/
def Ring.takeHeader (r : Ring) (l : Lap) : Ring :=
  let j := (l.h0.extractLsb' 18 2).toNat
  let word : Half := l.h0.extractLsb' 0 16
  let st : Byte := l.h3.extractLsb' 8 8
  let u := { r with subwords := vmod r.subwords j (fun _ => word), validLaps := r.validLaps + 1, missedLaps := 0, status := st }
  let n := u.headerCounter l.h1
  let pending := statusBit st 6
  { u with
    header := n
    startHigh := if pending then (if j = 2 then some word else r.startHigh) else none
    startLow := if pending then (if j = 3 then some word else r.startLow) else none
    headerTod := if statusBit st 5 then some { m := n, seconds := l.h2, frame := l.h3.extractLsb' 16 16 } else none }

/-- A member that holds lock takes a start frame it has not taken yet: its master ports wait for it (R324, R400). -/
def State.takeRingStart (s : State) : State :=
  if s.isMember then
    match s.ring.namedStart with
    | none => s
    | some f =>
      if s.ring.locked = true ∧ s.ring.lockedAt + 5 ≤ f ∧ s.ring.startFrame ≠ some f ∧ s.ring.counter < f then
        (s.modRing (fun r => { r with startFrame := some f })).startPorts (s.clock.frame + (f - s.ring.counter))
      else s
  else s

/-- The part's place in home order, the master's 0: the one at which it wrote its entry (R383). -/
def State.place (s : State) : Option Nat := if s.isMaster then some 0 else s.ring.position.map (· - 36)

/-- Whether this part lies beyond X in home order (Table HRG-9). -/
def State.farArm (s : State) (x : Nat) : Bool := s.place.any (fun k => decide ((s.ring.table.map entryId).idxOf x < k))

/-- The ring frame counter of a RING_FOLD entry: the master's local frame counter (R398), on a member that of the latest strobe with
ring lock, else that of the lap whose header shows the change. -/
def State.foldCounter (s : State) : Nat :=
  if s.isMaster then s.clock.frame else if s.ring.locked then s.ring.counter else s.ring.header

/-- RING_FOLD raised and logged (R403, R404). -/
def State.logFold (s : State) (folded : Bool) (x : Nat) (rotation : Word) : State :=
  (s.ringEvent 15).ringLog 2 0x15 (fun _ =>
    [BitVec.ofNat 8 ((if folded then 1 else 0) + (if folded && s.farArm x then 2 else 0)), BitVec.ofNat 8 x] ++
      beBytes 4 rotation.toNat ++ beBytes 8 s.foldCounter)

/-- FOLDED at the home visit of a member changes (R397, Table HRG-8). -/
def State.seeFold (s : State) (f : Byte) : State :=
  let now := f.getLsbD 7
  let u := s.modRing (fun r => { r with fold := f, folded := now })
  if s.ring.folded = now then u
  else
    let k := u.takeFree
    k.2.logFold now (f.toNat % 64) (Config.openWord k.1)

/-- The ROLLCALL payload (Table HRG-9). -/
def rollcallPayload (outcome heard id rotation : Nat) (n : Word) : List Byte :=
  [BitVec.ofNat 8 outcome, BitVec.ofNat 8 heard, BitVec.ofNat 8 id] ++ beBytes 4 rotation ++ beBytes 4 n.toNat

/-- A master conflict: CONFLICT until a full reset, the event and the entry (R384, R386). -/
def State.rollConflict (s : State) (heard id rotation : Nat) : State :=
  if s.ring.conflict then s
  else ((s.modRing (fun r => { r with conflict := true })).ringEvent 16).ringLog 0 0x13 (rollcallPayload 2 heard id rotation)

/-- A member that sees CONFLICT raises and logs it, once until a header comes without it (R386). -/
def State.seeConflict (s : State) : State :=
  if statusBit s.ring.status 3 then s.rollConflict 0 0xff 0 else s.modRing (fun r => { r with conflict := false })

/-! ### The home visit -/

/-- The positions of a collection lap as they leave a member: its entry in the first position that holds 0 (R383). -/
def State.writeEntry (s : State) (cells : Vector CellArrival 92) : Vector CellArrival 92 × Option Nat :=
  match cells.toList.findIdx? (fun a => decide (a = .value 0)) with
  | none => (cells, none)
  | some k => (vmod cells k (fun _ => .value s.ownEntry), some (36 + k))

/-- The positions that a master sends in a roll-call lap; between two attempts every cell is absent (R383, R396; DESIGN CHOICE,
log 58). -/
def State.rollCells (s : State) : Vector CellArrival 92 :=
  if s.ring.roll = .idle then Vector.replicate 92 .absent
  else
    let ws := if s.ring.roll = .assign then assignment (s.ring.collected.getD []) else [s.ownEntry]
    Vector.ofFn (fun i => .value (ws.getD i.val 0))

/-- The strobe's distance from the instant of R378 judged (R379, R380). -/
def Ring.judgeStrobe (r : Ring) (err : Int) : Ring :=
  { r with strobeError := err, strayLaps := if 40 < err.natAbs then r.strayLaps + 1 else 0 }

/-- The message slots of a lap, handled at every home visit, with ring lock or without it (R390, R391, R393). -/
def State.visitMessages (s : State) (l : Lap) : Vector MessageSlot 8 × State :=
  let v := s.visitSlots 0 false l.slots.toList
  (Vector.ofFn (fun i => v.1.getD i.val MessageSlot.freed), v.2)

/-- The stream positions of a RUN lap: its own written and the others read (R387, R388). -/
def State.visitCells (s : State) (l : Lap) : Vector CellArrival 92 × State :=
  let sent := s.sentCells l.cells
  (sent, if s.ring.locked then s.modRing (fun r => { r with cells := s.readCells sent }) else s)

/-- A lap's slots and positions at a member's home visit: a collection lap takes its entry, where `collects` says that it is one, a
RUN lap by the latest status its cells; any other goes on as it came (R383, R387, R390). -/
def State.memberLap (s : State) (l : Lap) (collects : Bool) : State :=
  let m := s.visitMessages l
  if collects then
    let c := m.2.writeEntry l.cells
    m.2.modRing (fun r => { r with position := c.2, sent := some { l with slots := m.1, cells := c.1 } })
  else if statusBit s.ring.status 7 then
    let c := m.2.visitCells l
    c.2.modRing (fun r => { r with sent := some { l with slots := m.1, cells := c.1 } })
  else m.2.modRing (fun r => { r with sent := some { l with slots := m.1 } })

/-- A home visit of a member with a valid header. -/
def State.memberVisit (s : State) (l : Lap) (err : Int) : State :=
  let u := ((s.modRing (fun r => (r.takeHeader l).judgeStrobe err)).seeFold (l.h3.extractLsb' 0 8)).takeRingStart
  (u.memberLap l (statusBit u.ring.status 4 && decide ((u.ring.status.extractLsb' 0 2) = 1#2))).seeConflict

/-- A lap without a valid header counted (R379, R380, R381). -/
def Ring.missHeader (r : Ring) : Ring := { r with validLaps := 0, missedLaps := r.missedLaps + 1, strayLaps := 0 }

/-- The next lap of a master: the slots and positions that its home visit leaves, under the header of lap `n`; outside RUN its own
positions (R376, R377, R383). -/
def State.sendLap (s : State) (n : Nat) (l : Lap) : State :=
  let m := s.visitMessages l
  let c := if s.ring.roll = .run then m.2.visitCells l else (m.2.rollCells, m.2)
  c.2.modRing (fun r => { r with sent := some (c.2.masterHeader n { l with slots := m.1, cells := c.1 }) })

/-- What a lap at its home visit tells the master: the header, and its strobe's distance, which does not depend on it (R379, R380). -/
def Ring.judgeReturn (r : Ring) (l : Lap) (err : Int) : Ring :=
  { r with
    validLaps := if validHeader l then r.validLaps + 1 else 0, missedLaps := if validHeader l then 0 else r.missedLaps + 1
    strobeError := err, strayLaps := if 40 < err.natAbs then r.strayLaps + 1 else 0 }

/-- A home visit of the master: what returned is sent on under the next header, whether or not its own was valid (R376, R377). -/
def State.masterVisit (s : State) (l : Lap) (err : Int) : State :=
  (s.modRing (fun r => r.judgeReturn l err)).sendLap (s.clock.frame + 1) l

/-- Whether a master sends laps: from its first roll call on (R372, R383). -/
def State.sendsLaps (s : State) : Bool := s.isMaster && (decide (s.ring.roll ≠ .idle) || s.ring.retry)

/-- Whether the first lap of a roll call has come on the up link: a valid header with ROLLCALL after one without it, or after none. -/
def Ring.newRoll (r : Ring) (link : RingLink) (l : Lap) : Bool :=
  decide (link = .up) && validHeader l && l.h3.getLsbD 12 && (!statusBit r.status 4 || decide (r.validLaps = 0))

/-- Whether a turning member ends its turning with this lap: a new roll call, its link to the other end of the break whole again
(R395). -/
def State.unturns (s : State) (link : RingLink) (l : Lap) : Bool :=
  s.ring.newRoll link l && s.ring.turning.any (fun e => match e with | .near => s.ring.linkWhole .down | .far => s.ring.linkWhole .up)

/-- A folded ring returns to a loop at a new roll call: an end of the break turns no more (R395). -/
def State.unturn (s : State) (link : RingLink) (l : Lap) : State :=
  if s.isMember = true ∧ s.unturns link l = true then s.modRing (fun r => { r with turning := none }) else s

/-- A lap on one of the part's links: at its home visit, or, on the other link, relayed as it is, neither read nor written (R377). -/
def State.lapArrives (s : State) (link : RingLink) (chars : LapChars) (l : Lap) (err : Int) : State :=
  if link = s.homeLink then
    let u := s.modRing (fun r => { r with visited := true })
    if s.isMaster then u.masterVisit l err
    else if validHeader l then u.memberVisit l err
    else (u.modRing Ring.missHeader).memberLap l false
  else s.modRing (fun r => { r with relayed := some (s.clock.frame, chars) })

/-- HOME_VISIT (R377, R395). -/
def State.homeVisit (s : State) (link : RingLink) (chars : LapChars) (err : Int) : State :=
  if s.ringLive = true ∧ (s.isMember = true ∨ s.sendsLaps = true) then
    (s.unturn link (decodeLap chars)).lapArrives link chars (decodeLap chars) err
  else s

/-! ### The strobe -/

/-- A lap in which nothing returns to the master. -/
def emptyLap : Lap :=
  { clean := true, h0 := 0, h1 := 0, h2 := 0, h3 := 0, slots := Vector.replicate 8 MessageSlot.freed
    cells := Vector.replicate 92 .absent }

/-- A lap that did not come: its messages are lost and every position misses; a member has none to relay, a master sends its next
one all the same (R376, R379, R388, R393). -/
def State.missLap (s : State) : State :=
  let u := s.loseMessages.modRing (fun r => { r.missCells.missHeader with sent := none })
  if s.sendsLaps then
    u.modRing (fun r => { r with sent := some (u.masterHeader s.clock.frame
      { emptyLap with cells := if r.roll = .run then u.sentCells emptyLap.cells else u.rollCells }) })
  else u

/-- The ring at a strobe: a lap that did not come misses; the counter advances, or is the latest header's; TOD advances by one
frame; a start frame that has come is no longer pending (R379, R381, R388, R398, R400, R402). -/
def State.ringStrobe (s : State) : State :=
  let u := if s.ringLive = true ∧ s.ring.visited = false then s.missLap else s
  let tod := u.nextTod
  let n := if u.ring.visited = true ∧ 0 < u.ring.validLaps ∧ u.isMember = true then u.ring.header else u.ring.counter + 1
  (u.modRing (fun r => { r with
    visited := false, counter := n
    holdoverLaps := if u.clock.holdover then r.holdoverLaps + 1 else 0
    todSeconds := tod.1, todFrame := tod.2
    startPending := r.startPending && !r.startFrame.any (fun f => decide (f ≤ u.clock.frame)) })).raiseRing

/-! ### What the links carry -/

/-- What a part drives on one of its links: nothing; the idle ordered set, whose second character K28.1 or K28.7 tells whether the
link is marked down at this end; or the characters of a lap (R371, R372, R394). -/
inductive LaneDrive where
  | silent
  | idle (good : Bool)
  | lap (c : LapChars)
  deriving DecidableEq, Repr

/-- Whether a member has stopped relaying: strapped with fold disabled, at an end of a break (R396). -/
def State.endsRing (s : State) : Bool := s.isMember && !s.foldEnabled && !(s.ring.linkWhole .up && s.ring.linkWhole .down)

/-- The link on which the lap of the home visit goes out: the down link's forward lane, and at X the up link's return lane (R375,
R394). -/
def State.sendLink (s : State) : RingLink := if s.ring.turning = some .near then .up else .down

/-- The lap on a link's transmit lane: that of the home visit, or, on the return lane, one that is relayed: a near arm's on its way
back, or at the master the middle crossing (R377, R394). -/
def State.lapOn (s : State) (l : RingLink) : Option LapChars :=
  if s.endsRing then none
  else if l = s.sendLink then s.ring.sent.map Lap.encode
  else if l = .up ∧ s.ring.turning = none then
    (s.ring.relayed.filter (fun r => decide (s.clock.frame ≤ r.1 + 1))).map (·.2)
  else none

/-- What the part drives on a link: nothing before AWAIT_IMAGE, in a held state, standalone, or with its transceiver wedged (R71,
R372, Table FLT-3). -/
def State.laneDrive (s : State) (l : RingLink) : LaneDrive :=
  if s.ringLive then
    match s.lapOn l with
    | some c => .lap c
    | none => .idle (s.ring.linkWhole l)
  else .silent

/-- Whether the links are driven in the long class: as strapped, and for a listen-only member as the master's status says (R373,
Table STR-5). -/
def State.longLinks (s : State) : Bool :=
  match (s.code 2).toNat with
  | 2 => true
  | 3 => true
  | 5 => true
  | 6 => true
  | 7 => statusBit s.ring.status 2
  | _ => false

/-! ### Lock -/

/-- Whether the part meets the conditions of R379 and does not hold lock. -/
def State.canLock (s : State) : Bool :=
  s.ringLive && !s.ring.locked &&
    (if s.isMaster then decide (s.ring.roll = .run) && decide (0 < s.ring.validLaps)
     else s.clock.locked && !s.clock.holdover && decide (4 ≤ s.ring.validLaps) && statusBit s.ring.status 7 &&
       decide (s.ring.strobeError.natAbs ≤ 40))

/-- An ARMED bench with ON_RING_LOCK meets its condition two strobes after RING_LOCK (Table PWR-8). -/
def State.lockBench (s : State) (b : BenchId) : State :=
  if (s.bench b).state = .armed ∧ s.releaseCond b = some .onRingLock ∧ (s.bench b).goDue = none then
    s.modBench b (fun x => { x with goDue := some (s.clock.frame + 2) })
  else s

/-- RING_LOCK_GAIN: RING_LOCK, and a ring epoch where the counter has gone back; the reference comes from the link of the home visit
(R379, R382, R399). -/
def State.ringLockGain (s : State) : State :=
  if s.canLock then
    let now := if s.isMaster then s.clock.frame else s.ring.counter
    let back := s.ring.everLocked && decide (now < s.ring.lastCounter)
    let u := (List.finRange 8).foldl State.lockBench ((s.modRing (fun r => { r with
      locked := true, everLocked := true, lockedAt := now, startFrame := if s.isMaster then r.startFrame else none
      refLink := if s.isMember then some s.homeLink else r.refLink
      epoch := if back then r.epoch + 1 else r.epoch })).raiseAll 13)
    if back then
      u.ringLog 3 0x16 (fun _ => beBytes 8 s.ring.lastCounter ++ beBytes 8 now ++ beBytes 4 u.ring.epoch.toNat ++
        beBytes 8 s.clock.frame)
    else u
  else s

/-- Whether lock is lost for a cause, 0 no header, 1 holdover, 2 RUN cleared, 3 a strobe off the instant of R378 (R379, R381,
R396). -/
def State.lossHolds (s : State) (cause : Nat) : Bool :=
  match cause with
  | 0 => if s.isMaster then decide (0 < s.ring.missedLaps) else decide (16 ≤ s.ring.missedLaps)
  | 1 => s.isMember && decide (16 < s.ring.holdoverLaps)
  | 2 => if s.isMaster then decide (s.ring.roll ≠ .run) else decide (0 < s.ring.validLaps) && !statusBit s.ring.status 7
  | _ => s.isMember && decide (0 < s.ring.validLaps) && decide (40 < s.ring.strobeError.natAbs)

/-- RING_LOSS (R381). -/
def State.ringLoss (s : State) (cause : Nat) : State :=
  if s.ringLive = true ∧ s.ring.locked = true ∧ s.lossHolds cause = true then s.dropLock cause else s

/-- PHASE_STEP: after two laps off phase one frame is lengthened by less than a frame, `cycles` of VCO/8; master ports gap, and each
sense channel in RUN misses one delivery (R380). -/
def State.phaseStep (s : State) (cycles : Nat) : State :=
  if s.ringLive = true ∧ 2 ≤ s.ring.strayLaps ∧ cycles < 7680 then
    let skip := BitVec.ofNat 16 (s.chanMap (fun c => decide (c.state = .run)))
    let u := s.modRing (fun r => { r with strayLaps := 0, strobeError := 0, skipDelivery := skip })
    ({ u with clock := { u.clock with added := u.clock.added + cycles } }).gapAudio
  else s

/-! ### Lanes -/

/-- What an end of a link holds of it: its receive lane good, and the other end's signal that it is down. -/
def Ring.modLink (r : Ring) (l : RingLink) (good severed : Bool → Bool) : Ring :=
  match l with
  | .up => { r with laneUp := good r.laneUp, severedUp := severed r.severedUp }
  | .down => { r with laneDown := good r.laneDown, severedDown := severed r.severedDown }

/-- LANE_DOWN: the receive lane down after 8 silent characters or 16 errors; the link marked down where the other end signals K28.7
(R372, R394). -/
def State.laneDown (s : State) (l : HeardLink) (silentChars errors : Nat) : State :=
  if s.isStandalone = false ∧ s.power.state ≠ .por then
    s.modRing (fun r =>
      r.modLink l.link (fun g => g && !(decide (8 ≤ silentChars) || decide (16 ≤ errors))) (fun v => v || l.otherDown))
  else s

/-- LANE_UP: the receive lane up after 2 laps or 1,024 characters of idle without errors; the link's mark is lifted where they have no
K28.7 any more (R372; DEDUCED, log 67). -/
def State.laneUp (s : State) (l : HeardLink) (laps idleChars : Nat) : State :=
  if s.isStandalone = false ∧ s.power.state ≠ .por ∧ (2 ≤ laps ∨ 1024 ≤ idleChars) then
    s.modRing (fun r => r.modLink l.link (fun _ => true) (fun v => v && l.otherDown))
  else s

/-! ### Roll call -/

/-- Whether the master waits for a roll call: before its first, after an attempt that ended, and in a ring loss (R383). -/
def State.awaitsRoll (s : State) : Bool :=
  decide (s.ring.roll = .idle) || (decide (s.ring.roll = .run) && !s.ring.locked && s.ring.retry)

/-- ROLLCALL_START: on a valid idle, or 500 ms after lock without one where fold is enabled; every 1,000 ms after a ring loss or
an attempt that ended (R383). R383 does not say whether the retry also needs a valid idle or fold enabled; as for a first start the
model asks for one of them (DESIGN CHOICE, log 68). -/
def State.rollcallStart (s : State) (idleSeen : Bool) (ms : Nat) : State :=
  let due := if s.ring.retry then decide (1000 ≤ ms) && (idleSeen || s.foldEnabled)
    else idleSeen || (s.foldEnabled && decide (500 ≤ ms))
  if s.ringLive = true ∧ s.isMaster = true ∧ s.awaitsRoll = true ∧ due = true then
    s.modRing (fun r => { r with
      roll := .collect, startedFolded := !idleSeen, collected := none, validLaps := 0, turning := none, cutOff := [] })
  else s

/-- COLLECTION_LAP: the checks of R384 on the returned table; two consecutive equal tables end the collection (R383). -/
def State.collectionLap (s : State) (table : List Word) (rotationNs : Nat) (foreign : Bool) : State :=
  if s.ringLive = true ∧ s.isMaster = true ∧ s.ring.roll = .collect then
    let s := s.modRing (fun r => { r with rotation := rotationNs })
    let other := (table.drop 1).find? (fun (w : Word) => w.getLsbD 30)
    if foreign = true ∨ other.isSome = true ∨ s.ring.conflict = true then
      s.rollConflict table.length ((other.map entryId).getD 0xff) rotationNs
    else if s.rotationLimit < rotationNs then
      (s.modRing (fun r => { r with roll := .idle, retry := true })).ringLog 0 0x13
        (rollcallPayload 4 table.length 0xff rotationNs)
    else if s.ring.collected = some table then s.modRing (fun r => { r with roll := .assign })
    else s.modRing (fun r => { r with collected := some table })
  else s

/-- The part's own entry of an assignment: the master's is the first, a member's the one at the position that it remembers (R383). -/
def State.assigned (s : State) (table : List Word) : Option Word :=
  if s.isMaster then table.head? else s.ring.position.bind (fun k => table[k - 36]?)

/-- The part's own place in an assignment: its table, its β, and whether it is refused (R383 to R385). -/
def State.takeAssignment (s : State) (table : List Word) : State :=
  let own := s.assigned table
  s.modRing (fun r => { r with
    table := table, beta := (own.map entryBeta).getD r.beta, refused := own.any entryListens && !entryListens s.ownEntry })

/-- X of a ring that starts folded: the part at the end of the live segment, the last of the table (DESIGN CHOICE, log 61). -/
def lastId (table : List Word) : Nat := (table.getLast?.map entryId).getD 0

/-- ASSIGNMENT_LAP: the master assigns the collected table and sends RUN; a member builds its map from the table it reads; a
refusal raises RING_ROLLCALL_CONFLICT and is logged (R383 to R386, R395). -/
def State.assignmentLap (s : State) (table : List Word) : State :=
  if s.ringLive = false then s
  else if s.isMaster then
    match s.ring.roll, s.ring.collected with
    | .assign, some c =>
      let x := if s.ring.startedFolded then lastId c else 0
      let u := (s.takeAssignment (assignment c)).modRing (fun r => { r with
        roll := .run, folded := s.ring.startedFolded, fold := BitVec.ofNat 8 x })
      let v := if s.ring.folded = s.ring.startedFolded then u
        else u.logFold s.ring.startedFolded x (BitVec.ofNat 32 s.ring.rotation)
      match firstRefused c (refuseOverlaps [] c) with
      | some id => (v.ringEvent 16).ringLog 0 0x13 (rollcallPayload 3 c.length id s.ring.rotation)
      | none =>
        v.ringLog 0 0x13 (rollcallPayload (if s.ring.startedFolded then 1 else 0) c.length 0xff s.ring.rotation)
    | _, _ => s
  else
    let u := s.takeAssignment table
    if u.ring.refused then (u.ringEvent 16).ringLog 0 0x13 (rollcallPayload 3 table.length s.ringId 0) else u

/-! ### Fold -/

/-- Whether a member has a break on this link: it is marked down, or shows the idle of a part strapped with fold disabled, which is
the end in its place and never turns (R394, R396). -/
def State.brokenAt (s : State) (l : RingLink) (idleBeyond : Option RingLink) : Bool :=
  !s.ring.linkWhole l || decide (idleBeyond = some l)

/-- The end of a break at which this member turns: as X where its down link leads to it, as Y where it lies beyond; with a break on
either side it has no lap to turn (R394, R396). -/
def State.turnsAt (s : State) (idleBeyond : Option RingLink) : Option FoldEnd :=
  if s.foldEnabled = false then none
  else match s.brokenAt .down idleBeyond, s.brokenAt .up idleBeyond with
    | true, false => some .near
    | false, true => some .far
    | _, _ => none

/-- The places in home order between X and Y; Y is the master, place 0, where the far arm has no member (R397). -/
def Ring.between (r : Ring) (x y : Nat) : List Nat :=
  (List.range r.table.length).filter (fun k => decide (x < k) && (decide (k < y) || decide (y = 0)))

/-- The ring ID at a place in home order. -/
def Ring.idAt (r : Ring) (k : Nat) : Nat := entryId (r.table.getD k 0)

/-- The master takes a folded lap: FOLDED with X's ring ID, the parts between the ends cut off; or RUN cleared where the rotation is
too long or its fold is disabled (R394, R396, R397). -/
def State.masterFold (s : State) (x y rotationNs : Nat) : State :=
  let u := s.modRing (fun r => { r with rotation := rotationNs })
  let ended := u.modRing (fun r => { r with roll := .idle, retry := true })
  if s.foldEnabled = false then ended
  else if s.rotationLimit < rotationNs then ended.ringLog 0 0x13 (rollcallPayload 4 s.ring.table.length 0xff rotationNs)
  else
    let turning := if x = 0 then some FoldEnd.near else none
    let id := s.ring.idAt x
    let v := u.modRing (fun r => { r with
      folded := true, fold := BitVec.ofNat 8 id, turning := turning, cutOff := r.between x y })
    let w := if turning.isSome = true ∧ s.ring.turning = none then v.ringEvent 15 else v
    if s.ring.folded then w else w.logFold true id (BitVec.ofNat 32 rotationNs)

/-- FOLD: the ends of a break turn the lap, the master crosses it over and sends FOLDED; Y's home visit, and with ring lock its
reference, are on its down link from then on (R377, R382, R394). -/
def State.foldRing (s : State) (x y rotationNs : Nat) (idleBeyond : Option RingLink) : State :=
  if s.ringLive = false then s
  else if s.isMaster then (if s.ring.roll = .run then s.masterFold x y rotationNs else s)
  else match s.turnsAt idleBeyond with
    | none => s
    | some e =>
      if s.ring.turning = some e then s
      else (s.modRing (fun r => { r with
        turning := some e, refLink := if e = .far ∧ r.locked = true then some .down else r.refLink })).ringEvent 15

/-! ### Time -/

/-- A step of TOD at the strobe of ring frame `m`: its event, tod_epoch and the entry (R401). The first mark is a forward step
from TOD 0. -/
def State.stepTod (s : State) (m : Nat) (sec : Word) (fos : Half) : State :=
  let r := s.ring
  let back := decide (sec.toNat < r.todSeconds.toNat) || (decide (sec = r.todSeconds) && decide (fos.toNat < r.todFrame.toNat))
  let first := !r.todMarked
  let u := (s.modRing (fun r => { r with todSeconds := sec, todFrame := fos, todMarked := true, todEpoch := r.todEpoch + 1 })).raiseAll
    (if back && !first then 17 else 18)
  u.ringLog 4 0x17 (fun _ => beBytes 4 r.todSeconds.toNat ++ beBytes 2 r.todFrame.toNat ++ beBytes 4 sec.toNat ++
    beBytes 2 fos.toNat ++ beBytes 8 m ++ beBytes 4 u.ring.todEpoch.toNat ++
    [BitVec.ofNat 8 ((if back && !first then 1 else 0) + (if first then 2 else 0))])

/-- The TOD that this strobe applies: a pending mark whose frame has come on a master or a standalone part, the header's TOD on a
member that holds lock (R401, R402). -/
def State.todDue (s : State) : Option TodMark :=
  if s.isMember then (if s.ring.locked then s.ring.headerTod.filter (fun k => decide (k.m = s.ring.counter)) else none)
  else s.ring.mark.filter (fun k => decide (k.m = s.clock.frame))

/-- TOD_MARK_APPLY: the TOD due at this strobe, a step where it differs from the prediction (R401, R402). -/
def State.todMarkApply (s : State) : State :=
  if s.running = true ∧ s.clock.strobed = true then
    match s.todDue with
    | none => s
    | some k =>
      let u := if s.isMember then s else s.modRing (fun r => { r with mark := none })
      if s.ring.todMarked = true ∧ s.ring.todSeconds = k.seconds ∧ s.ring.todFrame = k.frame then u
      else u.stepTod k.m k.seconds k.frame
  else s

/-! ### The commands -/

/-- LANE_DOWN (R372). -/
def execLaneDown (l : HeardLink) (silentChars errors : Nat) (s : State) : Out := .next (s.laneDown l silentChars errors)

/-- LANE_UP (R372). -/
def execLaneUp (l : HeardLink) (laps idleChars : Nat) (s : State) : Out := .next (s.laneUp l laps idleChars)

/-- HOME_VISIT (R377). -/
def execHomeVisit (l : RingLink) (chars : LapChars) (strobeErrorNs : Int) (s : State) : Out :=
  .next (s.homeVisit l chars strobeErrorNs)

/-- RING_LOCK_GAIN (R379). -/
def execRingLockGain (s : State) : Out := .next s.ringLockGain

/-- RING_LOSS (R381). -/
def execRingLoss (cause : Fin 4) (s : State) : Out := .next (s.ringLoss cause.val)

/-- PHASE_STEP (R380). -/
def execPhaseStep (cycles : Nat) (s : State) : Out := .next (s.phaseStep cycles)

/-- ROLLCALL_START (R383). -/
def execRollcallStart (idleSeen : Bool) (ms : Nat) (s : State) : Out := .next (s.rollcallStart idleSeen ms)

/-- COLLECTION_LAP (R384). -/
def execCollectionLap (table : List Word) (rotationNs : Nat) (foreign : Bool) (s : State) : Out :=
  .next (s.collectionLap table rotationNs foreign)

/-- ASSIGNMENT_LAP (R385). -/
def execAssignmentLap (table : List Word) (s : State) : Out := .next (s.assignmentLap table)

/-- FOLD (R394). -/
def execFold (x y : BitVec 6) (rotationNs : Nat) (idleBeyond : Option RingLink) (s : State) : Out :=
  .next (s.foldRing x.toNat y.toNat rotationNs idleBeyond)

/-- TOD_MARK_APPLY (R401). -/
def execTodMarkApply (s : State) : Out := .next s.todMarkApply

end Sys2Proof.Machine
end

