-- ==== Sys2Proof/Machine/Faults.lean ====
section
/-! DEFINITION. Sys2Proof/Machine/Faults.lean: fences, wedges of shared islands, the wedge note (R430 to R439 of
spec/17_faults_recovery.md). -/
namespace Sys2Proof.Machine

/-! ### Fences -/

/-- A number as one byte, saturating at 255. -/
def satByte (n : Nat) : Byte := BitVec.ofNat 8 (Nat.min 255 n)

/-- The owner byte of a FENCE entry; a bench without an owner leaves it open. -/
def State.ownerByte (s : State) (b : BenchId) : Byte × State :=
  match s.owner b with
  | some t => (BitVec.ofNat 8 t.val, s)
  | none =>
    let k := s.takeFree
    ((Config.openWord k.1).setWidth 8, k.2)

/-- The FENCE payload (Table FLT-5) from the state before the fence. -/
def State.fencePayload (s : State) (b : BenchId) (owner : Byte) : List Byte :=
  let x := s.bench b
  [BitVec.ofNat 8 b.val, owner, BitVec.ofNat 8 ((if x.glideFailed then 1 else 0) + (if x.coefs.waits then 2 else 0))] ++
    beBytes 8 s.clock.frame ++ beBytes 8 x.shake.first ++
    [satByte x.writes.length, satByte (vget s.ring.rwrQ b.val []).length] ++ beBytes 2 (s.fullSenders b)

/-- A dropped failure of a bench's owner. -/
def State.dropOwner (s : State) (b : BenchId) (source : Nat) : State :=
  match s.owner b with
  | some t => s.drop t source
  | none => s

/-- The queued RWR requests of a bench discarded, each a dropped failure (Table FLT-2). -/
def State.discardRwr (s : State) (b : BenchId) : State :=
  (vget s.ring.rwrQ b.val []).foldl
    (fun s _ => (s.modBench b (fun x => { x with remotes := x.remotes - 1 })).dropOwner b 3)
    (s.modRing (fun r => { r with rwrQ := vmod r.rwrQ b.val (fun _ => []) }))

/-- A pending commit's part of a bench abandoned with COMMIT_REFUSED (R259, R260). -/
def State.refuseCommit (s : State) (b : BenchId) : State :=
  if (s.bench b).coefs.waits then
    (s.modBench b (fun x => { x with coefs := x.coefs.abandon })).raiseOwner b 6
  else s

/-- The effects of Table FLT-2. -/
def State.fence (s : State) (b : BenchId) : State :=
  let o := s.startUnitFault.ownerByte b
  let payload := o.2.fencePayload b o.1
  let u := ((o.2.stopBench b .fenced).modBench b (fun x => { x with reads := [] })).newEpoch
  let v := (((u.emptyTo b).refuseCommit b).discardRwr b).raiseOwner b 1
  v.logPart 0x0f payload

/-- Whether a lower bench is still to be fenced at this strobe: the entries are queued in ascending order (the edges of
spec/17_faults_recovery.md). -/
def State.fenceBefore (s : State) (b : BenchId) : Bool :=
  (List.finRange 8).any (fun o => decide (o.val < b.val) && s.fenceFound o)

/-- BENCH_FENCE: W1 has counted 16 consecutive failed handshakes (R430, R433). -/
def State.benchFence (s : State) (b : BenchId) : State :=
  if s.running = true ∧ s.clock.strobed = true ∧ s.fenceFound b = true ∧ s.fenceBefore b = false then s.fence b
  else s

/-! ### Wedges -/

end Sys2Proof.Machine

namespace Sys2Proof

/-- The code of a shared island (Table FLT-3). -/
def SharedIsland.code (i : SharedIsland) : Nat :=
  match i with
  | .pit => 1
  | .ring => 2
  | .port t => 3 + t.val
  | .audio => 7
  | .sense => 8
  | .weighbridge => 9

end Sys2Proof

namespace Sys2Proof.Machine

/-- Whether another shared island is declared wedged at this strobe: W1 or W2 finds its 16th failure here. -/
def State.otherWedge (s : State) (code : Nat) : Bool :=
  (List.range 9).any (fun i => decide (i + 1 ≠ code) && decide ((vget s.faults.shake i ⟨0, 0, true⟩).fails = 16)) ||
    (decide (code ≠ 1) && decide (s.faults.pitStall = 16))

/-- Whether a bench is fenced at this strobe. -/
def State.fenceNow (s : State) : Bool := s.benches.toList.any (fun b => decide (b.shake.fails = 16))

/-- The WEDGE payload (Table FLT-5); `poisoned` counts the accesses completed with poison. -/
def State.wedgePayload (s : State) (code watchdog poisoned : Nat) : List Byte :=
  [BitVec.ofNat 8 code, BitVec.ofNat 8 watchdog] ++ beBytes 8 s.localFrame ++ beBytes 4 s.wb.nv.powerCycle.toNat ++
    [BitVec.ofNat 8 ((if s.otherWedge code then 1 else 0) + (if s.fenceNow then 2 else 0))] ++
    beBytes 4 (Nat.min 0xffffffff poisoned)

/-- The words of a wedged port's frame that are not performed, each a dropped failure; a READ has none, and the words of a
discarded load go to no counter (Table FLT-3, R141). -/
def State.dropJob (s : State) (t : TenantId) (j : PortJob) : State :=
  let words := match j.kind with
    | .read _ => []
    | .load g => if s.staging.generation = g then j.left else []
    | .write => j.left
  words.foldl (fun s _ => s.drop t 2) s

/-- The tags of a tenant that `which` names retired: FREE, their requests dropped, their reads not performed (R126, R421). -/
def State.retireTags (s : State) (t : TenantId) (which : HostTag → Bool) : State :=
  (s.modPort t (fun p => { p with tags := p.tags.map (fun g => if which g then HostTag.init else g) })).retireRequests t

/-- A spare grant of a port ended. -/
def State.endGrant (s : State) (t : TenantId) : State :=
  if s.pit.grant = some t then { s with pit := { s.pit with grant := none } } else s

/-- A tenant port wedged: its frames end, and one that is still crossing is absent to its unit (R432, Table FLT-3). -/
def State.wedgePort (s : State) (t : TenantId) : State :=
  let u := (s.tenant t).port.jobs.foldl (fun s j => s.dropJob t j) s
  ((u.retireTags t (fun _ => true)).modPort t (fun p => { p with jobs := [], inFlight := none })).endGrant t

/-- The ring transceiver wedged: no link is driven, ring lock is lost with its event (Table FLT-3). -/
def State.wedgeRing (s : State) : State :=
  let u := (if s.ring.locked then s.loseLock else s).loseMessages
  u.modRing (fun r => { r with laneUp := false, laneDown := false, severedUp := false, severedDown := false, roll := .idle })

/-- The wedge note written (R436). -/
def State.writeNote (s : State) (watchdog : Nat) : State :=
  let note : WedgeNote :=
    { watchdog := watchdog, frame := s.localFrame, powerCycle := s.wb.nv.powerCycle
      otherWedged := s.faults.wedged.toList.any id || s.otherWedge 9
      benchFenced := s.benches.toList.any (fun b => decide (b.state = .fenced)) || s.fenceNow }
  { s with faults := { s.faults with note := some note } }

/-- The outcome of Table FLT-3 for each island. -/
def State.wedgeOutcome (s : State) (i : SharedIsland) (watchdog : Nat) (cut : CommitCut) : State :=
  match i with
  | .pit => s.poisonPit
  | .ring => s.wedgeRing
  | .port t => s.wedgePort t
  | .audio => s.stopAudio
  | .sense => s.removeExcitation
  | .weighbridge => (s.writeNote watchdog).poisonWeighbridge cut

/-- The requests of the ring's benches that a wedge of the transceiver fails: those queued and those in flight. -/
def State.ringOutstanding (s : State) : Nat :=
  s.ring.rwrQ.toList.foldl (fun n q => n + q.length) (s.ring.slots.toList.filterMap id).length

/-- The requests of a port that its wedge ends: the words still to perform, and a frame that is still crossing. -/
def Port.outstanding (p : Port) : Nat :=
  p.jobs.foldl (fun n j => n + j.left.length) (if p.inFlight.any (fun g => g.1.crosses) then 1 else 0)

/-- The accesses or requests completed with poison in the wedging frame (WEDGE bytes 15 to 18, Table FLT-5, log 25). -/
def State.poisoned (s : State) (i : SharedIsland) : Nat :=
  match i with
  | .pit => s.pitOutstanding
  | .ring => s.ringOutstanding
  | .port t => (s.tenant t).port.outstanding
  | _ => 0

/-- A shared island declared wedged: its outcome, and a WEDGE entry; that of the weighbridge is never written (R434, R435). `cut` is
where a wedge of the weighbridge cuts its writer. -/
def State.wedge (s : State) (i : SharedIsland) (watchdog : Nat) (cut : CommitCut) : State :=
  let payload := s.wedgePayload i.code watchdog (s.poisoned i)
  let u := s.startUnitFault.wedgeOutcome i watchdog cut
  let v := { u with faults := { u.faults with wedged := vmod u.faults.wedged (i.code - 1) (fun _ => true) } }
  v.logPart 0x10 payload

/-- Whether an island of a lower code is still to be wedged at this strobe: the entries are queued in ascending code (R435). -/
def State.wedgeBefore (s : State) (code : Nat) : Bool :=
  (List.range 9).any (fun i => decide (1 ≤ i) && decide (i < code) && s.wedgeFound i) || decide (1 < code) && s.stallFound

/-- ISLAND_WEDGE: W1 has counted 16 consecutive failed handshakes of a shared island (R430, R434, R435). -/
def State.islandWedge (s : State) (i : SharedIsland) (cut : CommitCut) : State :=
  if s.running = true ∧ s.clock.strobed = true ∧ s.wedgeFound i.code = true ∧ s.wedgeBefore i.code = false then s.wedge i 1 cut
  else s

/-- PIT_PROGRESS_WEDGE: W2 has counted 16 frames without an access (R430). -/
def State.pitProgressWedge (s : State) : State :=
  if s.running = true ∧ s.clock.strobed = true ∧ s.stallFound = true then s.wedge .pit 2 .none else s

/-- NV_WRITER_WEDGE: a commit in progress for 2.0 ms, or one that the NV memory does not answer (R430). -/
def State.nvWriterWedge (s : State) (us : Nat) (answers : Bool) (cut : CommitCut) : State :=
  if s.logLive = true ∧ s.nextQueued.isSome = true ∧ (2000 ≤ us ∨ answers = false) then s.wedge .weighbridge 3 cut else s

/-! ### The commands -/

/-- BENCH_FENCE (R433). -/
def execBenchFence (b : BenchId) (s : State) : Out := .next (s.benchFence b)

/-- ISLAND_WEDGE (R434). -/
def execIslandWedge (i : SharedIsland) (cut : CommitCut) (s : State) : Out := .next (s.islandWedge i cut)

/-- PIT_PROGRESS_WEDGE (R430). -/
def execPitProgressWedge (s : State) : Out := .next s.pitProgressWedge

/-- NV_WRITER_WEDGE (R430). -/
def execNvWriterWedge (us : Nat) (answers : Bool) (cut : CommitCut) (s : State) : Out := .next (s.nvWriterWedge us answers cut)

end Sys2Proof.Machine
end

