-- ==== Sys2Proof/Machine/Port.lean ====
section
/-! DEFINITION. Sys2Proof/Machine/Port.lean: the tenant ports: a host frame from CSN fall to CSN rise, its checks, its reply
stream, and what each op does (spec/05_tenant_port.md). -/
namespace Sys2Proof.Machine

/-- Which ops a state other than AWAIT_IMAGE and OPERATING serves, and an absent tenant's port (Table PWR-4, R125). -/
structure Serves where
  every : Bool
  held : Bool
  absent : Bool
  deriving DecidableEq, Repr

/-- STATUS. -/
def Serves.status : Serves := { every := true, held := true, absent := true }

/-- LOG HEAD, ENTRIES, EXPORT and COLLECT, and ATTEST. -/
def Serves.evidence : Serves := { every := false, held := true, absent := true }

/-- FETCH, EVENTS, TIME READ and SELFTEST. -/
def Serves.open_ : Serves := { every := false, held := false, absent := true }

/-- Every other op. -/
def Serves.tenant : Serves := { every := false, held := false, absent := false }

/-- What the rows of the op table say of one op before its own checks: the op nibble, the payload words it needs, where it is
served (Table TPT-6). -/
structure OpSpec where
  op : Nat
  need : Nat
  serves : Serves
  deriving DecidableEq, Repr

/-- What an op comes to: accepted or not, its result code, its reply words, the state with its effect, and what waits for the
outcome to become final (R108, R114). -/
structure Verdict where
  accepted : Bool
  code : Byte
  reply : List Word
  next : State
  flight : Option InFlight
  deriving DecidableEq, Repr

/-- A refusal: no effect, no reply words (R114). -/
def State.refuse (s : State) (code : Byte) : Verdict :=
  { accepted := false, code := code, reply := [], next := s, flight := none }

/-- An acceptance that is final at the CSN rise. -/
def State.accept (s : State) (reply : List Word) : Verdict :=
  { accepted := true, code := 0, reply := reply, next := s, flight := none }

/-- An acceptance judged at the CSN rise whose outcome becomes final once the unit has taken it. -/
def State.acceptLater (s : State) (code : Byte) (reply : List Word) : Verdict :=
  { accepted := true, code := code, reply := reply, next := s, flight := some (.judged code) }

/-- A request that reaches its unit when the outcome becomes final (R242, R249, R296). -/
def State.acceptCross (s : State) (g : InFlight) : Verdict :=
  { accepted := true, code := 0, reply := [], next := s, flight := some g }

/-! ### The frame -/

/-- Whether the tenant's port ignores CSN: POR or STRAP, TRST_N_x recognised low, or the port wedged (R52, R126,
Table FLT-3). -/
def State.portIgnores (s : State) (x : TenantId) : Bool :=
  decide (s.power.state = .por) || decide (s.power.state = .strap) || (s.tenant x).trstLow || s.isWedged (3 + x.val)

/-- Whether the tenant is absent (R53, R125). -/
def State.absent (s : State) (x : TenantId) : Bool := !s.present x

/-- S[30] (R107, Table PWR-4). -/
def State.portBusy (s : State) (x : TenantId) : Bool :=
  !s.running || (s.tenant x).port.inFlight.isSome || (s.tenant x).underReset

/-- The free write credits that the port reports: 0 for an absent tenant (R125). -/
def State.credits (s : State) (x : TenantId) : Nat := if s.absent x then 0 else (s.tenant x).port.credits

/-- The status word S (Table TPT-4). -/
def State.statusWord (s : State) (x : TenantId) : Word :=
  let p := (s.tenant x).port
  BitVec.ofBool s.running ++ BitVec.ofBool (s.portBusy x) ++ 0#3 ++ BitVec.ofNat 3 (min 7 (s.credits x)) ++ p.result ++ p.seq

/-- The event word E (R103, R125). -/
def State.eventWord (s : State) (x : TenantId) : Word := if s.absent x then 0 else (s.tenant x).events

/-- Whether an op is served in the part's state, and the port is not busy for it (step 2 of Table TPT-11a). -/
def State.served (s : State) (x : TenantId) (v : Serves) (f : HostFrame) (hasReply : Bool) : Bool :=
  let p := s.tenant x
  (match s.power.state with
   | .awaitImage => true
   | .operating => true
   | .heldStrap => v.every || v.held
   | .heldClock => v.every || v.held
   | _ => v.every) &&
    (v.every || !p.port.inFlight.isSome) && (v.every || !p.underReset) && (!hasReply || decide (400 ≤ f.taNs))

/-- Steps 2 to 4 of Table TPT-11a, and OK. `unknown` tells the op's own conditions of step 3; a frame that meets one, such as a
reserved sub-op, has no reply whose words could come too early. -/
def State.frameCheck (s : State) (x : TenantId) (f : HostFrame) (o : OpSpec) (hasReply unknown : Bool) : Byte :=
  if s.served x o.serves f (hasReply && !unknown) = false then 0x03
  else if unknown || decide (f.payload.length < o.need) then 0x02
  else if s.absent x && !o.serves.absent then 0x09
  else 0x00

/-- The reply stream (R103, Table TPT-3): S, E, the reply words, the CRC, then zeros, for as long as the frame has edges; a frame of
fewer than 64 shows what it shifts out of S and E. -/
def State.replyStream (s : State) (x : TenantId) (f : HostFrame) (reply : List Word) : List Word :=
  let ws := s.statusWord x :: s.eventWord x :: padTo 0 f.count reply
  padTo 0 ((f.edges + 31) / 32) (ws ++ [crc32cWords ws])

/-- The counters and S after a frame that is final, or after one that is not yet (R107, R108, Table TPT-7). -/
def Port.settleFrame (p : Port) (v : Verdict) (seq : Half) : Port :=
  let p := if v.accepted && !v.flight.any InFlight.crosses then { p with accepted := p.accepted + 1 }
    else if v.code = 0x01 then { p with crcBad := satInc16 p.crcBad } else p
  match v.flight with
  | some g => { p with inFlight := some (g, seq), overtaken := false }
  | none => { p with result := v.code, seq := seq, overtaken := p.inFlight.isSome }

/-- What an intact frame comes to: the first refusal of steps 2 to 4, else the op's verdict. -/
def State.judge (s : State) (x : TenantId) (f : HostFrame) (o : OpSpec) (hasReply unknown : Bool) (act : State → Verdict) :
    Verdict :=
  let code := s.frameCheck x f o hasReply unknown
  if code = 0 then act s else s.refuse code

/-- One host frame: ignored, refused with CRC_BAD although its reply was sent, or judged (R105, R106, R114). `act` judges
steps 5 to 9 and the effect. -/
def State.hostFrame (s : State) (x : TenantId) (f : HostFrame) (o : OpSpec) (hasReply unknown : Bool)
    (act : State → Verdict) : State :=
  if s.portIgnores x then s
  else if f.edges < 64 then s.modPort x (fun p => { p with reply := s.replyStream x f [] })
  else
    let w := s.judge x f o hasReply unknown act
    let v := if f.intact o.op then w else { s.refuse 0x01 with reply := w.reply }
    v.next.modPort x (fun p => { p.settleFrame v f.seq with reply := s.replyStream x f v.reply })

/-! ### STATUS, POLL, RESULT, EVENTS, TIME -/

/-- A bench state as a tenant sees it in status block word 1 (Table TPT-7). -/
def State.benchNibble (s : State) (x : TenantId) (b : BenchId) : Nat := if s.owns x b then (s.bench b).state.code else 15

/-- A tag state code (Table TPT-7). -/
def TagState.code (t : TagState) : Nat := match t with | .free => 0 | .pending => 1 | .ready => 2 | .fetched => 3

/-- The status block (Table TPT-7). -/
def State.statusBlock (s : State) (x : TenantId) : List Word :=
  let t := s.tenant x
  let p := t.port
  [BitVec.ofNat 32 (s.power.state.code * 2 ^ 28 + x.val * 2 ^ 26 + bitAt (s.absent x) 25 + bitAt s.straps.devel 24 +
     (s.ownedMask x).toNat * 2 ^ 16 + s.clock.plan.toNat / 2 ^ 13 % 8 * 2 ^ 8 + bitAt t.image.isSome 0),
   BitVec.ofNat 32 ((List.finRange 8).foldl (fun a b => a + s.benchNibble x b * 16 ^ b.val) 0)] ++
  counterWords s.localFrame ++
  [BitVec.ofNat 32 (s.credits x * 2 ^ 20 +
     (List.range 8).foldl (fun a i => a + (vget p.tags i HostTag.init).state.code * 4 ^ i) 0),
   p.lateCode ++ p.lateCount ++ p.lateSeq,
   BitVec.ofNat 32 (bitAt (s.staging.holder == some x) 31 +
     bitAt (s.staging.holder.isSome && s.staging.holder != some x) 30 + t.verifyCode.toNat * 2 ^ 16 +
     (if s.staging.holder = some x then s.staging.nextSeq.toNat else 0)),
   p.crcBad ++ p.accepted]

/-- STATUS (R110). -/
def State.hostStatus (s : State) (x : TenantId) (f : HostFrame) : State :=
  s.hostFrame x f ⟨0x0, 0, Serves.status⟩ true false (fun s => s.accept (s.statusBlock x))

/-- One byte of POLL word 0: a flag of the channels from the host to each owned bench. -/
def State.pollByte (s : State) (x : TenantId) (p : BenchId → Channel → Bool) : Nat :=
  (List.finRange 8).foldl (fun m b =>
    match s.declaredChannel (channelId (8 + x.val) b.val) with
    | some c => m + bitAt (s.owns x b && p b c) b.val
    | none => m) 0

/-- The return code of the channel from the host to a bench (Table TPT-8). -/
def State.pollCode (s : State) (x : TenantId) (b : Nat) : Half :=
  match s.declaredChannel (channelId (8 + x.val) b) with
  | some c => if s.owns x (benchOf b) then c.code else 0
  | none => 0

/-- The POLL reply (Table TPT-8, R303). -/
def State.pollWords (s : State) (x : TenantId) : List Word :=
  [BitVec.ofNat 32 (s.pollByte x (fun b _ => s.benchAbsent b) * 2 ^ 24 + s.pollByte x (fun _ c => c.timedOut) * 2 ^ 16 +
     s.pollByte x (fun _ c => c.done) * 2 ^ 8 + s.pollByte x (fun _ c => c.full)),
   BitVec.ofNat 32 ((List.finRange 8).foldl (fun m b =>
     m + bitAt (s.owns x b && (s.channel (channelId b.val (8 + x.val))).any (·.full)) b.val) 0)] ++
  (List.range 4).map (fun i => halves (s.pollCode x (2 * i + 1)) (s.pollCode x (2 * i)))

/-- POLL (R303). -/
def State.hostPoll (s : State) (x : TenantId) (f : HostFrame) : State :=
  s.hostFrame x f ⟨0x6, 0, Serves.tenant⟩ true false (fun s => s.accept (s.pollWords x))

/-- Whether the active image declares a result slot (R307). -/
def State.declaresSlot (s : State) (b : BenchId) (i : Nat) : Bool :=
  (s.benchImage b).any (fun m => m.results.any (fun d => decide (d.bench = b) && d.slots.getLsbD i))

/-- STALE (R305). -/
def Bench.stale (x : Bench) (r : ResultSlot) : Bool := decide (r.seq = 0) || !x.active

/-- A slot as a RESULT reads it: 0 where the image does not declare it (R304 to R307). -/
def State.resultSlot (s : State) (b : BenchId) (i : Nat) : ResultSlot :=
  if s.declaresSlot b i then vget (s.bench b).results i ⟨0, 0, false⟩ else ⟨0, 0, false⟩

/-- The k-th slot of a RESULT's reply: as it stands, unless it has changed since the end of H1 (R112, R308). -/
def State.repliedSlot (s : State) (b : BenchId) (first : Nat) (seen : List (Option SlotSeen)) (k : Nat) : ResultSlot :=
  match seen.getD k none with
  | none => s.resultSlot b (first + k)
  | some q => { value := q.value, seq := q.seq, fresh := q.fresh }

/-- The two words of a RESULT slot (Table TPT-6, R304 to R307). -/
def State.resultWords (s : State) (b : BenchId) (r : ResultSlot) : List Word :=
  [r.value, halves r.seq (BitVec.ofNat 16 (bitAt ((s.bench b).stale r) 1 + bitAt r.fresh 0))]

/-- FRESH cleared on the slots of a CONSUME whose sequence is still the one that the reply carried (R112, R308). A slot that the frame
names is read even where its count cuts the reply short of it (DEDUCED, log 51). -/
def Bench.consume (x : Bench) (first : Nat) (carried : List Half) : Bench :=
  (carried.zipIdx).foldl (fun x q => { x with results := vmod x.results (first + q.2) (fun r =>
    { r with fresh := r.fresh && decide (r.seq ≠ q.1) }) }) x

/-- RESULT (R112, R308): `seen` holds, by place in the reply, the slots that were otherwise at the end of H1. -/
def State.hostResult (s : State) (x : TenantId) (f : HostFrame) (seen : List (Option SlotSeen)) : State :=
  s.hostFrame x f ⟨0xa, 0, Serves.tenant⟩ true false (fun s =>
    let b := benchOf (f.bits 24 3)
    let first := f.bits 8 6
    let n := f.bits 0 4 + 1
    if s.owns x b = false then s.refuse 0x08
    else if 64 < first + n then s.refuse 0x06
    else
      let rs := (List.range n).map (s.repliedSlot b first seen)
      (if f.h1.getLsbD 31 then s.modBench b (fun y => y.consume first (rs.map (·.seq))) else s).accept
        (rs.flatMap (s.resultWords b)))

/-- The image's event mask, 0 without one (R312). -/
def State.eventMask (s : State) (x : TenantId) : Word := ((s.tenant x).image.map (·.eventMask)).getD 0

/-- EVENTS (R113). -/
def State.hostEvents (s : State) (x : TenantId) (f : HostFrame) : State :=
  s.hostFrame x f ⟨0xb, 1, Serves.open_⟩ true false (fun s =>
    let e := s.eventWord x
    (s.modTenant x (fun t => { t with events := t.events &&& ~~~(e &&& f.word 0) })).accept
      [e, if s.absent x then 0 else s.eventMask x])

/-- TIME READ (Table TPT-8). -/
def State.hostTimeRead (s : State) (x : TenantId) (f : HostFrame) : State :=
  s.hostFrame x f ⟨0xe, 0, Serves.open_⟩ true (decide (1 < f.sub 4)) (fun s =>
    s.accept (counterWords s.localFrame ++ counterWords s.ringFrame ++
      [s.ring.todSeconds, s.todWord, s.ring.todEpoch, s.ring.epoch, s.wb.nv.powerCycle]))

/-- TIME MARK (R111, R402): taken from tenant 0 on a master or a standalone part, for a ring frame of at least F + 4. -/
def State.hostTimeMark (s : State) (x : TenantId) (f : HostFrame) : State :=
  let fos := (f.word 3).extractLsb' 16 16
  s.hostFrame x f ⟨0xe, 4, Serves.tenant⟩ false (decide (1 < f.sub 4) || decide (s.ff ≤ fos.toNat)) (fun s =>
    let m := (f.word 0).toNat * 2 ^ 32 + (f.word 1).toNat
    if x ≠ 0 ∨ (s.isMaster || s.isStandalone) = false then s.refuse 0x17
    else if m < s.align + 4 then s.refuse 0x18
    else ({ s with ring := { s.ring with mark := some { m := m, seconds := f.word 2, frame := fos } } }).acceptLater 0 [])

/-! ### READ, WRITE, LOAD and the tags -/

/-- Whether a lane mask is one of Table TPT-9. -/
def laneValid (m : BitVec 4) : Bool := [1#4, 2#4, 4#4, 8#4, 3#4, 12#4, 15#4].contains m

/-- A tag of the port. -/
def State.hostTag (s : State) (x : TenantId) (f : HostFrame) : HostTag := vget (s.tenant x).port.tags f.tag.toNat HostTag.init

/-- Whether the tag is outstanding: PENDING or READY (R115). -/
def HostTag.outstanding (g : HostTag) : Bool := decide (g.state = .pending) || decide (g.state = .ready)

/-- A job put at the end of the port's frames. -/
def State.addJob (s : State) (x : TenantId) (j : PortJob) : State :=
  s.modPort x (fun p => { p with jobs := p.jobs ++ [{ j with id := p.nextJob }], nextJob := p.nextJob + 1 })

/-- READ accepted: its tag PENDING and its words to perform, or all words poisoned by a wedged pit (R115, R117). -/
def State.startRead (s : State) (x : TenantId) (f : HostFrame) (d : WindowDecl) (n : Nat) : State :=
  let u := s.modPort x (fun p => { p with tags := vmod p.tags f.tag.toNat (fun _ =>
    { state := .pending, op := .read, data := [], code := 0, marks := (⟨0, 0⟩, ⟨0, 0⟩) }) })
  let j : PortJob :=
    { id := 0, kind := .read f.tag.toNat, window := d.id, base := d.base, length := d.length, offset := f.bits 8 18,
      mask := f.mask, left := List.replicate n 0, got := [], merge := none, code := 0, seq := f.seq, stale := false,
      credit := false }
  if s.isWedged 1 then u.poisonJob x j else u.addJob x j

/-- READ (R117, R120, R122). -/
def State.hostRead (s : State) (x : TenantId) (f : HostFrame) : State :=
  s.hostFrame x f ⟨0x2, 0, Serves.tenant⟩ false false (fun s =>
    let n := f.bits 0 5 + 1
    let w := s.checkWindow (8 + x.val) (f.bits 26 6) rightRead (f.bits 8 18) n
    if laneValid f.mask = false then s.refuse 0x07
    else if (s.hostTag x f).outstanding then s.refuse 0x0e
    else if w.1 ≠ 0 then s.refuse w.1
    else (s.startRead x f w.2 n).acceptLater 0 [])

/-- A credit taken and the frame's words put in order (R118). -/
def State.startWords (s : State) (x : TenantId) (j : PortJob) : State :=
  let u := s.modPort x (fun p => { p with credits := p.credits - 1 })
  if s.isWedged 1 then u.poisonJob x j else u.addJob x j

/-- WRITE (R118 to R122). -/
def State.hostWrite (s : State) (x : TenantId) (f : HostFrame) : State :=
  s.hostFrame x f ⟨0x4, 1, Serves.tenant⟩ false false (fun s =>
    let w := s.checkWindow (8 + x.val) (f.bits 26 6) rightWrite (f.bits 8 18) f.payload.length
    if laneValid f.mask = false then s.refuse 0x07
    else if (s.tenant x).port.credits = 0 then s.refuse 0x04
    else if w.1 ≠ 0 then s.refuse w.1
    else
      (s.startWords x
        { id := 0, kind := .write, window := w.2.id, base := w.2.base, length := w.2.length, offset := f.bits 8 18,
          mask := f.mask, left := f.payload, got := [], merge := none, code := 0, seq := f.seq, stale := false,
          credit := true }).accept [])

/-- The staged words discarded: the words of accepted LOAD frames still to perform are dropped (R141). -/
def Staging.restart (g : Staging) : Staging :=
  { g with nextSeq := 0, length := 0, phase := .loading, generation := g.generation + 1, nextRead := 0, bad := none,
           misread := [], spoiled := 0, image := none }

/-- The staging area released, its words discarded (R141). -/
def Staging.release (g : Staging) : Staging := { g.restart with holder := none, phase := .idle }

/-- A chunk stored after the words before it (R139). -/
def Staging.chunk (g : Staging) (x : TenantId) (n : Nat) (last : Bool) (frame : Nat) : Staging :=
  { g with holder := some x, nextSeq := g.nextSeq + 1, length := g.length + n, lastLoad := frame,
           phase := if last then .complete else .loading }

/-- LOAD's outcomes in the order of R140: the code and the staging area after it; an accepted chunk starts at `length`. R140 refuses
the holder's LOAD after LAST while its image is 'in verification or installation' and is silent on the wait before verification
(R145): the model refuses it from the acceptance of LAST on, a FIRST chunk with STAGING_BUSY, any other with IMAGE_SEQ_GAP, without
effect (DESIGN CHOICE, log 71). -/
def Staging.load (g : Staging) (x : TenantId) (first last : Bool) (seq n frame : Nat) : Byte × Staging :=
  let closed := !(decide (g.phase = .idle) || decide (g.phase = .loading))
  if first then
    if g.holder.isSome && g.holder != some x || g.holder == some x && closed then (0x14, g)
    else if seq ≠ 0 then (0x0f, g)
    else (0x00, g.restart.chunk x n last frame)
  else if g.holder ≠ some x then (0x0f, g)
  else if closed then (0x0f, g)
  else if seq ≠ g.nextSeq.toNat ∨ g.length = 0 then (0x0f, g.restart)
  else if 262144 < g.length + n then (0x12, g.restart)
  else (0x00, g.chunk x n last frame)

/-- LOAD (R139, R140). -/
def State.hostLoad (s : State) (x : TenantId) (f : HostFrame) : State :=
  s.hostFrame x f ⟨0x1, 1, Serves.tenant⟩ false false (fun s =>
    if (s.tenant x).port.credits = 0 then s.refuse 0x04
    else
      let n := f.payload.length
      let g := s.staging.load x (f.h1.getLsbD 31) (f.h1.getLsbD 30) (f.bits 0 13) n s.clock.frame
      let u := { s with staging := g.2 }
      if g.1 ≠ 0 then u.refuse g.1
      else
        (u.startWords x
          { id := 0, kind := .load g.2.generation, window := 0, base := stagingBase, length := 0,
            offset := g.2.length - n, mask := 0xf, left := f.payload, got := [], merge := none, code := 0, seq := f.seq,
            stale := false, credit := true }).accept [])

/-- The code of a collect: the completion code takes the place of OK and of REPEAT (R116). -/
def HostTag.collectCode (g : HostTag) : Byte := if g.code ≠ 0 then g.code else if g.state = .fetched then 0x1d else 0

/-- A collect of the words from an offset; a range that includes the last data word makes the tag FETCHED, and the first time
an EXPORT's raises the export marks (R116, R418, Table TPT-12a). A tag without a data word has no last one: any accepted collect
makes it FETCHED (DEDUCED, log 50). -/
def State.collect (s : State) (x : TenantId) (f : HostFrame) (off : Nat) (only : TagOp → Bool) : Verdict :=
  let g := s.hostTag x f
  if g.state = .free ∨ only g.op = false then s.refuse 0x0d
  else if g.state = .pending then s.refuse 0x0e
  else
    let n := g.data.length
    let whole := decide (n = 0) || decide (off < n) && decide (n ≤ off + f.count)
    let u := if whole then
        s.modPort x (fun p => { p with tags := vmod p.tags f.tag.toNat (fun g => { g with state := .fetched }) }) else s
    let v := if whole && decide (g.state = .ready) then u.raiseMarks g.marks else u
    { accepted := true, code := g.collectCode, reply := g.data.drop off, next := v, flight := none }

/-- FETCH collects any tag (R116). -/
def State.hostFetch (s : State) (x : TenantId) (f : HostFrame) : State :=
  s.hostFrame x f ⟨0x3, 0, Serves.open_⟩ true false (fun s => s.collect x f (f.bits 0 12) (fun _ => true))

/-! ### Mailbox ops -/

/-- The in-flight op of a POST (R292, R296). -/
def State.hostPost (s : State) (x : TenantId) (f : HostFrame) : State :=
  s.hostFrame x f ⟨0x5, 1, Serves.tenant⟩ false (decide (1 < f.sub 2)) (fun s =>
    let b := benchOf (f.bits 0 3)
    if s.owns x b = false then s.refuse 0x08 else s.acceptCross (.post b (f.word 0)))

/-- WITHDRAW (R294, R296). -/
def State.hostWithdraw (s : State) (x : TenantId) (f : HostFrame) : State :=
  s.hostFrame x f ⟨0x5, 0, Serves.tenant⟩ false (decide (1 < f.sub 2)) (fun s =>
    let b := benchOf (f.bits 0 3)
    if s.owns x b = false then s.refuse 0x08 else s.acceptCross (.withdraw b))

/-- The reply words of a TAKE: the notice, and whether the channel is EXPLICIT (Table TPT-6, R302). -/
def noticeReply (c : Option Channel) (notice : Word) : List Word :=
  [notice, if c.any (fun c => c.explicit && !c.residual) then 0x80000000#32 else 0]

/-- TAKE, judged at the CSN rise: it takes the posting that its reply carried, `seen`, while that still shows; a reply that was empty,
or one whose posting has ended, has no effect (R297, R302). -/
def State.hostTake (s : State) (x : TenantId) (f : HostFrame) (seen : Option NoticeSeen) : State :=
  s.hostFrame x f ⟨0x7, 0, Serves.tenant⟩ true false (fun s =>
    let b := benchOf (f.bits 0 3)
    let c := s.channel (channelId b.val (8 + x.val))
    if s.owns x b = false then s.refuse 0x08
    else
      match seen with
      | none => s.refuse (if c.isNone then 0x0c else 0x0b)
      | some n =>
        if c.any (fun c => c.visible && decide (c.posting = n.posting)) then
          (s.takeNotice b.val (8 + x.val)).2.acceptLater 0 (noticeReply c ((c.map (·.notice)).getD 0))
        else { s.refuse 0x0b with reply := noticeReply c n.notice })

/-- ACK, judged at the CSN rise (R295, R297). -/
def State.hostAck (s : State) (x : TenantId) (f : HostFrame) : State :=
  s.hostFrame x f ⟨0x8, 1, Serves.tenant⟩ false false (fun s =>
    let b := benchOf (f.bits 0 3)
    if s.owns x b = false then s.refuse 0x08
    else
      let e := 8 + x.val
      let a := s.ackNotice b.val e ((f.word 0).setWidth 16) (s.writeBound e 0)
      if a.1 = 0 then a.2.acceptLater 0 [] else s.refuse a.1)

/-! ### COMMIT and GO -/

/-- Whether every bench of a mask is the tenant's (step 6 of Table TPT-11a). -/
def State.ownsMask (s : State) (x : TenantId) (m : Byte) : Bool := (maskBenches m).all (s.owns x)

/-- COMMIT STAGE (R242, R243). -/
def State.hostCommitStage (s : State) (x : TenantId) (f : HostFrame) : State :=
  s.hostFrame x f ⟨0x9, 1, Serves.tenant⟩ false (decide (1 < f.sub 2)) (fun s =>
    let b := benchOf (f.bits 27 3)
    if s.owns x b = false then s.refuse 0x08 else s.acceptCross (.stage b (f.bits 0 12) f.payload))

/-- COMMIT GROUP (R111, R245). -/
def State.hostCommitGroup (s : State) (x : TenantId) (f : HostFrame) : State :=
  let m : Byte := f.h1.extractLsb' 16 8
  s.hostFrame x f ⟨0x9, (maskBenches m).length, Serves.tenant⟩ false (decide (1 < f.sub 2) || decide (m = 0)) (fun s =>
    if s.ownsMask x m = false then s.refuse 0x08 else s.acceptCross (.group m f.payload))

/-- A GO that meets the condition of an ARMED bench with ON_GO two strobes on; a later one does not put that off (R69). -/
def State.goBench (s : State) (b : BenchId) : State :=
  let onGo := (s.benchImage b).any (fun i => i.releases.any (fun r => decide (r.bench = b) && decide (r.cond = .onGo)))
  if (s.bench b).state = .armed ∧ onGo = true ∧ (s.bench b).met = none ∧ (s.bench b).goDue = none then
    s.modBench b (fun y => { y with goDue := some (s.clock.frame + 2) })
  else s

/-- SPECIAL GO (R69, R111). -/
def State.hostGo (s : State) (x : TenantId) (f : HostFrame) : State :=
  let m : Byte := f.h1.extractLsb' 0 8
  s.hostFrame x f ⟨0xf, 0, Serves.tenant⟩ false (decide (3 < f.sub 4) || decide (m = 0)) (fun s =>
    if s.ownsMask x m = false then s.refuse 0x08
    else if (maskBenches m).any s.benchAbsent then s.refuse 0x09
    else ((maskBenches m).foldl State.goBench s).acceptLater 0 [])

/-! ### LOG, ATTEST and SPECIAL -/

/-- A tagged request of the weighbridge (R115, R421). -/
def State.tagged (s : State) (x : TenantId) (f : HostFrame) (op : TagOp) (q : WbRequest) : Verdict :=
  if (s.hostTag x f).outstanding then s.refuse 0x0e else (s.request x f.tag.toNat op q).acceptLater 0 []

/-- LOG HEAD (R422). -/
def State.hostLogHead (s : State) (x : TenantId) (f : HostFrame) : State :=
  s.hostFrame x f ⟨0xc, 0, Serves.evidence⟩ false f.logUnknown (fun s => s.tagged x f .log .head)

/-- The pair that a sequence word and an era word name (Table TPT-10). -/
def pairOf (seq era : Word) : SeqPair := { era := era.setWidth 16, seq := seq }

/-- LOG ENTRIES (R423). -/
def State.hostLogEntries (s : State) (x : TenantId) (f : HostFrame) : State :=
  s.hostFrame x f ⟨0xc, 2, Serves.evidence⟩ false f.logUnknown (fun s =>
    s.tagged x f .log (.entries (pairOf (f.word 0) (f.word 1)) (f.bits 0 4 + 1)))

/-- LOG EXPORT (R423). -/
def State.hostLogExport (s : State) (x : TenantId) (f : HostFrame) : State :=
  s.hostFrame x f ⟨0xc, 10, Serves.evidence⟩ false f.logUnknown (fun s =>
    s.tagged x f .exportLog (.exportLog (pairOf (f.word 0) (f.word 9)) (f.bits 0 4 + 1) ((f.payload.drop 1).take 8)))

/-- LOG APPEND (R416, R420). A reserved sub-op is refused as such wherever the other sub-ops of LOG are served (R110, log 10). Table
TPT-11a names no step for the host kind: the model judges it after BENCH_ABSENT and before the budget, the queue and a wedged
weighbridge (DESIGN CHOICE, log 74). -/
def State.hostLogAppend (s : State) (x : TenantId) (f : HostFrame) : State :=
  let kind : Byte := (f.word 0).extractLsb' 24 8
  s.hostFrame x f ⟨0xc, 8, if f.logUnknown then Serves.evidence else Serves.tenant⟩ false f.logUnknown (fun s =>
    if kind.toNat < 0x40 ∨ 0x7f < kind.toNat then s.refuse 0x02
    else
      let a := s.appendEntry x false (s.source 2 x.val) kind (wordsToBytes ((f.payload.drop 1).take 7))
      if a.1 = 0 then a.2.2.acceptLater 0 [] else a.2.2.refuse a.1)

/-- LOG COLLECT (R116). -/
def State.hostLogCollect (s : State) (x : TenantId) (f : HostFrame) : State :=
  s.hostFrame x f ⟨0xc, 0, Serves.evidence⟩ true f.logUnknown (fun s =>
    s.collect x f (f.bits 0 12) (fun o => decide (o = .log) || decide (o = .exportLog)))

/-- ATTEST REQUEST (R422). -/
def State.hostAttestRequest (s : State) (x : TenantId) (f : HostFrame) : State :=
  s.hostFrame x f ⟨0xd, 8, Serves.evidence⟩ false f.attestUnknown (fun s =>
    s.tagged x f .attest (.attest (f.payload.take 8)))

/-- ATTEST COLLECT (R116). -/
def State.hostAttestCollect (s : State) (x : TenantId) (f : HostFrame) : State :=
  s.hostFrame x f ⟨0xd, 0, Serves.evidence⟩ true f.attestUnknown (fun s =>
    s.collect x f (f.bits 0 12) (fun o => decide (o = .attest)))

/-- A PROVISION step: refused with PROV_LOCKED while provisioning is closed, else a tagged request (R427). -/
def State.provision (s : State) (x : TenantId) (f : HostFrame) (q : WbRequest) : Verdict :=
  if (s.hostTag x f).outstanding then s.refuse 0x0e
  else if s.provisioningOpen = false then s.refuse 0x19
  else s.tagged x f .provision q

/-- PROVISION IDENTIFY (R427). -/
def State.hostProvisionIdentify (s : State) (x : TenantId) (f : HostFrame) : State :=
  s.hostFrame x f ⟨0xf, 0, Serves.tenant⟩ false f.specialUnknown (fun s => s.provision x f .identify)

/-- PROVISION SLOT (R427). -/
def State.hostProvisionSlot (s : State) (x : TenantId) (f : HostFrame) : State :=
  s.hostFrame x f ⟨0xf, 9, Serves.tenant⟩ false f.specialUnknown (fun s =>
    s.provision x f (.slot ((f.word 0).toNat % 4) ((f.payload.drop 1).take 8)))

/-- PROVISION FLOOR (R427). -/
def State.hostProvisionFloor (s : State) (x : TenantId) (f : HostFrame) : State :=
  s.hostFrame x f ⟨0xf, 2, Serves.tenant⟩ false f.specialUnknown (fun s =>
    s.provision x f (.floor (tenantOf (f.word 0).toNat) (f.word 1)))

/-- LOCK (R111, R427, R428). -/
def State.hostLock (s : State) (x : TenantId) (f : HostFrame) : State :=
  s.hostFrame x f ⟨0xf, 1, Serves.tenant⟩ false (f.specialUnknown || decide (f.word 0 ≠ 0x4c4f434b)) (fun s =>
    if s.provisioningOpen = false then s.refuse 0x19 else (s.lockOtp x).acceptLater 0 [])

/-- SELFTEST (R110). -/
def State.hostSelftest (s : State) (x : TenantId) (f : HostFrame) : State :=
  s.hostFrame x f ⟨0xf, 0, Serves.open_⟩ false f.specialUnknown (fun s => s.tagged x f .selftest .selftest)

/-! ### The outcome becomes final -/

/-- What a request does when it reaches its unit, and its code (R242, R249, R296). -/
def State.arrive (s : State) (x : TenantId) (g : InFlight) : Byte × State :=
  let e := 8 + x.val
  match g with
  | .judged code => (code, s)
  | .post b n => s.postNotice e b.val n (s.writeBound e 0)
  | .withdraw b => s.withdrawNotice e b.val
  | .stage b first ws => s.stageCoefs x b first ws
  | .group m crcs => s.requestCommit x m (some crcs)

/-- OUTCOME_FINAL: the frame in flight reaches its unit, and S reports its code, unless a later frame is final already (R107,
R108). -/
def State.outcomeFinal (s : State) (x : TenantId) : State :=
  match (s.tenant x).port.inFlight with
  | none => s
  | some (g, seq) =>
    let a := s.arrive x g
    a.2.modPort x (fun p =>
      { p with inFlight := none, overtaken := false, result := if p.overtaken then p.result else a.1
               seq := if p.overtaken then p.seq else seq
               accepted := if g.crosses && decide (a.1 = 0) then p.accepted + 1 else p.accepted })

/-- OUTCOME_FINAL (R108). -/
def execOutcomeFinal (x : TenantId) (s : State) : Out := .next (s.outcomeFinal x)

end Sys2Proof.Machine
end

