-- ==== Sys2Proof/Machine/HostOps.lean ====
section
/-! DEFINITION. Sys2Proof/Machine/HostOps.lean: the host frames as commands. -/
namespace Sys2Proof.Machine


/-- STATUS (R110). -/
def execStatus (x : TenantId) (f : HostFrame) (s : State) : Out :=
  ifWf (f.whole) s (s.hostStatus x f)

/-- LOAD (R139). -/
def execLoad (x : TenantId) (f : HostFrame) (s : State) : Out :=
  ifWf (f.whole) s (s.hostLoad x f)

/-- READ (R122). -/
def execRead (x : TenantId) (f : HostFrame) (s : State) : Out :=
  ifWf (f.whole) s (s.hostRead x f)

/-- FETCH (R116). -/
def execFetch (x : TenantId) (f : HostFrame) (s : State) : Out :=
  ifWf (f.whole) s (s.hostFetch x f)

/-- WRITE (R118). -/
def execWrite (x : TenantId) (f : HostFrame) (s : State) : Out :=
  ifWf (f.whole) s (s.hostWrite x f)

/-- POST (R292). -/
def execPost (x : TenantId) (f : HostFrame) (s : State) : Out :=
  ifWf (f.whole && f.spells 2 0 (decide (1 < f.sub 2))) s (s.hostPost x f)

/-- WITHDRAW (R294). -/
def execWithdraw (x : TenantId) (f : HostFrame) (s : State) : Out :=
  ifWf (f.whole && f.spells 2 1 (decide (1 < f.sub 2))) s (s.hostWithdraw x f)

/-- POLL (R303). -/
def execPoll (x : TenantId) (f : HostFrame) (s : State) : Out :=
  ifWf (f.whole) s (s.hostPoll x f)

/-- TAKE (R297). -/
def execTake (x : TenantId) (f : HostFrame) (seen : Option NoticeSeen) (s : State) : Out :=
  ifWf (f.whole) s (s.hostTake x f seen)

/-- ACK (R295). -/
def execAck (x : TenantId) (f : HostFrame) (s : State) : Out :=
  ifWf (f.whole) s (s.hostAck x f)

/-- COMMIT_STAGE (R242). -/
def execCommitStage (x : TenantId) (f : HostFrame) (s : State) : Out :=
  ifWf (f.whole && f.spells 2 0 (decide (1 < f.sub 2))) s (s.hostCommitStage x f)

/-- COMMIT_GROUP (R245). -/
def execCommitGroup (x : TenantId) (f : HostFrame) (s : State) : Out :=
  ifWf (f.whole && f.spells 2 1 (decide (1 < f.sub 2))) s (s.hostCommitGroup x f)

/-- RESULT (R112). -/
def execResult (x : TenantId) (f : HostFrame) (seen : List (Option SlotSeen)) (s : State) : Out :=
  ifWf (f.whole) s (s.hostResult x f seen)

/-- EVENTS (R113). -/
def execEvents (x : TenantId) (f : HostFrame) (s : State) : Out :=
  ifWf (f.whole) s (s.hostEvents x f)

/-- LOG_HEAD (R422). -/
def execLogHead (x : TenantId) (f : HostFrame) (s : State) : Out :=
  ifWf (f.whole && f.spells 4 0 f.logUnknown) s (s.hostLogHead x f)

/-- LOG_ENTRIES (R423). -/
def execLogEntries (x : TenantId) (f : HostFrame) (s : State) : Out :=
  ifWf (f.whole && f.spells 4 1 f.logUnknown) s (s.hostLogEntries x f)

/-- LOG_EXPORT (R423). -/
def execLogExport (x : TenantId) (f : HostFrame) (s : State) : Out :=
  ifWf (f.whole && f.spells 4 2 f.logUnknown) s (s.hostLogExport x f)

/-- LOG_APPEND (R420). -/
def execLogAppend (x : TenantId) (f : HostFrame) (s : State) : Out :=
  ifWf (f.whole && f.spells 4 3 f.logUnknown) s (s.hostLogAppend x f)

/-- LOG_COLLECT (R116). -/
def execLogCollect (x : TenantId) (f : HostFrame) (s : State) : Out :=
  ifWf (f.whole && f.spells 4 4 f.logUnknown) s (s.hostLogCollect x f)

/-- ATTEST_REQUEST (R422). -/
def execAttestRequest (x : TenantId) (f : HostFrame) (s : State) : Out :=
  ifWf (f.whole && f.spells 4 0 f.attestUnknown) s (s.hostAttestRequest x f)

/-- ATTEST_COLLECT (R116). -/
def execAttestCollect (x : TenantId) (f : HostFrame) (s : State) : Out :=
  ifWf (f.whole && f.spells 4 4 f.attestUnknown) s (s.hostAttestCollect x f)

/-- TIME_READ (R110). -/
def execTimeRead (x : TenantId) (f : HostFrame) (s : State) : Out :=
  ifWf (f.whole && f.spells 4 0 (decide (1 < f.sub 4))) s (s.hostTimeRead x f)

/-- TIME_MARK (R111). -/
def execTimeMark (x : TenantId) (f : HostFrame) (s : State) : Out :=
  ifWf (f.whole && f.spells 4 1 (decide (1 < f.sub 4))) s (s.hostTimeMark x f)

/-- GO (R69). -/
def execGo (x : TenantId) (f : HostFrame) (s : State) : Out :=
  ifWf (f.whole && f.spells 4 0 (decide (3 < f.sub 4))) s (s.hostGo x f)

/-- PROVISION_IDENTIFY (R427). -/
def execProvisionIdentify (x : TenantId) (f : HostFrame) (s : State) : Out :=
  ifWf (f.whole && f.spells 8 16 f.specialUnknown) s (s.hostProvisionIdentify x f)

/-- PROVISION_SLOT (R427). -/
def execProvisionSlot (x : TenantId) (f : HostFrame) (s : State) : Out :=
  ifWf (f.whole && f.spells 8 17 f.specialUnknown) s (s.hostProvisionSlot x f)

/-- PROVISION_FLOOR (R427). -/
def execProvisionFloor (x : TenantId) (f : HostFrame) (s : State) : Out :=
  ifWf (f.whole && f.spells 8 18 f.specialUnknown) s (s.hostProvisionFloor x f)

/-- LOCK (R428). -/
def execLock (x : TenantId) (f : HostFrame) (s : State) : Out :=
  ifWf (f.whole && f.spells 4 2 (decide (3 < f.sub 4))) s (s.hostLock x f)

/-- SELFTEST (R110). -/
def execSelftest (x : TenantId) (f : HostFrame) (s : State) : Out :=
  ifWf (f.whole && f.spells 4 3 (decide (3 < f.sub 4))) s (s.hostSelftest x f)

end Sys2Proof.Machine
end

