-- ==== Sys2Proof/Machine/ImageFormat.lean ====
section
/-! DEFINITION. Sys2Proof/Machine/ImageFormat.lean: the image container, its records and what they say (R129, R130, R134, R135,
R138 and Tables IMG-1 to IMG-6 of spec/06_program_images.md). -/
namespace Sys2Proof.Machine

/-- One record: the image word of its header, its kind, header bits [23:18], its body (R129). -/
structure ImageRecord where
  pos : Nat
  kind : Nat
  reserved : Nat
  body : List Word
  deriving DecidableEq, Repr

/-- `n` bits of a word from bit `lo`. -/
def field (w : Word) (lo n : Nat) : Nat := (w.extractLsb' lo n).toNat

/-- A word of a record's body; 0 beyond it. -/
def ImageRecord.word (r : ImageRecord) (i : Nat) : Word := r.body.getD i 0

/-- The bench that a record's first word names (Tables IMG-4 to IMG-6). -/
def ImageRecord.bench (r : ImageRecord) : Nat := field (r.word 0) 29 3

/-- The records laid end to end from image word `pos`, and the header of one that overruns the image (R129). -/
def splitRecords (fuel pos : Nat) (ws : List Word) : List ImageRecord × Option Nat :=
  match fuel, ws with
  | 0, _ => ([], none)
  | _ + 1, [] => ([], none)
  | fuel + 1, h :: rest =>
    let n := field h 0 18
    if rest.length < n then ([], some pos)
    else
      let r := splitRecords fuel (pos + 1 + n) (rest.drop n)
      (⟨pos, field h 24 8, field h 18 6, rest.take n⟩ :: r.1, r.2)

/-- Entries of `k` words, each with the image word at which it stands; a rest shorter than `k` is none. -/
def entriesOf (k fuel pos : Nat) (ws : List Word) : List (Nat × List Word) :=
  match fuel with
  | 0 => []
  | fuel + 1 => if ws.length < k ∨ k = 0 then [] else (pos, ws.take k) :: entriesOf k fuel (pos + k) (ws.drop k)

/-- The entries of a record. -/
def ImageRecord.entries (r : ImageRecord) (k : Nat) : List (Nat × List Word) :=
  entriesOf k (r.body.length + 1) (r.pos + 1) r.body

/-- The entries of PORT_MAP: the image word of each, its first word, its routes; and whether they tile the body
(Table IMG-6). -/
def portEntriesOf (fuel pos : Nat) (ws : List Word) : List (Nat × Word × List Word) × Bool :=
  match fuel, ws with
  | 0, ws => ([], ws.isEmpty)
  | _ + 1, [] => ([], true)
  | fuel + 1, w :: rest =>
    let n := field w 0 5
    if rest.length < n then ([], false)
    else
      let r := portEntriesOf fuel (pos + 1 + n) (rest.drop n)
      ((pos, w, rest.take n) :: r.1, r.2)

/-- The entries of a PORT_MAP record. -/
def ImageRecord.ports (r : ImageRecord) : List (Nat × Word × List Word) × Bool :=
  portEntriesOf (r.body.length + 1) (r.pos + 1) r.body

/-! ### Kinds (Table IMG-1) -/

/-- HEADER. -/
def kindHeader : Nat := 0x01

/-- BENCH_PROGRAM. -/
def kindProgram : Nat := 0x02

/-- DELAY_TABLE. -/
def kindDelay : Nat := 0x03

/-- COEF_INIT. -/
def kindCoef : Nat := 0x04

/-- GLIDE_LAWS. -/
def kindLaws : Nat := 0x05

/-- LUT. -/
def kindLut : Nat := 0x06

/-- WINDOWS. -/
def kindWindows : Nat := 0x07

/-- GRANTS. -/
def kindGrants : Nat := 0x08

/-- ACCEPTS. -/
def kindAccepts : Nat := 0x09

/-- CHANNELS. -/
def kindChannels : Nat := 0x0a

/-- RESULTS. -/
def kindResults : Nat := 0x0b

/-- EVENT_MASK. -/
def kindMask : Nat := 0x0c

/-- CLOCK_PLANS. -/
def kindPlans : Nat := 0x0d

/-- BAND_TABLE. -/
def kindBands : Nat := 0x0e

/-- PORT_MAP. -/
def kindPorts : Nat := 0x0f

/-- SENSE_CONFIG. -/
def kindSense : Nat := 0x10

/-- RING_STREAMS. -/
def kindStreams : Nat := 0x11

/-- INBOUND. -/
def kindInbound : Nat := 0x12

/-- RELEASE. -/
def kindRelease : Nat := 0x13

/-- USER_CAL. -/
def kindCal : Nat := 0x14

/-- SIGNATURE. -/
def kindSignature : Nat := 0xff

/-- Whether a kind is one of Table IMG-1. -/
def kindListed (k : Nat) : Bool := (decide (1 ≤ k) && decide (k ≤ 0x14)) || decide (k = kindSignature)

/-! ### What the records say -/

/-- The records of a kind. -/
def ofKind (k : Nat) (rs : List ImageRecord) : List ImageRecord := rs.filter (fun r => decide (r.kind = k))

/-- The step words of a BENCH_PROGRAM body: pairs of words, [63:32] first (Table IMG-4). -/
def stepWords : List Word → List StepWord
  | a :: b :: rest => (a ++ b) :: stepWords rest
  | _ => []

/-- A BENCH_PROGRAM record (Table IMG-4). -/
def ImageRecord.program (r : ImageRecord) : BenchProgram :=
  { bench := benchOf r.bench, divisor := 2 ^ field (r.word 0) 24 2, length := field (r.word 0) 0 14,
    prologue := field (r.word 1) 16 13, main := field (r.word 1) 0 13, steps := stepWords (r.body.drop 3) }

/-- A DELAY_TABLE record (Table IMG-4). -/
def ImageRecord.delays (r : ImageRecord) : DelayTable :=
  { bench := benchOf r.bench
    lines := (r.body.drop 1).map (fun w => { base := field w 16 16, length := field w 0 16 + 1 }) }

/-- A COEF_INIT or LUT record; a LUT is written from 3,072 + 256t on (Table IMG-4). -/
def ImageRecord.coefs (r : ImageRecord) : CoefRange :=
  { bench := benchOf r.bench
    first := if r.kind = kindLut then 3072 + 256 * field (r.word 0) 0 2 else field (r.word 0) 0 12
    values := r.body.drop 1 }

/-- A GLIDE_LAWS record: four laws a word, byte 0 in [31:24] (Table IMG-4). -/
def ImageRecord.laws (r : ImageRecord) : LawRange :=
  { bench := benchOf r.bench, first := field (r.word 0) 0 12, laws := wordsToBytes (r.body.drop 1) }

/-- A WINDOWS entry (Table IMG-5). -/
def windowDecl (e : List Word) : WindowDecl :=
  { id := field (e.getD 0 0) 26 6, base := field (e.getD 0 0) 0 20, length := field (e.getD 1 0) 0 20, rights := e.getD 2 0 }

/-- A GRANTS or ACCEPTS entry (Table IMG-5). -/
def shareDecl (e : List Word) : ShareDecl :=
  { id := field (e.getD 0 0) 26 6, tenant := tenantOf (field (e.getD 0 0) 0 2), rights := e.getD 1 0 }

/-- A CHANNELS entry (Table IMG-5). -/
def channelDecl (w : Word) : ChannelDecl :=
  { id := w.extractLsb' 24 8, explicit := w.getLsbD 23, timeout := w.extractLsb' 0 16 }

/-- A RESULTS entry (Table IMG-5). -/
def resultDecl (e : List Word) : ResultDecl :=
  { bench := benchOf (field (e.getD 0 0) 29 3), slots := e.getD 1 0 ++ e.getD 2 0 }

/-- A BAND_TABLE entry (Table IMG-6). -/
def bandDecl (w : Word) : BandEntry := { band := w.extractLsb' 26 6, lo := field w 10 10, hi := field w 0 10 }

/-- A route word of PORT_MAP (Table IMG-6). -/
def routeDecl (w : Word) : Route :=
  { slot := field w 28 4, second := w.getLsbD 27, bench := benchOf (field w 24 3), ix := field w 0 6 }

/-- A PORT_MAP entry (Table IMG-6). -/
def portDecl (w : Word) (routes : List Word) : PortEntry :=
  { port := ⟨field w 29 3 % 8, Nat.mod_lt _ (by decide)⟩, format := field w 27 2, slots := 2 * 2 ^ field w 24 3,
    width := 16 + 8 * field w 22 2, half := w.getLsbD 21, double := w.getLsbD 20, align := w.getLsbD 19,
    group := field w 16 3, routes := routes.map routeDecl }

/-- A sense channel that a word names in [31:28]. -/
def senseOf (w : Word) : SenseId := ⟨field w 28 4 % 16, Nat.mod_lt _ (by decide)⟩

/-- A SENSE_CONFIG entry (Table IMG-6). -/
def senseDecl (e : List Word) : SenseDecl := { channel := senseOf (e.getD 0 0), w0 := e.getD 0 0, w1 := e.getD 1 0 }

/-- A RING_STREAMS entry (Table IMG-5). -/
def streamDecl (w : Word) : StreamDecl := { bench := benchOf (field w 29 3), cell := field w 0 7 }

/-- An INBOUND entry (Table IMG-5). -/
def inboundDecl (w : Word) : InboundDecl := { id := field w 26 6, any := w.getLsbD 6, source := field w 0 6 }

/-- A RELEASE entry (Table IMG-6). -/
def releaseDecl (e : List Word) : ReleaseDecl :=
  let w := e.getD 0 0
  { bench := benchOf (field w 29 3)
    cond := match field w 20 4 with
      | 1 => .onGo
      | 2 => .onRingLock
      | 3 => .onBench (benchOf (field w 16 3)) (field w 0 16)
      | 4 => .onFrame ((e.getD 1 0).toNat * 2 ^ 32 + (e.getD 2 0).toNat)
      | 5 => .onStart
      | _ => .onVerify }

/-- A USER_CAL entry (Table IMG-6). -/
def calDecl (e : List Word) : CalDecl :=
  { channel := senseOf (e.getD 0 0), gain := ((e.getD 1 0).extractLsb' 16 16).toInt
    offset := ((e.getD 1 0).extractLsb' 0 16).toInt }

/-- A CLOCK_PLANS record (Table IMG-6). -/
def ImageRecord.plans (r : ImageRecord) : PlanSet := { initial := field (r.word 0) 0 3, words := r.body.drop 1 }

/-- Whether the installer reads the record again (R280). -/
def ImageRecord.installed (r : ImageRecord) : Bool := decide (kindProgram ≤ r.kind) && decide (r.kind ≤ kindLut)

/-- The entries of the records of a kind, without the places at which they stand. -/
def entriesIn (rs : List ImageRecord) (kind k : Nat) : List (List Word) :=
  (ofKind kind rs).flatMap (fun r => (r.entries k).map (·.2))

/-- The RELEASE entries with ON_VERIFY for each programmed bench that has none (Table IMG-6). -/
def releasesIn (rs : List ImageRecord) : List ReleaseDecl :=
  let given := (entriesIn rs kindRelease 3).map releaseDecl
  given ++ ((ofKind kindProgram rs).filter (fun p => given.all (fun d => decide (d.bench ≠ benchOf p.bench)))).map
    (fun p => { bench := benchOf p.bench, cond := .onVerify })

/-- The image that the words spell. The first record is HEADER and the last SIGNATURE (Tables IMG-2 and IMG-3); the digest is
SHA-256 of all but the last 16 words (R131). -/
def imageOf (ws : List Word) (rs : List ImageRecord) : Image :=
  let head := (ofKind kindHeader rs).headD ⟨0, 0, 0, []⟩
  let sign := (ofKind kindSignature rs).getLastD ⟨0, 0, 0, []⟩
  let words := fun k => (entriesIn rs k 1).map (fun e => e.getD 0 0)
  { unsigned := decide (field (sign.word 0) 28 4 = 15), rollback := head.word 2, build := head.word 5,
    digest := sha256 (wordsToBytes (ws.take (ws.length - 16))), benchMask := (head.word 4).extractLsb' 8 8,
    programs := (ofKind kindProgram rs).map ImageRecord.program, delays := (ofKind kindDelay rs).map ImageRecord.delays,
    coefs := (ofKind kindCoef rs ++ ofKind kindLut rs).map ImageRecord.coefs,
    laws := (ofKind kindLaws rs).map ImageRecord.laws, windows := (entriesIn rs kindWindows 3).map windowDecl,
    grants := (entriesIn rs kindGrants 2).map shareDecl, accepts := (entriesIn rs kindAccepts 2).map shareDecl,
    channels := (words kindChannels).map channelDecl, results := (entriesIn rs kindResults 3).map resultDecl,
    eventMask := (words kindMask).headD 0, plans := (ofKind kindPlans rs).head?.map ImageRecord.plans,
    bands := (ofKind kindBands rs).head?.map (fun r => (bandDecl (r.word 0), bandDecl (r.word 1))),
    ports := (ofKind kindPorts rs).flatMap (fun r => r.ports.1.map (fun e => portDecl e.2.1 e.2.2)),
    senses := (entriesIn rs kindSense 2).map senseDecl, streams := (words kindStreams).map streamDecl,
    inbound := (words kindInbound).map inboundDecl, releases := releasesIn rs,
    cals := (entriesIn rs kindCal 2).map calDecl
    bodies := (rs.filter ImageRecord.installed).map (fun r => (r.pos + 1, r.body.length, benchOf r.bench)) }

/-- The words staged, as the verifier or since then the installer was given them (R129, R264, R281). -/
def State.stagedWords (s : State) : List Word :=
  (List.range s.staging.length).map (fun i => (Sparse.read none s.staging.misread i).getD (s.pitWord (stagingBase + i)))

end Sys2Proof.Machine
end

