-- ==== Sys2Proof/Machine/StepCheck.lean ====
section
/-! DEFINITION. Sys2Proof/Machine/StepCheck.lean: the checks of one step word that verification makes (R155, R182 to R186, R209 of
spec/08_compute_steps.md; R210, R211, R237, R238 of spec/09_traffic_steps.md). -/
namespace Sys2Proof.Machine

/-! ### Step 5: reserved opcodes, fields and values -/

/-- What a register field of an opcode names (Tables CMP-1 and TRF-1). -/
inductive RegKind where
  | unused
  | data
  | acc
  deriving DecidableEq, Repr

/-- An opcode's row: dst, src a, src b, whether saturate has a meaning, the listed bits of the extension. -/
structure StepShape where
  dst : RegKind
  a : RegKind
  b : RegKind
  sat : Bool
  ext : Nat
  deriving DecidableEq, Repr

/-- `n` bits from bit `lo`, as a mask. -/
def bitsAt (lo n : Nat) : Nat := (2 ^ n - 1) * 2 ^ lo

/-- The coefficient index and its address mode. -/
def maskIndex : Nat := bitsAt 0 12 + bitsAt 12 2

/-- The flag predicate destination. -/
def maskFlag : Nat := bitsAt 19 3

/-- The window, offset source and offset of a pit or remote access. -/
def maskAccess : Nat := bitsAt 26 6 + bitsAt 25 1 + bitsAt 0 18

/-- The rows of Table CMP-1 with the layouts of Table CMP-2; none for a reserved opcode. -/
def computeShape (op : Nat) : Option StepShape :=
  match op with
  | 0x00 => some ⟨.unused, .unused, .unused, false, 0⟩
  | 0x01 => some ⟨.data, .data, .unused, false, 0⟩
  | 0x02 => some ⟨.data, .unused, .unused, false, bitsAt 0 32⟩
  | 0x03 => some ⟨.data, .data, .data, true, 0⟩
  | 0x04 => some ⟨.data, .data, .data, true, 0⟩
  | 0x05 => some ⟨.data, .data, .unused, true, 0⟩
  | 0x06 => some ⟨.data, .data, .unused, true, 0⟩
  | 0x07 => some ⟨.data, .data, .data, false, 0⟩
  | 0x08 => some ⟨.data, .data, .data, false, 0⟩
  | 0x09 => some ⟨.data, .data, .data, false, 0⟩
  | 0x0a => some ⟨.data, .data, .data, false, 0⟩
  | 0x0b => some ⟨.data, .data, .data, false, 0⟩
  | 0x0c => some ⟨.data, .data, .data, true, bitsAt 37 1 + bitsAt 0 5⟩
  | 0x0d => some ⟨.data, .data, .data, false, bitsAt 36 2 + bitsAt 0 5⟩
  | 0x0e => some ⟨.data, .data, .data, false, bitsAt 37 1 + bitsAt 0 5⟩
  | 0x10 => some ⟨.data, .data, .data, true, bitsAt 16 3⟩
  | 0x11 => some ⟨.data, .data, .data, true, bitsAt 16 3 + maskIndex⟩
  | 0x12 => some ⟨.acc, .data, .data, true, bitsAt 16 3⟩
  | 0x13 => some ⟨.acc, .data, .data, true, bitsAt 16 3 + maskIndex⟩
  | 0x14 => some ⟨.acc, .data, .data, true, bitsAt 16 3⟩
  | 0x15 => some ⟨.acc, .data, .data, true, bitsAt 16 3 + maskIndex⟩
  | 0x16 => some ⟨.acc, .unused, .unused, false, 0⟩
  | 0x17 => some ⟨.acc, .data, .unused, false, bitsAt 16 3⟩
  | 0x18 => some ⟨.data, .acc, .unused, true, bitsAt 16 3⟩
  | 0x19 => some ⟨.unused, .data, .data, false, bitsAt 25 13 + bitsAt 0 16⟩
  | 0x1a => some ⟨.data, .data, .data, false, bitsAt 0 3⟩
  | 0x1b => some ⟨.data, .data, .data, false, maskFlag + bitsAt 0 5⟩
  | 0x1c => some ⟨.data, .unused, .data, false, bitsAt 31 7 + bitsAt 0 16⟩
  | 0x1d => some ⟨.data, .unused, .data, false, bitsAt 32 6⟩
  | 0x1e => some ⟨.unused, .data, .unused, false, bitsAt 32 6⟩
  | 0x1f => some ⟨.unused, .acc, .unused, true, bitsAt 32 6 + bitsAt 16 3⟩
  | 0x20 => some ⟨.data, .unused, .data, false, maskIndex⟩
  | 0x21 => some ⟨.data, .data, .unused, false, bitsAt 0 3⟩
  | 0x22 => some ⟨.data, .data, .unused, false, maskFlag⟩
  | 0x23 => some ⟨.data, .data, .unused, false, maskFlag⟩
  | 0x24 => some ⟨.data, .data, .unused, false, maskFlag + bitsAt 0 5⟩
  | 0x25 => some ⟨.data, .data, .data, true, maskFlag + bitsAt 16 1 + maskIndex⟩
  | _ => none

/-- The rows of Table TRF-1 with the layouts of Table TRF-2; none for a reserved opcode. -/
def trafficShape (op : Nat) : Option StepShape :=
  match op with
  | 0x28 => some ⟨.data, .unused, .unused, false, bitsAt 0 6⟩
  | 0x29 => some ⟨.unused, .data, .unused, false, bitsAt 0 6⟩
  | 0x2a => some ⟨.data, .unused, .unused, false, maskFlag + bitsAt 0 4⟩
  | 0x2b => some ⟨.data, .unused, .unused, false, maskFlag + bitsAt 0 6⟩
  | 0x2c => some ⟨.data, .unused, .unused, false, maskFlag + bitsAt 0 7⟩
  | 0x2d => some ⟨.unused, .data, .unused, false, bitsAt 0 7⟩
  | 0x2e => some ⟨.unused, .unused, .data, false, maskAccess + bitsAt 22 2⟩
  | 0x2f => some ⟨.data, .unused, .unused, false, maskFlag + bitsAt 22 2⟩
  | 0x30 => some ⟨.unused, .data, .data, false, maskAccess⟩
  | 0x31 => some ⟨.unused, .unused, .unused, false, bitsAt 0 3⟩
  | 0x32 => some ⟨.data, .data, .unused, false, bitsAt 32 6 + maskFlag⟩
  | 0x33 => some ⟨.data, .unused, .unused, false, bitsAt 32 4 + maskFlag⟩
  | 0x34 => some ⟨.data, .data, .unused, false, bitsAt 32 4 + maskFlag⟩
  | 0x35 => some ⟨.unused, .data, .unused, false, bitsAt 0 6⟩
  | 0x36 => some ⟨.unused, .unused, .unused, false, 0⟩
  | 0x37 => some ⟨.data, .data, .unused, false, maskFlag + bitsAt 0 6⟩
  | 0x38 => some ⟨.data, .unused, .unused, false, maskFlag + bitsAt 0 8⟩
  | 0x39 => some ⟨.data, .data, .data, false, bitsAt 32 6 + maskAccess + maskFlag⟩
  | 0x3a => some ⟨.data, .unused, .unused, false, maskFlag + bitsAt 0 2⟩
  | 0x3b => some ⟨.data, .unused, .unused, false, maskFlag + bitsAt 0 3⟩
  | 0x3c => some ⟨.data, .unused, .unused, false, bitsAt 0 6⟩
  | 0x3d => some ⟨.unused, .unused, .data, false, bitsAt 0 4⟩
  | _ => none

/-- Whether a register field breaks its row: non-zero where unused, above 3 where it names an accumulator (R183). -/
def RegKind.bad (k : RegKind) (x : BitVec 5) : Bool :=
  match k with
  | .unused => decide (x ≠ 0)
  | .data => false
  | .acc => decide (3 < x.toNat)

/-- Whether the fields break the row: registers, saturate, unlisted extension bits, select 7 with invert (R155, R183, R184). -/
def StepShape.bad (h : StepShape) (f : StepFields) : Bool :=
  h.dst.bad f.dst || h.a.bad f.sa || h.b.bad f.sb || (f.sat && !h.sat) || decide (f.ext.toNat &&& h.ext ≠ f.ext.toNat) ||
    (decide (f.sel = 7) && f.inv)

/-- Whether src b is non-zero with an immediate source, or the immediate non-zero with a register source (R183, Table CMP-2). -/
def immBad (f : StepFields) (imm : Bool) (value : Nat) : Bool :=
  if imm then decide (f.sb ≠ 0) else decide (value ≠ 0)

/-- The values of Table CMP-4 that a compute step may not hold. -/
def computeValueBad (op : Nat) (f : StepFields) : Bool :=
  let index := decide (1 < f.am) || decide (f.am = 0) && decide (f.sb ≠ 0)
  let shift := immBad f (f.ext.getLsbD 37) f.amt
  match op with
  | 0x0c => shift
  | 0x0d => shift
  | 0x0e => shift
  | 0x11 => index
  | 0x13 => index
  | 0x15 => index
  | 0x19 =>
    decide (11 < f.bits 34 4) || decide (f.bits 31 3 = 7) || decide (f.bits 29 2 = 0) && decide (f.bits 26 3 ≠ 0) ||
      immBad f (f.ext.getLsbD 25) (f.bits 0 16)
  | 0x1c => if f.ext.getLsbD 31 then decide (f.bits 0 16 ≠ 0) else decide (f.sb ≠ 0)
  | 0x20 => index
  | 0x24 => decide (16 < f.bits 0 5)
  | 0x25 => index
  | _ => false

/-- The values of Tables TRF-2 and TRF-6 that a traffic step may not hold. -/
def trafficValueBad (op : Nat) (f : StepFields) : Bool :=
  let offset := !f.os && decide (f.sb ≠ 0)
  let cell := decide (f.bits 0 7 < 36)
  match op with
  | 0x2b => decide (f.bits 4 2 = 3)
  | 0x2c => cell
  | 0x2d => cell
  | 0x2e => offset
  | 0x30 => offset
  | 0x32 => decide (f.bits 36 2 = 3) || decide (f.bits 36 2 ≠ 0) && decide (f.sa ≠ 0) || decide (11 < f.ep)
  | 0x33 => decide (11 < f.ep)
  | 0x34 => decide (11 < f.ep)
  | 0x37 => decide (25 < f.sa.toNat)
  | 0x38 => decide (f.bits 0 8 = 0)
  | 0x39 => offset
  | 0x3b => decide (4 < f.bits 0 3)
  | 0x3c => decide (23 < f.bits 0 6) && (decide (f.bits 0 6 < 32) || decide (35 < f.bits 0 6))
  | 0x3d => if f.ext.getLsbD 3 then decide (f.bits 0 3 ≠ 0) else decide (f.sb ≠ 0)
  | _ => false

/-- Whether verification step 5 refuses a step word (Tables CMP-4 and TRF-6). -/
def stepReserved (w : StepWord) : Bool :=
  let op := (stepOp w).toNat
  let f := stepFields w
  match computeShape op, trafficShape op with
  | some h, _ => h.bad f || computeValueBad op f
  | none, some h => h.bad f || trafficValueBad op f
  | none, none => true

/-! ### Step 6: delay lines and ENVF -/

/-- Whether verification step 6 refuses a step word, given the lengths of its bench's delay lines (Table CMP-4). -/
def stepTooBig (lines : List Nat) (w : StepWord) : Bool :=
  let op := (stepOp w).toNat
  let f := stepFields w
  let tooFar := decide (lines.length ≤ f.line)
  match op with
  | 0x1c => tooFar || !f.ext.getLsbD 31 && decide (lines.getD f.line 0 ≤ f.bits 0 16)
  | 0x1d => tooFar
  | 0x1e => tooFar
  | 0x1f => tooFar
  | 0x25 => decide (f.am = 0) && decide (f.cix = 4095)
  | _ => false

/-! ### Steps 7 and 8: what the bench's image gives it -/

/-- The route of a bench with a view index, and whether it is an input (R213, R319). -/
def State.routeOf (s : State) (i : Image) (b : BenchId) (ix : Nat) : Option Bool :=
  (i.ports.filterMap (fun e =>
    if e.routes.any (fun r => decide (r.bench = b) && decide (r.ix = ix)) then some (roleInput (s.portRole e.port)) else none)).head?

/-- The mode of a sense channel that the image lets a bench read. -/
def Image.senseMode (i : Image) (b : BenchId) (ch : Nat) : Option Nat :=
  (i.senses.find? (fun d => decide (d.channel.val = ch) && (d.w0.extractLsb' 8 8).getLsbD b.val)).map (fun d => field d.w0 26 2)

/-- The channel of an ID in an image. -/
def Image.channel (i : Image) (id : Nat) : Option ChannelDecl := i.channels.find? (fun c => decide (c.id.toNat = id))

/-- The code with which verification step 7 refuses a traffic step of a bench, 0 for none (Table TRF-6). -/
def State.stepOwner (s : State) (t : TenantId) (i : Image) (b : BenchId) (w : StepWord) : Byte :=
  let f := stepFields w
  let owner := fun (bad : Bool) => if bad then 0x08#8 else 0x00#8
  let chan := fun (c : Option ChannelDecl) => if c.isNone then 0x0c#8 else 0x00#8
  match (stepOp w).toNat with
  | 0x28 => owner (s.routeOf i b (f.bits 0 6) != some true)
  | 0x29 => owner (s.routeOf i b (f.bits 0 6) != some false)
  | 0x2a => owner (i.senseMode b (f.bits 0 4)).isNone
  | 0x2b => owner (i.senseMode b (f.bits 0 4) != some 3)
  | 0x2d => owner (!i.streams.any (fun d => decide (d.bench = b) && decide (d.cell = f.bits 0 7)))
  | 0x32 => chan (i.channel (b.val * 16 + f.ep))
  | 0x33 => chan (i.channel (f.ep * 16 + b.val))
  | 0x34 => if (i.channel (f.ep * 16 + b.val)).any (·.explicit) then 0x00 else 0x0c
  | 0x35 => owner (!i.results.any (fun d => decide (d.bench = b) && d.slots.getLsbD (f.bits 0 6)))
  | 0x38 => owner ((List.finRange 8).any (fun c => f.ext.getLsbD c.val && !s.owns t c))
  | 0x39 => owner s.isStandalone
  | 0x3d => owner (decide (t ≠ 0))
  | _ => 0x00

/-- The code with which verification step 8 refuses a PRD or PWR of a bench, 0 for none (Table TRF-6). -/
def Image.stepWindow (i : Image) (t : TenantId) (b : BenchId) (w : StepWord) : Byte :=
  let f := stepFields w
  let op := (stepOp w).toNat
  if op = 0x2e ∨ op = 0x30 then
    let bit := if op = 0x2e then rightRead else rightWrite
    if windowOwner f.win = t then
      match i.windows.find? (fun d => decide (d.id = f.win)) with
      | none => 0x05
      | some d =>
        if wordRight d.rights b.val bit = false then 0x05
        else if f.os = false ∧ d.length ≤ f.off then 0x06 else 0x00
    else if i.accepts.any (fun a => decide (a.id = f.win) && wordRight a.rights b.val bit) then 0x00 else 0x05
  else 0x00

/-! ### Step 9: traffic budgets (Table TRF-5) -/

/-- Whether an opcode is that of a reply step (Table TRF-1). -/
def replyOp (op : Nat) : Bool := [0x32, 0x33, 0x34, 0x37, 0x38, 0x39].contains op

/-- A step of a period: its position, its program address, its word. -/
structure PlacedStep where
  pos : Nat
  addr : Nat
  word : StepWord
  deriving DecidableEq, Repr

/-- The opcode of a placed step. -/
def PlacedStep.op (x : PlacedStep) : Nat := (stepOp x.word).toNat

/-- The carried steps of a period from a vector; the others are NOPs (R134). -/
def BenchProgram.period (p : BenchProgram) (vector : Nat) : List PlacedStep :=
  (((p.steps.drop vector).take p.length).zipIdx).map (fun x => ⟨x.2, vector + x.2, x.1⟩)

/-- A second period placed behind a first. -/
def BenchProgram.twice (p : BenchProgram) (a b : List PlacedStep) : List PlacedStep :=
  a ++ b.map (fun x => { x with pos := x.pos + p.length })

/-- The steps that make more than `n` of a list in a window of `k` positions. -/
def crowded (n k : Nat) (xs : List PlacedStep) : List Nat :=
  ((xs.zip (xs.drop n)).filter (fun e => decide (e.2.pos < e.1.pos + k))).map (fun e => e.2.addr)

/-- The addresses of steps that break a limit of Table TRF-5 within one period. -/
def BenchProgram.periodBreaks (p : BenchProgram) (slots : Nat) (xs : List PlacedStep) : List Nat :=
  let pit := xs.filter (fun x => decide (x.op = 0x2e) || decide (x.op = 0x30))
  let late := xs.filter (fun x => replyOp x.op && decide (p.length < x.pos + 16))
  (pit.drop (p.divisor * slots) ++ late).map (·.addr)

/-- The addresses of the PIN and POUT steps of a bench whose divisor is not 1, wherever the program carries them (R144, step 9). -/
def BenchProgram.audioBreaks (p : BenchProgram) : List Nat :=
  if p.divisor = 1 then []
  else (p.steps.zipIdx.filter (fun x => decide ((stepOp x.1).toNat = 0x28) || decide ((stepOp x.1).toNat = 0x29))).map (·.2)

/-- The addresses of steps that break a distance or a window of Table TRF-5 in two periods. -/
def windowBreaks (xs : List PlacedStep) : List Nat :=
  let prd := xs.filter (fun x => decide (x.op = 0x2e))
  let tag := fun (t : Nat) => prd.filter (fun x => decide ((stepFields x.word).tag = t))
  crowded 4 64 prd ++ (List.range 4).flatMap (fun t => crowded 1 64 (tag t)) ++
    crowded 8 64 (xs.filter (fun x => decide (x.op = 0x30))) ++ crowded 1 16 (xs.filter (fun x => replyOp x.op))

/-- The addresses of a program's steps that break a limit of Table TRF-5, with a bench's pit slots per frame, or the divisor of PIN and
POUT (R144, R237). -/
def BenchProgram.breaks (p : BenchProgram) (slots : Nat) : List Nat :=
  let first := p.period p.prologue
  let main := p.period p.main
  p.audioBreaks ++ p.periodBreaks slots first ++ p.periodBreaks slots main ++ windowBreaks (p.twice first main) ++
    windowBreaks (p.twice main main)

end Sys2Proof.Machine
end

