-- ==== Sys2Proof/Machine/ImageCheck.lean ====
section
/-! DEFINITION. Sys2Proof/Machine/ImageCheck.lean: the verification steps of Table IMG-7 over the words of a staged image (R67,
R77, R130 to R138, R142 to R144 of spec/06_program_images.md, R315, R316, R319, R333, R348, R361, R362). -/
namespace Sys2Proof.Machine

/-- A failing place: an image word and a result code. -/
structure Finding where
  pos : Nat
  code : Byte
  deriving DecidableEq, Repr

/-- A finding where a condition holds. -/
def found (bad : Bool) (pos : Nat) (code : Byte) : List Finding := if bad then [⟨pos, code⟩] else []

/-- OP_UNKNOWN at a word (steps 1, 2 and 5). -/
def unknown (bad : Bool) (pos : Nat) : List Finding := found bad pos 0x02

/-- NOT_OWNER at a word (step 7). -/
def foreign (bad : Bool) (pos : Nat) : List Finding := found bad pos 0x08

/-- The failure of a step: the one at the lowest image word offset (R144). -/
def lowest (l : List Finding) : Option Finding :=
  match l with
  | [] => none
  | x :: rest => some (rest.foldl (fun a b => if b.pos < a.pos then b else a) x)

/-- Whether a word has a bit of a mask set. -/
def hasBits (w : Word) (mask : Nat) : Bool := decide (w.toNat &&& mask ≠ 0)

/-- The places of a list at which a value stands that stands earlier too. -/
def repeated {α : Type} [DecidableEq α] (seen : List α) (xs : List (Nat × α)) : List Nat :=
  match xs with
  | [] => []
  | (p, x) :: rest => if seen.contains x then p :: repeated seen rest else repeated (x :: seen) rest

/-! ### Steps 1 and 2 -/

/-- Step 1 (Table IMG-7): HEADER first with 6 words and its word 3 the staged length, the records tiling the image, SIGNATURE last
with 33 words. -/
def checkTiling (ws : List Word) (rs : List ImageRecord) (overrun : Option Nat) : List Finding :=
  let h := ws.headD 0
  let tail := match overrun, rs.getLast? with
    | some p, _ => unknown true p
    | none, some r => unknown (decide (r.kind ≠ kindSignature) || decide (r.body.length ≠ 33)) r.pos
    | none, none => []
  unknown (decide (field h 24 8 ≠ kindHeader) || decide (field h 0 18 ≠ 6) || decide (ws.length < 7)) 0 ++
    unknown (decide ((ws.getD 4 0).toNat ≠ ws.length)) 4 ++ tail

/-- Step 2: magic and format, the tenant index, the strapped family. -/
def checkHeader (ws : List Word) (t : TenantId) (family441 : Bool) : List Finding :=
  unknown (decide (ws.getD 1 0 ≠ 0x564c5436)) 1 ++ unknown (decide (field (ws.getD 2 0) 24 8 ≠ 1)) 2 ++
    foreign (decide (field (ws.getD 2 0) 0 2 ≠ t.val)) 2 ++
    unknown (!(ws.getD 5 0).getLsbD (if family441 then 17 else 16)) 5

/-- The first failing step of 1 and 2 with its finding (R144). -/
def checkEarly (ws : List Word) (rs : List ImageRecord) (overrun : Option Nat) (t : TenantId) (family441 : Bool) :
    Option (Nat × Finding) :=
  match lowest (checkTiling ws rs overrun) with
  | some x => some (1, x)
  | none => (lowest (checkHeader ws t family441)).map (fun x => (2, x))

/-- The words that steps 1 and 2 read up to a failure: the headers and HEADER's words (R144). -/
def earlyReads (rs : List ImageRecord) (overrun : Option Nat) (fail : Option (Nat × Finding)) : List Nat :=
  let headers := [0, 4] ++ rs.map (·.pos) ++ overrun.toList
  match fail with
  | some (1, x) => headers.filter (fun k => decide (k ≤ x.pos))
  | some (_, x) => headers ++ [1, 2, 5].filter (fun k => decide (k ≤ x.pos))
  | none => headers ++ [1, 2, 5]

/-! ### Steps 3 and 4 -/

/-- The number that eight words spell. -/
def wordsNat (ws : List Word) : Nat := beNat (wordsToBytes ws)

/-- Step 3: a signed image under R131, an unsigned one under R132. -/
def State.signatureOk (s : State) (ws : List Word) : Bool :=
  let sg := ws.drop (ws.length - 33)
  let slot := field (sg.getD 0 0) 28 4
  let xy := (sg.drop 1).take 16
  let num := fun (i : Nat) => wordsNat ((sg.drop (1 + 8 * i)).take 8)
  if slot = 15 then s.straps.devel && (sg.drop 1).all (fun w => decide (w = 0))
  else
    match (if slot < 4 then vget s.otp.keys slot none else none) with
    | none => false
    | some key =>
      decide (sha256 (wordsToBytes xy) = key) &&
        ecdsaVerify (num 0) (num 1) (num 2) (num 3) (wordsToBytes (ws.take (ws.length - 16)))

/-- Step 4: a signed image's rollback value against the floor (R133). -/
def State.rollbackOk (s : State) (t : TenantId) (i : Image) : Bool :=
  i.unsigned || decide ((vget s.wb.nv.floors t.val 0).toNat ≤ i.rollback.toNat)

/-! ### Step 5 -/

/-- Whether a record's body has a length that its kind can have (Tables IMG-2 to IMG-6). -/
def ImageRecord.sized (r : ImageRecord) : Bool :=
  let n := r.body.length
  if r.kind = kindHeader then decide (n = 6)
  else if r.kind = kindSignature then decide (n = 33)
  else if r.kind = kindProgram then decide (3 ≤ n) && decide (n = 3 + 2 * field (r.word 2) 0 14)
  else if r.kind = kindDelay then decide (1 ≤ n) && decide (n = 1 + field (r.word 0) 0 7)
  else if r.kind = kindCoef ∨ r.kind = kindLaws then decide (2 ≤ n)
  else if r.kind = kindLut then decide (n = 257)
  else if r.kind = kindWindows ∨ r.kind = kindResults ∨ r.kind = kindRelease then decide (n % 3 = 0)
  else if r.kind = kindGrants ∨ r.kind = kindAccepts ∨ r.kind = kindSense ∨ r.kind = kindCal then decide (n % 2 = 0)
  else if r.kind = kindMask then decide (n = 1)
  else if r.kind = kindPlans then decide (2 ≤ n) && decide (n ≤ 9)
  else if r.kind = kindBands then decide (n = 2)
  else if r.kind = kindPorts then r.ports.2
  else true

/-- The records out of kind order (R130). -/
def outOfOrder (last : Nat) (rs : List ImageRecord) : List Finding :=
  match rs with
  | [] => []
  | r :: rest => unknown (decide (r.kind < last)) r.pos ++ outOfOrder (max last r.kind) rest

/-- What makes two records of a kind repetitions: the kind, or its bench, or its bench and table (Table IMG-1). -/
def ImageRecord.key (r : ImageRecord) : Nat × Nat :=
  if r.kind = kindProgram ∨ r.kind = kindDelay then (r.kind, r.bench)
  else if r.kind = kindLut then (r.kind, 4 * r.bench + field (r.word 0) 0 2)
  else (r.kind, 0)

/-- Repeated records; COEF_INIT and GLIDE_LAWS may repeat (Table IMG-1). -/
def repetitions (rs : List ImageRecord) : List Finding :=
  (repeated [] ((rs.filter (fun r => decide (r.kind ≠ kindCoef) && decide (r.kind ≠ kindLaws))).map
    (fun r => (r.pos, r.key)))).map (fun p => ⟨p, 0x02⟩)

/-- The span of indexes that a record covers, from the first on, with its bench. -/
structure IndexSpan where
  pos : Nat
  bench : Nat
  lo : Nat
  hi : Nat
  deriving DecidableEq, Repr

/-- Whether two spans of one bench share an index. -/
def IndexSpan.meets (a b : IndexSpan) : Bool := decide (a.bench = b.bench) && decide (a.lo < b.hi) && decide (b.lo < a.hi)

/-- The spans that meet an earlier one. -/
def overlaps (before xs : List IndexSpan) : List Finding :=
  match xs with
  | [] => []
  | x :: rest => unknown (before.any (fun y => y.meets x)) x.pos ++ overlaps (x :: before) rest

/-- The coefficient ranges of COEF_INIT and LUT, the law ranges of GLIDE_LAWS, and the lines of DELAY_TABLE, as spans. -/
def ImageRecord.spans (r : ImageRecord) : List IndexSpan :=
  let n := r.body.length - 1
  if r.kind = kindCoef then [⟨r.pos, r.bench, field (r.word 0) 0 12, field (r.word 0) 0 12 + n⟩]
  else if r.kind = kindLut then
    [⟨r.pos, r.bench, 3072 + 256 * field (r.word 0) 0 2, 3072 + 256 * field (r.word 0) 0 2 + n⟩]
  else if r.kind = kindLaws then [⟨r.pos, r.bench, field (r.word 0) 0 12, field (r.word 0) 0 12 + 4 * n⟩]
  else if r.kind = kindDelay then
    ((r.body.drop 1).zipIdx).map (fun x => ⟨r.pos + 2 + x.2, r.bench, field x.1 16 16, field x.1 16 16 + field x.1 0 16 + 1⟩)
  else []

/-- Overlapping delay lines and coefficient ranges. Two LUT records of one table are repetitions. -/
def overlapping (rs : List ImageRecord) : List Finding :=
  let spans := fun (p : ImageRecord → Bool) => (rs.filter p).flatMap ImageRecord.spans
  overlaps [] (spans (fun r => decide (r.kind = kindCoef) || decide (r.kind = kindLut))) ++
    overlaps [] (spans (fun r => decide (r.kind = kindLaws))) ++ overlaps [] (spans (fun r => decide (r.kind = kindDelay)))

/-- The benches that have a BENCH_PROGRAM record. -/
def programmed (rs : List ImageRecord) : List Nat := (ofKind kindProgram rs).map ImageRecord.bench

/-- Whether a law byte is one of Table IMG-4. -/
def lawOk (l : Byte) : Bool :=
  let k := l.toNat % 16
  decide (l.toNat / 64 < 3) && decide (l.toNat / 16 % 4 = 0) && decide (k ≤ 12) && (decide (l.toNat / 64 ≠ 0) || decide (k = 0))

/-- Reserved fields and values of a bench record (Table IMG-4). -/
def ImageRecord.benchFields (r : ImageRecord) (programs : List Nat) : List Finding :=
  let o := r.pos + 1
  let unnamed := !programs.contains r.bench
  if r.kind = kindProgram then
    unknown (hasBits (r.word 0) 0x1cffc000) o ++ unknown (hasBits (r.word 1) 0xe000e000) (o + 1) ++
      unknown (hasBits (r.word 2) 0xffffc000) (o + 2) ++
      ((stepWords (r.body.drop 3)).zipIdx).flatMap (fun x => unknown (stepReserved x.1) (o + 3 + 2 * x.2))
  else if r.kind = kindDelay then
    unknown (unnamed || hasBits (r.word 0) 0x1fffff80 || decide (field (r.word 0) 0 7 = 0) ||
      decide (64 < field (r.word 0) 0 7)) o
  else if r.kind = kindCoef then unknown (unnamed || hasBits (r.word 0) 0x1ffff000) o
  else if r.kind = kindLaws then
    unknown (unnamed || hasBits (r.word 0) 0x1ffff000) o ++
      ((r.body.drop 1).zipIdx).flatMap (fun x => unknown (!(beBytes 4 x.1.toNat).all lawOk) (o + 1 + x.2))
  else if r.kind = kindLut then unknown (unnamed || hasBits (r.word 0) 0x1ffffffc) o
  else []

/-- Reserved bits of the entries of a record, by the masks of their words. -/
def ImageRecord.entryBits (r : ImageRecord) (masks : List Nat) : List Finding :=
  (r.entries masks.length).flatMap (fun e =>
    ((e.2.zip masks).zipIdx).flatMap (fun x => unknown (hasBits x.1.1 x.1.2) (e.1 + x.2)))

/-- The entries that name in their first word what an earlier entry named; `key` gives the name. -/
def ImageRecord.twice (r : ImageRecord) (k : Nat) (key : Word → Nat) : List Finding :=
  (repeated [] ((r.entries k).map (fun e => (e.1, key (e.2.getD 0 0))))).map (fun p => ⟨p, 0x02⟩)

/-- Reserved fields of rights and connection records, and RESULTS entries for benches without a program or named twice
(Table IMG-5). -/
def ImageRecord.shareFields (r : ImageRecord) (programs : List Nat) : List Finding :=
  if r.kind = kindWindows then r.entryBits [0x03f00000, 0xfff00000, 0xf8000000]
  else if r.kind = kindGrants ∨ r.kind = kindAccepts then r.entryBits [0x03fffffc, 0xf8000000]
  else if r.kind = kindChannels then r.entryBits [0x007f0000]
  else if r.kind = kindStreams then r.entryBits [0x1fffff80]
  else if r.kind = kindInbound then r.entryBits [0x03ffff80]
  else if r.kind = kindResults then
    r.entryBits [0x1fffffff, 0, 0] ++ r.twice 3 (fun w => field w 29 3) ++
      (r.entries 3).flatMap (fun e => unknown (!programs.contains (field (e.2.getD 0 0) 29 3)) e.1)
  else []

/-- CLOCK_PLANS and BAND_TABLE (R77, R86, Table IMG-6). -/
def ImageRecord.clockFields (r : ImageRecord) : List Finding :=
  let o := r.pos + 1
  if r.kind = kindPlans then
    let plans := ((r.body.drop 1).zipIdx).map (fun x => (o + 1 + x.2, x.1))
    unknown (hasBits (r.word 0) 0xfffffff8 || !plans.any (fun p => decide (field p.2 13 3 = field (r.word 0) 0 3))) o ++
      plans.flatMap (fun p => unknown (hasBits p.2 0xffff001f || decide (4 < field p.2 8 3) || decide (4 < field p.2 5 3)) p.1) ++
      (repeated [] (plans.map (fun p => (p.1, field p.2 13 3)))).map (fun p => ⟨p, 0x02⟩)
  else if r.kind = kindBands then
    (r.body.zipIdx).flatMap (fun x =>
      let e := bandDecl x.1
      unknown (hasBits x.1 0x03f00000 || decide (e.lo < 150) || decide (650 < e.hi) || decide (e.hi < e.lo + 100)) (o + x.2))
  else []

/-- One PORT_MAP entry and its routes (R316, R333, Table IMG-6); `role` is the port's. A route to a slot beyond the count, or with
bit 27 set at single rate, is refused here with OP_UNKNOWN: no step is named for it (DEDUCED, log 54). -/
def portFields (role : Nat) (e : Nat × Word × List Word) : List Finding :=
  let w := e.2.1
  let d := portDecl w e.2.2
  let bad := hasBits w 0x0000ffe0 || decide (field w 27 2 = 3) || decide (3 < field w 24 3) || decide (field w 22 2 = 3) ||
    decide (d.format < 2) && decide (d.slots ≠ 2) || decide (512 < d.bits) || d.double && !roleMaster role ||
    decide (d.group ≠ 0) && !d.align
  unknown bad e.1 ++
    (e.2.2.zipIdx).flatMap (fun x => unknown (hasBits x.1 0x00ffffc0 || decide (d.slots ≤ field x.1 28 4) ||
      x.1.getLsbD 27 && !d.double) (e.1 + 1 + x.2))

/-- PORT_MAP: each entry, no port in two entries, no view index in two routes of one bench (Table IMG-6). -/
def State.portRecord (s : State) (r : ImageRecord) : List Finding :=
  let es := r.ports.1
  let routes := es.flatMap (fun e => (e.2.2.zipIdx).map (fun x => (e.1 + 1 + x.2, (field x.1 24 3, field x.1 0 6))))
  es.flatMap (fun e => portFields (s.portRole (portDecl e.2.1 []).port) e) ++
    (repeated [] (es.map (fun e => (e.1, field e.2.1 29 3)))).map (fun p => ⟨p, 0x02⟩) ++
    (repeated [] routes).map (fun p => ⟨p, 0x02⟩)

/-- SENSE_CONFIG: reserved bits, a channel in two entries, the PULSE parameters of Table SNS-8 (R362). -/
def senseFields (r : ImageRecord) : List Finding :=
  r.entryBits [0x003f00ff, 0] ++ r.twice 2 (fun w => field w 28 4) ++
    (r.entries 2).flatMap (fun e =>
      let w := e.2.getD 1 0
      let bad := if field (e.2.getD 0 0) 26 2 = 3 then
          decide (field w 24 8 < 2) || decide (240 < field w 24 8) || decide (field w 24 8 < field w 16 8 + 2) ||
            hasBits w 0x00003fff
        else decide (w ≠ 0)
      unknown bad (e.1 + 1))

/-- RELEASE: reserved fields and conditions, R67, a bench without a program or named twice (Table IMG-6). -/
def State.releaseFields (s : State) (t : TenantId) (r : ImageRecord) (programs : List Nat) : List Finding :=
  r.twice 3 (fun w => field w 29 3) ++
    (r.entries 3).flatMap (fun e =>
      let w := e.2.getD 0 0
      let cond := field w 20 4
      let other := benchOf (field w 16 3)
      let bad := hasBits w 0x1f080000 || decide (5 < cond) || decide (cond ≠ 3) && hasBits w 0x0007ffff ||
        !programs.contains (field w 29 3) || decide (cond = 2) && s.isStandalone ||
        decide (cond = 3) && (decide (other = benchOf (field w 29 3)) || !s.owns t other)
      unknown bad e.1 ++ (if cond = 4 then [] else
        unknown (decide (e.2.getD 1 0 ≠ 0)) (e.1 + 1) ++ unknown (decide (e.2.getD 2 0 ≠ 0)) (e.1 + 2)))

/-- USER_CAL: reserved bits, a channel in two entries or not in this image's SENSE_CONFIG (Table IMG-6). -/
def calFields (r : ImageRecord) (i : Image) : List Finding :=
  r.entryBits [0x0fffffff, 0] ++ r.twice 2 (fun w => field w 28 4) ++
    (r.entries 2).flatMap (fun e =>
      unknown (!i.senses.any (fun d => decide (d.channel = senseOf (e.2.getD 0 0)))) e.1)

/-- HEADER and SIGNATURE (Tables IMG-2 and IMG-3): reserved bits, and the bench mask. -/
def ImageRecord.frameFields (r : ImageRecord) (programs : List Nat) : List Finding :=
  if r.kind = kindHeader then
    unknown (hasBits (r.word 1) 0x00fffffc) (r.pos + 2) ++
      unknown (hasBits (r.word 4) 0xfffc00ff ||
        (List.range 8).any (fun b => (r.word 4).getLsbD (8 + b) != programs.contains b)) (r.pos + 5)
  else if r.kind = kindSignature then unknown (hasBits (r.word 0) 0x0fffffff) (r.pos + 1)
  else []

/-- Step 5 of one record. -/
def State.recordFields (s : State) (t : TenantId) (i : Image) (programs : List Nat) (r : ImageRecord) : List Finding :=
  unknown (decide (r.reserved ≠ 0) || !kindListed r.kind || !r.sized) r.pos ++
    (if r.sized then
      r.frameFields programs ++ r.benchFields programs ++ r.shareFields programs ++ r.clockFields ++
        (if r.kind = kindPorts then s.portRecord r else []) ++ (if r.kind = kindSense then senseFields r else []) ++
        (if r.kind = kindRelease then s.releaseFields t r programs else []) ++
        (if r.kind = kindCal then calFields r i else [])
    else [])

/-- Step 5 (Table IMG-7). -/
def State.checkFields (s : State) (t : TenantId) (i : Image) (rs : List ImageRecord) : List Finding :=
  outOfOrder 0 rs ++ repetitions rs ++ overlapping rs ++ rs.flatMap (s.recordFields t i (programmed rs))

/-! ### Step 6 -/

/-- IMAGE_TOO_BIG at a word. -/
def tooBig (bad : Bool) (pos : Nat) : List Finding := found bad pos 0x12

/-- The lengths of a bench's delay lines in an image. -/
def Image.lineLengths (i : Image) (b : BenchId) : List Nat :=
  ((i.delays.filter (fun d => decide (d.bench = b))).flatMap (·.lines)).map (·.length)

/-- Step 6: program lengths and vectors, delay line bounds, coefficient and law ranges, and the lines that steps name
(Tables IMG-4 and CMP-4). A first law index that is no multiple of 4 is refused here too: no step is named for it (DEDUCED, log 53). -/
def checkSizes (i : Image) (r : ImageRecord) : List Finding :=
  let o := r.pos + 1
  let n := r.body.length - 1
  if r.kind = kindProgram then
    let p := r.program
    tooBig (decide (p.length = 0) || decide (8192 < p.length)) o ++
      tooBig (decide (8192 < p.prologue + p.length) || decide (8192 < p.main + p.length)) (o + 1) ++
      tooBig (decide (8192 < field (r.word 2) 0 14)) (o + 2) ++
      (p.steps.zipIdx).flatMap (fun x => tooBig (stepTooBig (i.lineLengths p.bench) x.1) (o + 3 + 2 * x.2))
  else if r.kind = kindDelay then
    ((r.body.drop 1).zipIdx).flatMap (fun x => tooBig (decide (65536 < field x.1 16 16 + field x.1 0 16 + 1)) (o + 1 + x.2))
  else if r.kind = kindCoef then tooBig (decide (4096 < field (r.word 0) 0 12 + n)) o
  else if r.kind = kindLaws then
    tooBig (decide (field (r.word 0) 0 12 % 4 ≠ 0) || decide (4096 < field (r.word 0) 0 12 + 4 * n)) o
  else []

/-! ### Step 7 -/

/-- The active images of the other tenants. -/
def State.otherImages (s : State) (t : TenantId) : List Image :=
  ((List.finRange 4).filter (fun u => decide (u ≠ t))).filterMap (fun u => (s.tenant u).image)

/-- Whether a rights word gives a right to a bench that a tenant does not own (Table IMG-5). -/
def State.rightsBeyond (s : State) (t : TenantId) (w : Word) : Bool :=
  (List.finRange 8).any (fun b => decide (field w (3 * b.val) 3 ≠ 0) && !s.owns t b)

/-- Whether an endpoint is a tenant's: its host or a bench it owns (R290). -/
def State.ownEndpoint (s : State) (t : TenantId) (e : Nat) : Bool :=
  decide (e = 8 + t.val) || decide (e < 8) && s.owns t (benchOf e)

/-- CHANNELS: a pair that Table IMG-5 forbids, with CHANNEL_UNDEFINED. -/
def State.channelPairs (s : State) (t : TenantId) (r : ImageRecord) : List Finding :=
  (r.entries 1).flatMap (fun e =>
    let id := field (e.2.getD 0 0) 24 8
    found (!s.ownEndpoint t (id / 16) || !s.ownEndpoint t (id % 16) || decide (id / 16 = id % 16)) e.1 0x0c) ++
  (repeated [] ((r.entries 1).map (fun e => (e.1, field (e.2.getD 0 0) 24 8)))).map (fun p => ⟨p, 0x0c⟩)

/-- PORT_MAP: unused ports, ports of another active image, routes of benches not owned, two routes on one output (R138, R315,
R319). -/
def State.portOwners (s : State) (t : TenantId) (r : ImageRecord) : List Finding :=
  r.ports.1.flatMap (fun e =>
    let d := portDecl e.2.1 e.2.2
    let role := s.portRole d.port
    let routes := (e.2.2.zipIdx).map (fun x => (e.1 + 1 + x.2, x.1))
    foreign (decide (role = 0) || (s.otherImages t).any (fun i => i.ports.any (fun q => decide (q.port = d.port)))) e.1 ++
      routes.flatMap (fun x => foreign (!s.owns t (benchOf (field x.2 24 3))) x.1) ++
      (if decide (role ≠ 0) && !roleInput role then
        (repeated [] (routes.map (fun x => (x.1, (field x.2 28 4, x.2.getLsbD 27))))).map (fun p => ⟨p, 0x08⟩)
      else []))

/-- Step 7 of one record (Table IMG-7). -/
def State.checkOwners (s : State) (t : TenantId) (i : Image) (r : ImageRecord) : List Finding :=
  let es := r.entries
  let others := s.otherImages t
  if r.kind = kindProgram then
    foreign (!s.owns t (benchOf r.bench)) (r.pos + 1) ++
      ((stepWords (r.body.drop 3)).zipIdx).flatMap (fun x =>
        let code := s.stepOwner t i (benchOf r.bench) x.1
        found (decide (code ≠ 0)) (r.pos + 4 + 2 * x.2) code)
  else if r.kind = kindPlans ∨ r.kind = kindBands then foreign (decide (t ≠ 0)) r.pos
  else if r.kind = kindWindows then (es 3).flatMap (fun e => foreign (s.rightsBeyond t (e.2.getD 2 0)) (e.1 + 2))
  else if r.kind = kindGrants then
    (es 2).flatMap (fun e =>
      let d := shareDecl e.2
      foreign (decide (d.tenant = t)) e.1 ++ foreign (s.rightsBeyond d.tenant d.rights) (e.1 + 1))
  else if r.kind = kindAccepts then
    (es 2).flatMap (fun e =>
      let d := shareDecl e.2
      foreign (decide (d.tenant ≠ windowOwner d.id) || decide (d.tenant = t)) e.1)
  else if r.kind = kindChannels then s.channelPairs t r
  else if r.kind = kindPorts then s.portOwners t r
  else if r.kind = kindSense then
    (es 2).flatMap (fun e =>
      let w := e.2.getD 0 0
      foreign ((List.finRange 8).any (fun b => w.getLsbD (8 + b.val) && !s.owns t b) ||
        others.any (fun o => o.senses.any (fun d => decide (d.channel = senseOf w)))) e.1)
  else if r.kind = kindStreams then
    (es 1).flatMap (fun e =>
      let d := streamDecl (e.2.getD 0 0)
      foreign (!s.owns t d.bench || !s.ownsCell d.cell ||
        others.any (fun o => o.streams.any (fun q => decide (q.cell = d.cell)))) e.1) ++
      (repeated [] ((es 1).map (fun e => (e.1, field (e.2.getD 0 0) 0 7)))).map (fun p => ⟨p, 0x08⟩)
  else []

/-! ### Step 8 -/

/-- WINDOW_DENIED at a word. -/
def denied (bad : Bool) (pos : Nat) : List Finding := found bad pos 0x05

/-- Whether two windows share a pit word; one of length 0 shares none. -/
def WindowDecl.meets (a b : WindowDecl) : Bool :=
  decide (max a.base b.base < min (a.base + a.length) (b.base + b.length))

/-- Step 8 of one record (R136, R137, Table IMG-7). -/
def State.checkWindows (s : State) (t : TenantId) (i : Image) (r : ImageRecord) : List Finding :=
  let es := r.entries
  let again := fun (xs : List (Nat × Nat)) => (repeated [] xs).map (fun p => (⟨p, 0x05⟩ : Finding))
  if r.kind = kindProgram then
    ((stepWords (r.body.drop 3)).zipIdx).flatMap (fun x =>
      let code := i.stepWindow t (benchOf r.bench) x.1
      found (decide (code ≠ 0)) (r.pos + 4 + 2 * x.2) code)
  else if r.kind = kindWindows then
    (es 3).flatMap (fun e =>
      let d := windowDecl e.2
      denied (decide (windowOwner d.id ≠ t) || (s.otherImages t).any (fun o => o.windows.any (fun q => q.meets d))) e.1 ++
        found (decide (d.length = 0) || decide (786432 < d.length) || decide (0xc0000 < d.base + d.length)) (e.1 + 1) 0x06) ++
      again ((es 3).map (fun e => (e.1, (windowDecl e.2).id)))
  else if r.kind = kindGrants then
    (es 2).flatMap (fun e => denied (!i.windows.any (fun d => decide (d.id = (shareDecl e.2).id))) e.1) ++
      again ((es 2).map (fun e => (e.1, 4 * (shareDecl e.2).id + (shareDecl e.2).tenant.val)))
  else if r.kind = kindAccepts then again ((es 2).map (fun e => (e.1, (shareDecl e.2).id)))
  else if r.kind = kindInbound then
    (es 1).flatMap (fun e =>
      let id := (inboundDecl (e.2.getD 0 0)).id
      denied (!i.windows.any (fun d => decide (d.id = id) &&
        (List.range 9).any (fun k => wordRight d.rights k rightWrite))) e.1)
  else []

/-! ### Step 9 -/

/-- IMAGE_BUDGET at a word. -/
def overBudget (bad : Bool) (pos : Nat) : List Finding := found bad pos 0x13

/-- Whether a bench fits a plan (R143). -/
def BenchProgram.fits (p : BenchProgram) (plan : Word) : Bool :=
  decide (p.length ≤ min 8192 (p.divisor * ((if plan.getLsbD 12 then 3840 else 7680) - 512)))

/-- The plan words of an image of tenant 0; without CLOCK_PLANS the default plan (R87, R142). -/
def State.plansOf (s : State) (i : Image) : List Word :=
  match i.plans with
  | some p => p.words
  | none => [if (s.code 1).getLsbD 0 then 0x1800 else 0]

/-- The checked plan set (R142). -/
def State.checkedPlans (s : State) (t : TenantId) (i : Image) : List Word :=
  if t = 0 then s.plansOf i
  else match (s.tenant 0).image with
    | some z => s.plansOf z
    | none => [0, 0x1800]

/-- The failure of tenant 0's plans against the benches of the other active images (R143, R144). -/
def State.otherBudgets (s : State) (t : TenantId) (i : Image) (rs : List ImageRecord) : List Finding :=
  let misfit := fun (w : Word) => (s.otherImages t).any (fun o => o.programs.any (fun p => !p.fits w))
  if t ≠ 0 then []
  else match (ofKind kindPlans rs).head? with
    | some r => ((r.body.drop 1).zipIdx).flatMap (fun x => overBudget (misfit x.1) (r.pos + 2 + x.2))
    | none => overBudget ((s.plansOf i).any misfit) 0

/-- The number of pulse channels that the strapped count allows (Table STR-7). -/
def State.pulseCount (s : State) : Nat := match (s.code 7).toNat / 4 with | 0 => 0 | 1 => 2 | _ => 4

/-- SENSE_CONFIG against the energy ceiling and the pulse count (R348, R361, Table IMG-6). -/
def State.senseBudget (s : State) (t : TenantId) (r : ImageRecord) : List Finding :=
  let cls := s.energyClass
  let pulse := fun (w : Word) => decide (field w 26 2 = 3)
  let taken := ((s.otherImages t).flatMap (·.senses)).countP (fun d => pulse d.w0)
  let mine := ((r.entries 2).filter (fun e => pulse (e.2.getD 0 0))).map (·.1)
  (r.entries 2).flatMap (fun e =>
    let w := e.2.getD 0 0
    overBudget (decide (field w 26 2 = 0) && (decide (cls = 3) || decide (3 - cls < field w 24 2)) ||
      decide (field w 26 2 = 1) && decide (cls = 3)) e.1 ++
      overBudget (pulse w && decide (cls = 3) && (e.2.getD 1 0).getLsbD 14) (e.1 + 1)) ++
    (mine.drop (s.pulseCount - taken)).map (fun p => ⟨p, 0x13⟩)

/-- Step 9 of one record (R143, R213, R237, Table IMG-7). -/
def State.checkBudget (s : State) (t : TenantId) (i : Image) (r : ImageRecord) : List Finding :=
  if r.kind = kindProgram then
    let p := r.program
    overBudget (!(s.checkedPlans t i).all p.fits) (r.pos + 1) ++
      (p.breaks (benchSlots (s.code 5).toNat p.bench.val)).map (fun a => ⟨r.pos + 4 + 2 * a, 0x13⟩)
  else if r.kind = kindPorts then
    r.ports.1.flatMap (fun e => (e.2.2.zipIdx).flatMap (fun x =>
      overBudget (i.programs.any (fun p => decide (p.bench = benchOf (field x.1 24 3)) && decide (p.divisor ≠ 1)))
        (e.1 + 1 + x.2)))
  else if r.kind = kindSense then s.senseBudget t r
  else []

/-! ### Steps 5 to 9 -/

/-- The first failing step from 5 to 9 with its finding (R144). -/
def State.checkRecords (s : State) (t : TenantId) (i : Image) (rs : List ImageRecord) : Option (Nat × Finding) :=
  match lowest (s.checkFields t i rs) with
  | some x => some (5, x)
  | none =>
    match lowest (rs.flatMap (checkSizes i)) with
    | some x => some (6, x)
    | none =>
      match lowest (rs.flatMap (s.checkOwners t i)) with
      | some x => some (7, x)
      | none =>
        match lowest (rs.flatMap (s.checkWindows t i)) with
        | some x => some (8, x)
        | none =>
          match lowest (rs.flatMap (s.checkBudget t i) ++ s.otherBudgets t i rs) with
          | some x => some (9, x)
          | none => none

end Sys2Proof.Machine
end

