-- ==== Sys2Proof/Machine/TenantReset.lean ====
section
/-! DEFINITION. Sys2Proof/Machine/TenantReset.lean: tenant reset (R55, R60, R61 and Table PWR-6 of
spec/03_power_reset_release.md, R126 and R127 of spec/05_tenant_port.md, R258 of spec/10_glide_commit.md, R301 of
spec/12_mailboxes_results_events.md). -/
namespace Sys2Proof.Machine

/-- The frame that the next strobe begins. -/
def State.nextFrame (s : State) : Nat := if s.clock.strobed then s.clock.frame + 1 else 0

/-- Whether TRST_N_x counts as asserted: under tenant reset and not yet recognised high (R55, R60). -/
def Tenant.asserted (x : Tenant) : Bool := x.underReset && x.releaseDue.isNone

/-- TRST_N_x recognised low, or in its band: the hold strobe is the next one. Only a low level makes the port ignore CSN. -/
def Tenant.assert (x : Tenant) (level : PinLevel) (next : Nat) : Tenant :=
  if x.asserted then { x with trstLow := x.trstLow || decide (level = .low) }
  else { x with trstLow := decide (level = .low), holdDue := some (x.holdDue.getD next), lowFrame := next, releaseDue := none }

/-- TRST_N_LOW: low, or in its band, which counts as asserted (R54, R55, R60); judged from the end of POR. -/
def State.trstNLow (s : State) (t : TenantId) (pin : PinInput) (ns : Nat) : State :=
  if pin.level = .high ∨ s.power.state = .por then s
  else
    let r := s.recognise ns 200 1000
    if r.1 then r.2.modTenant t (fun x => x.assert pin.level s.nextFrame) else r.2

/-- TRST_N_HIGH: observed above its band and recognised high again, the release strobe is that of R61 (R54, R55, R126). -/
def State.trstNHigh (s : State) (t : TenantId) (pin : PinInput) (ns : Nat) : State :=
  if pin.level ≠ .high ∨ s.power.state = .por ∨ (s.tenant t).asserted = false then s
  else
    let r := s.recognise ns 200 1000
    if r.1 then
      r.2.modTenant t (fun x => { x with trstLow := false, releaseDue := some (Nat.max s.nextFrame (x.lowFrame + 1)) })
    else r.2

/-! ### The hold strobe -/

/-- Whether a bench enters HELD at a hold strobe: RUNNING, LATE or ARMED (Table PWR-6). -/
def Bench.holds (x : Bench) : Bool := x.active || decide (x.state = .armed)

/-- A bench's requests accepted before a tenant reset; its glides end and its pending commit is abandoned without an event
(R258, R288). -/
def Bench.reset (x : Bench) : Bench :=
  { x with
    reads := x.reads.map (fun q => { q with stale := true, revoked := true })
    writes := x.writes.map (fun q => { q with stale := true, revoked := true })
    coefs := if x.state = .fenced then x.coefs else { x.coefs.abandon with glides := [] } }

/-- The benches that enter HELD, as a mask. -/
def State.heldMask (s : State) (t : TenantId) : Byte :=
  (s.owned t).foldl (fun m b => if (s.bench b).holds then m ||| (1#8 <<< b.val) else m) 0

/-- The tenant's port at a hold strobe: outstanding tags retired with their reads, those FETCHED kept until the release, accepted
writes kept to be performed (Table PWR-6, Table TPT-12a, R60, R127). A frame that is still crossing to its unit is abandoned with
those in progress: R60 and R126 speak of a frame in progress alone (DEDUCED, log 52). -/
def State.holdPort (s : State) (t : TenantId) : State :=
  let head := (s.tenant t).port.jobs.head?
  let read := fun (j : PortJob) => match j.kind with | .read _ => true | _ => false
  let u := s.retireTags t HostTag.outstanding
  let v := u.modPort t (fun p => { p with
    inFlight := none, jobs := (p.jobs.filter (fun j => !read j)).map (fun j => { j with stale := true }) })
  if head.any read then v.endGrant t else v

/-- The staging area of a tenant reset: released unless the hold strobe of its own image has come (R141). -/
def State.holdStaging (s : State) (t : TenantId) : State :=
  let g := s.staging
  let kept := decide (g.phase = .installing) || (decide (g.phase = .passed) && decide (g.v + 1 ≤ s.clock.frame))
  if g.holder = some t ∧ kept = false then { s with staging := g.release } else s

/-- The effects of Table PWR-6 on a present tenant. -/
def State.holdTenant (s : State) (t : TenantId) : State :=
  let mask := s.heldMask t
  let bs := s.owned t
  let u := bs.foldl (fun s b => if (s.bench b).holds then s.stopBench b .held else s) s
  let v := (bs.foldl (fun s b => s.modBench b Bench.reset) u).newEpoch
  let w := (((v.emptyTenant t).holdStaging t).cancelPlan t).modTenant t (fun x => { x with events := 0 })
  w.logPart 0x0c ([BitVec.ofNat 8 t.val] ++ beBytes 8 s.clock.frame ++ [mask])

/-- TENANT_RESET_HOLD (R60). An absent tenant's port alone is held, without an entry (R127). -/
def State.tenantResetHold (s : State) (t : TenantId) : State :=
  if s.running = true ∧ s.clock.strobed = true ∧ (s.tenant t).holdDue.any (fun f => decide (f ≤ s.clock.frame)) = true then
    let u := (s.holdPort t).modTenant t (fun x => { x with held := true, holdDue := none })
    if s.owned t = [] then u else u.holdTenant t
  else s

/-! ### The release strobe -/

/-- A port at the release strobe: tags free, 8 credits, result, sequence and counters 0 (R126). The frames still to perform hold none of
those credits. -/
def Port.restart (p : Port) : Port :=
  { Port.init with jobs := p.jobs.map (fun j => { j with credit := false }), nextJob := p.nextJob, reply := p.reply }

/-- A bench's failure records cleared (Table PWR-6). -/
def BenchStatus.clearFailures (x : BenchStatus) : BenchStatus :=
  { x with failures := 0, nextFailure := 0, record := Vector.replicate 8 (0, 0) }

/-- A bench at the release strobe: its failure record cleared, but that of a FENCED one; a HELD bench becomes ARMED, its banks made
equal, its first-commit flag set and its result slots at 0 and STALE, unless an image is being installed (R61, R258, Table PWR-6, the
edges of spec/12_mailboxes_results_events.md; a FENCED bench keeps its outcomes, spec/17_faults_recovery.md). -/
def State.releaseBench (s : State) (t : TenantId) (b : BenchId) : State :=
  let u := if (s.bench b).state = .fenced then s else s.modBench b (fun x => { x with status := x.status.clearFailures })
  if (s.bench b).state = .held ∧ s.installing t = false then
    (u.armBench b).modBench b (fun x => { x with coefs := x.coefs.restart, results := emptyResults })
  else u

/-- TENANT_RESET_RELEASE (R61). The events stay 0: no BENCH_STATE is raised (R126). -/
def State.tenantResetRelease (s : State) (t : TenantId) : State :=
  let x := s.tenant t
  if s.running = true ∧ s.clock.strobed = true ∧ x.held = true ∧ x.holdDue = none ∧
      x.releaseDue.any (fun f => decide (f ≤ s.clock.frame)) = true then
    let u := s.modPort t Port.restart
    let v := if s.owned t = [] then u else ((s.owned t).foldl (fun s b => s.releaseBench t b) u).newEpoch.restartTenant t
    (v.modTenant t (fun x => { x with held := false, releaseDue := none })).judgeReleases
  else s

/-! ### The commands -/

/-- TRST_N_LOW (R60). -/
def execTrstNLow (t : TenantId) (pin : PinInput) (ns : Nat) (s : State) : Out := .next (s.trstNLow t pin ns)

/-- TENANT_RESET_HOLD (R60). -/
def execTenantResetHold (t : TenantId) (s : State) : Out := .next (s.tenantResetHold t)

/-- TRST_N_HIGH (R126). -/
def execTrstNHigh (t : TenantId) (pin : PinInput) (ns : Nat) (s : State) : Out := .next (s.trstNHigh t pin ns)

/-- TENANT_RESET_RELEASE (R61). -/
def execTenantResetRelease (t : TenantId) (s : State) : Out := .next (s.tenantResetRelease t)

end Sys2Proof.Machine
end

