-- ==== Sys2Proof/Machine/Images.lean ====
section
/-! DEFINITION. Sys2Proof/Machine/Images.lean: verification of the staged image, the hold strobe, installation and the activation
strobe (R133, R134, R141, R144 to R149 and Tables IMG-7, IMG-8, IMG-10 of spec/06_program_images.md; R78, R88, R257, R266, R291,
R302, R338, R345). -/
namespace Sys2Proof.Machine

/-! ### Verification -/

/-- VERIFY_START: the words of every frame accepted up to LAST are performed (R145). -/
def State.verifyStart (s : State) : State :=
  match s.staging.holder with
  | none => s
  | some t =>
    let waits := (s.tenant t).port.jobs.any (fun j => decide (j.kind = .load s.staging.generation))
    if s.running = true ∧ s.staging.phase = .complete ∧ waits = false then
      { s with staging := { s.staging with phase := .verifying, nextRead := 0, bad := none, misread := [], spoiled := 0 } }
    else s

/-- A refusal of verification (Table IMG-10): step, image word, code, the first 16 bytes of the digest, whether unsigned. -/
structure ImageRefusal where
  step : Nat
  pos : Nat
  code : Byte
  digest : List Byte
  unsigned : Bool
  deriving DecidableEq, Repr

/-- What verification comes to (Table IMG-7). -/
inductive ImageVerdict where
  | waits
  | refused (r : ImageRefusal)
  | passed (i : Image)
  deriving DecidableEq, Repr

/-- An image that fails with an uncorrectable word, or in steps 1 and 2: no digest is reported. -/
def ImageRefusal.early (unsigned : Bool) (step pos : Nat) (code : Byte) : ImageRefusal :=
  { step := step, pos := pos, code := code, digest := zeroBytes 16, unsigned := unsigned }

/-- Steps 3 to 9 over the image's words (R144). -/
def State.verdictLate (s : State) (t : TenantId) (ws : List Word) (rs : List ImageRecord) : ImageVerdict :=
  let i := imageOf ws rs
  let refuse := fun (step pos : Nat) (code : Byte) => ImageVerdict.refused ⟨step, pos, code, i.digest.take 16, i.unsigned⟩
  if s.signatureOk ws = false then refuse 3 0xffffffff 0x10
  else if s.rollbackOk t i = false then refuse 4 0xffffffff 0x11
  else match s.checkRecords t i rs with
    | some (step, x) => refuse step x.pos x.code
    | none => .passed i

/-- The verdict over the staged words: at the first failing step, at an uncorrectable word that a step reads, or once every word
has been read; in a wedged pit at the next word (R144, Tables PIT-4 and FLT-3). An early refusal too says whether the staged image
is unsigned (R149, log 63). -/
def State.verdict (s : State) (t : TenantId) : ImageVerdict :=
  let ws := s.stagedWords
  let split := splitRecords (ws.length + 1) 0 ws
  let early := checkEarly ws split.1 split.2 t s.family441
  let reads := earlyReads split.1 split.2 early
  let refuse := ImageRefusal.early (imageOf ws split.1).unsigned
  let ecc := fun (k : Nat) => ImageVerdict.refused (refuse 1 k 0x1b)
  let dead := s.isWedged 1 && decide (s.staging.nextRead < s.staging.length)
  let bad := if s.staging.bad.isNone ∧ dead = true then some s.staging.nextRead else s.staging.bad
  match bad, early with
    | some k, some (step, x) =>
      match reads.filter (fun r => decide (r = k) || (dead && decide (s.staging.nextRead ≤ r))) with
      | [] => .refused (refuse step x.pos x.code)
      | r :: rest => ecc (rest.foldl min r)
    | some k, none => ecc k
    | none, some (step, x) =>
      if reads.all (fun k => decide (k < s.staging.nextRead)) then .refused (refuse step x.pos x.code) else .waits
    | none, none => if s.staging.length ≤ s.staging.nextRead then s.verdictLate t ws split.1 else .waits

/-- The IMAGE_REFUSED payload (Table IMG-10). -/
def ImageRefusal.payload (r : ImageRefusal) (t : TenantId) (notLogged : Word) : List Byte :=
  [BitVec.ofNat 8 t.val, r.code, BitVec.ofNat 8 r.step, if r.unsigned then 1 else 0] ++ beBytes 4 r.pos ++
    beBytes 4 notLogged.toNat ++ r.digest

/-- IMAGE_REFUSED, at most one a second for a tenant; those not written are counted (R149, R411). -/
def State.logRefused (s : State) (t : TenantId) (r : ImageRefusal) : State :=
  let x := s.tenant t
  let count := fun (u : State) => u.modTenant t (fun x => { x with refusedNotLogged := x.refusedNotLogged + 1 })
  if x.refusedAt.all (fun f => decide (f + s.ff ≤ s.clock.frame)) then
    let u := s.logPart 0x0e (r.payload t x.refusedNotLogged)
    if s.logTakes then u.modTenant t (fun x => { x with refusedAt := some s.clock.frame, refusedNotLogged := 0 })
    else count u
  else count s

/-- Verification fails: the code kept, IMAGE_FAIL, the staging area released, IMAGE_REFUSED (R145). -/
def State.refuseImage (s : State) (t : TenantId) (r : ImageRefusal) : State :=
  let u := (s.modTenant t (fun x => { x with verifyCode := r.code })).raise t 4
  ({ u with staging := u.staging.release }).logRefused t r

/-- The total body length of the installed records (R146). -/
def Image.installLength (i : Image) : Nat := i.bodies.foldl (fun n b => n + b.2.1) 0

/-- Verification passes in this frame: v and a of Table IMG-8 (R146). -/
def State.passImage (s : State) (t : TenantId) (i : Image) : State :=
  let u := s.modTenant t (fun x => { x with verifyCode := 0 })
  { u with staging := { u.staging with
    phase := .passed, image := some i, v := s.clock.frame
    a := s.clock.frame + 1 + (1 + (i.installLength + 255) / 256) } }

/-- VERIFY_END (R144, R145). -/
def State.verifyEnd (s : State) : State :=
  match s.staging.holder with
  | none => s
  | some t =>
    if s.running = true ∧ s.staging.phase = .verifying then
      match s.verdict t with
      | .waits => s
      | .refused r => s.refuseImage t r
      | .passed i => s.passImage t i
    else s

/-- STAGING_TIMEOUT: 65,536 frames without an accepted LOAD (R141). -/
def State.stagingTimeout (s : State) : State :=
  if s.running = true ∧ s.staging.holder.isSome = true ∧ s.staging.phase = .loading ∧
      s.staging.lastLoad + 65537 ≤ s.clock.frame then
    { s with staging := s.staging.release }
  else s

/-! ### The hold strobe -/

/-- Whether an image names a bench. -/
def Image.names (i : Image) (b : BenchId) : Bool := i.benchMask.getLsbD b.val

/-- One bench of the tenant at the hold strobe: HELD, then LOADED where the image names it; its commit refused, the channels to it
emptied (R259, R299, Table IMG-8). -/
def State.holdBench (s : State) (i : Image) (b : BenchId) : State :=
  let u := if (s.bench b).holds then s.stopBench b .held else s
  let v := (u.refuseCommit b).emptyTo b
  if i.names b = true ∧ (v.bench b).state ≠ .fenced then v.setBenchState b .loaded else v

/-- The benches whose records an installer that begins now reads as poison: all of the image's with a wedged pit (R432, Table FLT-3). -/
def State.poisonedRecords (s : State) (i : Image) : Byte := if s.isWedged 1 then unread i.bodies 0 else 0

/-- HOLD_STROBE (R146). -/
def State.holdStrobe (s : State) : State :=
  match s.staging.holder, s.staging.image with
  | some t, some i =>
    if s.running = true ∧ s.clock.strobed = true ∧ s.staging.phase = .passed ∧ s.staging.v + 1 ≤ s.clock.frame then
      let u := (s.owned t).foldl (fun s b => s.holdBench i b) s
      ({ u with staging := { u.staging with phase := .installing, nextRead := 0, spoiled := s.poisonedRecords i } }).cancelPlan t
    else s
  | _, _ => s

/-! ### The activation strobe -/

/-- The banks that COEF_INIT, LUT and GLIDE_LAWS give a bench: equal, without a glide, the first-commit flag set (R134, R147,
R257). -/
def Image.coefBanks (i : Image) (b : BenchId) (active1 : Bool) : Coefs :=
  let bank := (i.coefs.filter (fun c => decide (c.bench = b))).foldl (fun m c => Sparse.writeAll 0 m c.first c.values) []
  { Coefs.init with
    bank0 := bank, bank1 := bank, active1 := active1, first := true
    laws := (i.laws.filter (fun l => decide (l.bench = b))).foldl (fun m l => Sparse.writeAll 0 m l.first l.laws) [] }

/-- The sequencer that a BENCH_PROGRAM record gives (R64, R134); the positions and the stretch toggle run on from the old one. -/
def BenchProgram.sequencer (p : BenchProgram) (old : Sequencer) : Sequencer :=
  { Sequencer.init with
    prog := Sparse.writeAll 0 [] 0 p.steps, prologue := p.prologue, main := p.main, length := p.length, divisor := p.divisor
    before := old.before + old.length, toggle := old.toggle }

/-- A bench with its records installed. -/
def Bench.install (x : Bench) (i : Image) (b : BenchId) : Bench :=
  let lines := (i.delays.filter (fun d => decide (d.bench = b))).flatMap (·.lines)
  { x with
    seq := ((i.programs.find? (fun p => decide (p.bench = b))).map (fun p => p.sequencer x.seq)).getD x.seq
    lines := lines.map (fun l => { base := l.base, length := l.length, w := 0, f := 0, fresh := false }), delay := []
    coefs := i.coefBanks b x.coefs.active1, results := emptyResults }

/-- One bench of the tenant at the activation strobe: a named LOADED bench becomes ARMED, HELD under tenant reset, or OFF where the
installer met an uncorrectable word; one not named becomes OFF; a FENCED one stays (Tables IMG-8 and PIT-4). -/
def State.activateBench (s : State) (t : TenantId) (i : Image) (spoiled : Byte) (b : BenchId) : State :=
  if (s.bench b).state = .fenced then s
  else if i.names b = true ∧ spoiled.getLsbD b.val = false then
    let u := s.modBench b (fun x => x.install i b)
    if (u.tenant t).held then u.setBenchState b .held else u.armBench b
  else (s.modBench b (fun x => { x with results := emptyResults })).setBenchState b .off

/-- Whether a pit word lies in a window of an image. -/
def Image.covers (i : Image) (a : Nat) : Bool := i.windows.any (fun d => decide (d.base ≤ a) && decide (a < d.base + d.length))

/-- Whether a word's written bit is cleared: in a window of the new image and in none of the old one's (R266). -/
def cleared (old : Option Image) (new : Image) (a : Nat) : Bool := new.covers a && !old.any (fun o => o.covers a)

/-- The written bits cleared at activation, with the scrubs of those words (R266, R282). -/
def Pit.clearNew (p : Pit) (old : Option Image) (new : Image) : Pit :=
  { p with
    mem := p.mem.filter (fun x => !cleared old new x.1)
    scrub := p.scrub.filter (fun x => !cleared old new x.1) }

/-- Every audio port under the new PORT_MAP (R338). -/
def State.activatePorts (s : State) (t : TenantId) (i : Image) : State :=
  (List.finRange 8).foldl (fun s p => s.nameSap t p (i.ports.find? (fun e => decide (e.port = p)))) s

/-- Every sense channel under the new SENSE_CONFIG and USER_CAL (R345, R363, R367); a wedged sense island takes nothing (R432). -/
def State.activateSense (s : State) (t : TenantId) (i : Image) (terminals : Vector Int 16) : State :=
  if s.isWedged 8 then s
  else s.reconfigure t (fun ch => i.senses.find? (fun d => decide (d.channel = ch)))
    (fun ch => i.cals.find? (fun d => decide (d.channel = ch))) (fun ch => terminals[ch])

/-- Tenant 0's plan and band entry (R78, R87, R88). -/
def State.activateClock (s : State) (t : TenantId) (i : Image) : State :=
  if t = 0 then
    let o := i.bands.map (fun (p : BandEntry × BandEntry) => if s.family441 then p.2 else p.1)
    let u := { s with clock := { s.clock with pending := none, override := o } }
    u.loadPlan ((u.planWord ((i.plans.map (fun (p : PlanSet) => p.initial)).getD 0)).getD u.clock.plan)
  else s

/-- Whether a signed image raises the floor; a wedged weighbridge writes nothing (R133, R432, log 31). -/
def State.raisesFloor (s : State) (t : TenantId) (i : Image) : Bool :=
  !i.unsigned && !s.straps.devel && !s.isWedged 9 && decide ((vget s.wb.nv.floors t.val 0).toNat < i.rollback.toNat)

/-- The floor raised (R133). -/
def State.raiseFloor (s : State) (t : TenantId) (i : Image) : State :=
  if s.raisesFloor t i then
    let b := s.wb.nv.block
    { s with wb := { s.wb with nv := s.wb.nv.update { b with floors := vmod b.floors t.val (fun _ => i.rollback) } } }
  else s

/-- The IMAGE_ACTIVE payload (Table IMG-10). -/
def State.activePayload (s : State) (t : TenantId) (i : Image) : List Byte :=
  [BitVec.ofNat 8 t.val,
   BitVec.ofNat 8 ((if (s.tenant t).image.isSome then 8 else 0) + (if s.raisesFloor t i then 4 else 0) +
     (if s.straps.devel then 2 else 0) + (if i.unsigned then 1 else 0)), i.benchMask, 0] ++
    beBytes 4 i.rollback.toNat ++ beBytes 4 i.build.toNat ++ i.digest.take 16

/-- The image as it takes effect: the installed records as the installer read them, the others as the verifier captured them
(R280). -/
def State.installedImage (s : State) (i : Image) : Image :=
  let ws := s.stagedWords
  let now := imageOf ws (splitRecords (ws.length + 1) 0 ws).1
  { i with programs := now.programs, delays := now.delays, coefs := now.coefs, laws := now.laws }

/-- What becomes of the shared units, then the tenant's benches (Table IMG-8). -/
def State.activateUnits (s : State) (t : TenantId) (i : Image) (spoiled : Byte) (terminals : Vector Int 16) : State :=
  let u := { s with pit := s.pit.clearNew (s.tenant t).image i }
  let v := ((u.modTenant t (fun x => { x with image := some i })).newEpoch.activateChannels t i.channels).activatePorts t i
  let w := (v.activateSense t i terminals).activateClock t i
  (s.owned t).foldl (fun s b => s.activateBench t i spoiled b) w

/-- The part enters OPERATING at the first activation (R147, Table PWR-2). -/
def State.enterOperating (s : State) : State :=
  if s.power.state = .awaitImage then { s with power := { s.power with state := .operating } } else s

/-- ACTIVATION_STROBE (R146). -/
def State.activationStrobe (s : State) (terminals : Vector Int 16) : State :=
  match s.staging.holder, s.staging.image with
  | some t, some captured =>
    if s.running = true ∧ s.clock.strobed = true ∧ s.staging.phase = .installing ∧ s.staging.a ≤ s.clock.frame then
      let i := s.installedImage captured
      let payload := s.activePayload t i
      let spoiled := s.staging.spoiled
      let u := { s with staging := s.staging.release }
      let v := ((u.activateUnits t i spoiled terminals).raiseFloor t i).enterOperating
      ((v.raise t 3).logPart 0x0d payload).judgeReleases
    else s
  | _, _ => s

/-! ### The commands -/

/-- VERIFY_START (R145). -/
def execVerifyStart (s : State) : Out := .next s.verifyStart

/-- VERIFY_END (R144). -/
def execVerifyEnd (s : State) : Out := .next s.verifyEnd

/-- HOLD_STROBE (R146). -/
def execHoldStrobe (s : State) : Out := .next s.holdStrobe

/-- ACTIVATION_STROBE (R146). -/
def execActivationStrobe (terminals : Vector Int 16) (s : State) : Out := .next (s.activationStrobe terminals)

/-- STAGING_TIMEOUT (R141). -/
def execStagingTimeout (s : State) : Out := .next s.stagingTimeout

end Sys2Proof.Machine
end

