-- ==== Sys2Proof/Machine/Traffic.lean ====
section
/-! DEFINITION. Sys2Proof/Machine/Traffic.lean: the traffic steps (R210 to R238 of spec/09_traffic_steps.md). In each, the
bench is settled and `r` is the step's position. -/
namespace Sys2Proof.Machine

/-- What the settled bench of a step writes at its own position. -/
def State.pushStep (s : State) (b : BenchId) (r : Nat) (ts : List PipeTarget) : State :=
  s.modBench b (fun x => x.pushAll r ts)

/-- A bit as a word. -/
def boolWord (x : Bool) : Word := if x then 1 else 0

/-! ### View steps -/

/-- PIN writes the sample of its view index (R213). -/
def Bench.stepPin (x : Bench) (f : StepFields) (r : Nat) : Bench :=
  x.push r (.reg f.rd (vget x.view.audio (f.bits 0 6) 0))

/-- SIN writes the channel's sample; F is 'new in this view' (R214). -/
def Bench.stepSin (x : Bench) (f : StepFields) (r : Nat) : Bench :=
  let v := vget x.view.samples (f.bits 0 4) ⟨0, false⟩
  x.pushAll r (.reg f.rd v.value :: flagWrite f v.fresh)

/-- PLS writes the interval, the count or the age of a pulse channel (R215). -/
def Bench.stepPls (x : Bench) (f : StepFields) (r : Nat) : Bench :=
  let v := vget x.view.pulses (f.bits 0 4) ⟨0, 0, 0xffffffff, false⟩
  let w := match f.bits 4 2 with | 0 => v.interval | 1 => v.count | _ => v.age
  x.pushAll r (.reg f.rd w :: flagWrite f v.fresh)

/-- RIN writes a stream cell; F is 'absent' (R216). -/
def Bench.stepRin (x : Bench) (f : StepFields) (r : Nat) : Bench :=
  let v := vget x.view.cells (f.bits 0 7) ⟨0, true⟩
  x.pushAll r (.reg f.rd (if v.absent then 0 else v.value) :: flagWrite f v.absent)

/-- TOD writes a word of Table TRF-3 (R233). -/
def Bench.stepTod (x : Bench) (f : StepFields) (r : Nat) : Bench :=
  let v := x.view
  let w := match f.bits 0 2 with
    | 0 => v.todSeconds
    | 1 => (v.todFrame.setWidth 32 <<< 16) ||| boolWord v.todMarked
    | 2 => v.todEpoch
    | _ => v.ringEpoch
  x.pushAll r (.reg f.rd w :: flagWrite f v.todChanged)

/-- FCNT writes a word of Table TRF-3 (R233). -/
def Bench.stepFcnt (x : Bench) (f : StepFields) (r : Nat) : Bench :=
  let v := x.view
  let w := match f.bits 0 3 with
    | 0 => BitVec.ofNat 32 v.frame
    | 1 => BitVec.ofNat 32 (v.frame / 2 ^ 32)
    | 2 => BitVec.ofNat 32 v.ringFrame
    | 3 => BitVec.ofNat 32 (v.ringFrame / 2 ^ 32)
    | _ => v.powerCycle
  x.pushAll r (.reg f.rd w :: flagWrite f v.ringLock)

/-! ### Staged steps -/

/-- A staged value put before the earlier ones of its place (R174). -/
def stagePut (l : List (Nat × Word)) (k : Nat) (v : Word) : List (Nat × Word) :=
  (k, v) :: l.filter (fun x => decide (x.1 ≠ k))

/-- POUT stages a for an output slot (R213). -/
def Bench.stepPout (x : Bench) (f : StepFields) (_ : Nat) : Bench :=
  { x with stage := { x.stage with outputs := stagePut x.stage.outputs (f.bits 0 6) (x.reg f.ra) } }

/-- ROUT stages a for a stream cell (R217). -/
def Bench.stepRout (x : Bench) (f : StepFields) (_ : Nat) : Bench :=
  { x with stage := { x.stage with cells := stagePut x.stage.cells (f.bits 0 7) (x.reg f.ra) } }

/-- RSLT stages a for a result slot (R217). -/
def Bench.stepRslt (x : Bench) (f : StepFields) (_ : Nat) : Bench :=
  { x with stage := { x.stage with results := stagePut x.stage.results (f.bits 0 6) (x.reg f.ra) } }

/-- PLAN stages a plan index (R235). -/
def Bench.stepPlan (x : Bench) (f : StepFields) (_ : Nat) : Bench :=
  { x with stage := { x.stage with
    plan := some (if f.ext.getLsbD 3 then (x.reg f.rb).setWidth 3 else f.ext.setWidth 3) } }

/-! ### Pit reads and writes -/

/-- The word offset o of R218. -/
def Bench.offset (x : Bench) (f : StepFields) : Nat :=
  if f.os then ((x.reg f.rb).toNat + f.off) % 2 ^ 20 else f.off

/-- A tag whose latest PRD is the one at `r`: what it held stays readable until 64 positions later (R220). -/
def Bench.markTag (x : Bench) (t r : Nat) : Bench :=
  { x with tags := vmod x.tags t (fun g => { g with old := g.data, last := some r }) }

/-- A tag whose PRD is refused or poisoned: data 0 and valid 0 (R220). -/
def Bench.refuseTag (x : Bench) (t r : Nat) : Bench :=
  ({ x with tags := vmod x.tags t (fun g => { g with data := 0, valid := false }) }).push r (.tagSeen t false)

/-- PRD: refused, completed with poison, or queued (R219, R223, R286, Table FLT-3). -/
def State.stepPrd (s : State) (b : BenchId) (f : StepFields) (r : Nat) : State :=
  let x := s.bench b
  let o := x.offset f
  let w := s.checkWindow b.val f.win rightRead o 1
  let s := s.modBench b (fun x => x.markTag f.tag r)
  if w.1 ≠ 0 then (s.modBench b (fun x => x.refuseTag f.tag r)).raiseOwner b 9
  else if s.isWedged 1 then s.modBench b (fun x => x.refuseTag f.tag r)
  else
    let q : BenchRequest := { pos := r, addr := x.seq.address, window := f.win, base := w.2.base, length := w.2.length,
                              offset := o, tag := f.tag, data := 0, stale := false,
                              revoked := false }
    s.modBench b (fun x => { x with reads := x.reads ++ [q] })

/-- PGET writes the tag's data; at less than 64 positions it writes what the tag held before, and clears P_F (R220). -/
def Bench.stepPget (x : Bench) (f : StepFields) (r : Nat) : Bench :=
  let g := vget x.tags f.tag ⟨0, false, 0, none⟩
  let far := g.last.all (fun p => decide (p + 64 ≤ r))
  x.pushAll r (.reg f.rd (if far then g.data else g.old) :: flagWrite f (far && g.valid))

/-- A PWR refused with a code: its failure record, LATE_WRITE_FAIL, and PIT_REFUSED where a check at acceptance refused it
(R222, R288). -/
def State.refusePwr (s : State) (b : BenchId) (r : Nat) (code : Byte) (refused : Bool) : State :=
  let s := s.modBench b (fun x => x.recordAt r code 1 x.seq.address s.clock.frame)
  let s := s.raiseOwner b 12
  if refused then s.raiseOwner b 9 else s

/-- PWR: refused, completed with poison, or queued (R222, R277, R286, Table FLT-3). -/
def State.stepPwr (s : State) (b : BenchId) (f : StepFields) (r : Nat) : State :=
  let x := s.bench b
  let o := x.offset f
  let w := s.checkWindow b.val f.win rightWrite o 1
  if w.1 ≠ 0 then s.refusePwr b r w.1 true
  else if 8 ≤ x.writes.length then s.refusePwr b r 0x03 true
  else if s.isWedged 1 then s.refusePwr b r 0x1b false
  else
    let q : BenchRequest := { pos := r, addr := x.seq.address, window := f.win, base := w.2.base, length := w.2.length,
                              offset := o, tag := 0, data := x.reg f.ra, stale := false,
                              revoked := false }
    s.modBench b (fun x => { x with writes := x.writes ++ [q] })

/-- PRIO sets the spare-slot priority (R224). -/
def Bench.stepPrio (x : Bench) (f : StepFields) (r : Nat) : Bench :=
  ({ x with prio := f.ext.setWidth 3 }).push r (.prioSeen (f.ext.setWidth 3))

/-! ### Reply steps -/

/-- The write-back of a reply step, at position s + 13 (R225). -/
def State.reply (s : State) (b : BenchId) (f : StepFields) (r : Nat) (v : Word) (flag : Bool) : State :=
  s.pushStep b (r + 13) (.reg f.rd v :: flagWrite f flag)

/-- The write-back of a code: its flag condition is 'the code is OK' (R225). -/
def State.replyCode (s : State) (b : BenchId) (f : StepFields) (r : Nat) (code : Byte) : State :=
  s.reply b f r (code.setWidth 32) (decide (code = 0))

/-- POST SUB 0: BENCH_ABSENT raises MBX_ABSENT (R226). -/
def State.stepPost (s : State) (b : BenchId) (f : StepFields) (r : Nat) : State :=
  let p := s.postNotice b.val f.ep ((s.bench b).reg f.ra) (s.writeBound b.val r)
  let u := if p.1 = 0x09 then p.2.raiseOwner b 8 else p.2
  u.replyCode b f r p.1

/-- POST SUB 1: withdraw (R226). -/
def State.stepWithdraw (s : State) (b : BenchId) (f : StepFields) (r : Nat) : State :=
  let p := s.withdrawNotice b.val f.ep
  p.2.replyCode b f r p.1

/-- POST SUB 2: query (R226). -/
def State.stepQuery (s : State) (b : BenchId) (f : StepFields) (r : Nat) : State :=
  let q := s.queryWord b.val f.ep
  s.reply b f r q.1 q.2

/-- TAKE writes the notice or 0 (R227). -/
def State.stepTake (s : State) (b : BenchId) (f : StepFields) (r : Nat) : State :=
  let p := s.takeNotice f.ep b.val
  p.2.reply b f r (p.1.getD 0) p.1.isSome

/-- ACKN acknowledges with a[15:0] (R228). -/
def State.stepAckn (s : State) (b : BenchId) (f : StepFields) (r : Nat) : State :=
  let p := s.ackNotice f.ep b.val (((s.bench b).reg f.ra).setWidth 16) (s.writeBound b.val r)
  p.2.replyCode b f r p.1

/-- WIT appends a witness entry of D[a] to D[a + 6] (R229). -/
def State.stepWit (s : State) (b : BenchId) (f : StepFields) (r : Nat) : State :=
  match s.owner b with
  | none => s
  | some t =>
    let payload := (List.range 7).flatMap (fun i => beBytes 4 ((s.bench b).reg (f.ra + i)).toNat)
    let p := s.appendEntry t true (s.source 1 b.val) (BitVec.ofNat 8 (0x80 + f.bits 0 6)) payload
    let u := if p.1 = 0 then p.2.2.raise t 26 else if p.1 = 0x1c then p.2.2.raise t 28 else p.2.2
    u.reply b f r (if p.1 = 0 then p.2.1.seq <<< 8 else p.1.setWidth 32) (decide (p.1 = 0))

/-- COMMIT requests a commit; a refusal raises COMMIT_REFUSED (R230, R262). -/
def State.stepCommit (s : State) (b : BenchId) (f : StepFields) (r : Nat) : State :=
  match s.owner b with
  | none => s
  | some t =>
    let p := s.requestCommit t (f.ext.setWidth 8) none
    let u := if p.1 = 0 then p.2 else p.2.raise t 6
    u.replyCode b f r p.1

/-- RWR queues a remote write, or BUSY with 16 outstanding or without ring lock (R231). -/
def State.stepRwr (s : State) (b : BenchId) (f : StepFields) (r : Nat) : State :=
  let x := s.bench b
  if 16 ≤ x.remotes ∨ s.ring.locked = false ∨ s.isWedged 2 = true then s.replyCode b f r 0x03
  else
    let q : RemoteRequest := { rid := f.bits 32 6, window := f.win, offset := x.offset f, data := x.reg f.ra,
                               tag := x.generation ++ x.remoteSeq, addr := x.seq.address }
    let u := { s with ring := { s.ring with rwrQ := vmod s.ring.rwrQ b.val (fun l => l ++ [q]) } }
    let v := u.modBench b (fun x =>
      ({ x with remotes := x.remotes + 1, remoteSeq := x.remoteSeq + 1 }).push r .remote)
    v.replyCode b f r 0x00

/-- EVT raises BENCH_EVT (R232). -/
def State.stepEvt (s : State) (b : BenchId) : State := s.raiseOwner b 31

/-! ### STAT -/

/-- A word of the bench status block (Table BEN-6). -/
def BenchStatus.word (st : BenchStatus) (i : Nat) : Word :=
  match i with
  | 0 => st.lateCount ++ st.failures ++ 0#5 ++ st.nextFailure
  | 1 => st.periods
  | 2 => st.stretchLatest ++ st.stretchMax
  | 3 => st.flags.setWidth 32
  | 4 => st.corrected ++ st.uncorrectable
  | _ =>
    if i < 8 then 0
    else
      let e := vget st.record ((i - 8) / 2) (0, 0)
      if i % 2 = 0 then e.1 else e.2

/-- The remote writes of the bench's own steps that STAT does not see yet (R234). -/
def Bench.unseenRemotes (x : Bench) : Nat := (x.pipe.filter (fun w => decide (w.target = .remote))).length

/-- The word of Table TRF-4 as it stands (R234). -/
def State.statWord (s : State) (b : BenchId) (i : Nat) : Word :=
  let x := s.bench b
  if i < 24 then x.status.word i
  else if i = 32 then
    BitVec.ofNat 32 ((s.clock.plan.toNat / 2 ^ 13 % 8) * 256 + x.prioSeen.toNat * 16 + x.state.code)
  else if i = 33 then BitVec.ofNat 32 ((x.remotes - x.unseenRemotes) * 2 ^ 16 + x.tagSeen.toNat)
  else if i = 34 then BitVec.ofNat 32 ((if s.ring.folded then 2 else 0) + (if s.ring.locked then 1 else 0))
  else if i = 35 then (celsiusByte s.power.reading).signExtend 32
  else 0

/-- STAT writes a status word (R234). -/
def State.stepStat (s : State) (b : BenchId) (f : StepFields) (r : Nat) : State :=
  s.pushStep b r [.reg f.rd (s.statWord b (f.bits 0 6))]

/-! ### The commands -/

/-- PIN (R213). -/
def execPin (b : BenchId) (f : StepFields) (s : State) : Out := .next (s.issueBench b 0x28#6 f Bench.stepPin)

/-- POUT (R213). -/
def execPout (b : BenchId) (f : StepFields) (s : State) : Out := .next (s.issueBench b 0x29#6 f Bench.stepPout)

/-- SIN (R214). -/
def execSin (b : BenchId) (f : StepFields) (s : State) : Out := .next (s.issueBench b 0x2a#6 f Bench.stepSin)

/-- PLS (R215). -/
def execPls (b : BenchId) (f : StepFields) (s : State) : Out := .next (s.issueBench b 0x2b#6 f Bench.stepPls)

/-- RIN (R216). -/
def execRin (b : BenchId) (f : StepFields) (s : State) : Out := .next (s.issueBench b 0x2c#6 f Bench.stepRin)

/-- ROUT (R217). -/
def execRout (b : BenchId) (f : StepFields) (s : State) : Out := .next (s.issueBench b 0x2d#6 f Bench.stepRout)

/-- PRD (R219). -/
def execPrd (b : BenchId) (f : StepFields) (s : State) : Out := .next (s.issue b 0x2e#6 f (fun u r => u.stepPrd b f r))

/-- PGET (R220). -/
def execPget (b : BenchId) (f : StepFields) (s : State) : Out := .next (s.issueBench b 0x2f#6 f Bench.stepPget)

/-- PWR (R222). -/
def execPwr (b : BenchId) (f : StepFields) (s : State) : Out := .next (s.issue b 0x30#6 f (fun u r => u.stepPwr b f r))

/-- PRIO (R224). -/
def execPrio (b : BenchId) (f : StepFields) (s : State) : Out := .next (s.issueBench b 0x31#6 f Bench.stepPrio)

/-- POST with SUB 0 (R226). -/
def execPostStep (b : BenchId) (f : StepFields) (s : State) : Out :=
  .next (if f.bits 36 2 = 0 then s.issue b 0x32#6 f (fun u r => u.stepPost b f r) else s)

/-- POST with SUB 1 (R226). -/
def execWithdrawStep (b : BenchId) (f : StepFields) (s : State) : Out :=
  .next (if f.bits 36 2 = 1 then s.issue b 0x32#6 f (fun u r => u.stepWithdraw b f r) else s)

/-- POST with SUB 2 (R226). -/
def execQueryStep (b : BenchId) (f : StepFields) (s : State) : Out :=
  .next (if f.bits 36 2 = 2 then s.issue b 0x32#6 f (fun u r => u.stepQuery b f r) else s)

/-- TAKE (R227). -/
def execTakeStep (b : BenchId) (f : StepFields) (s : State) : Out :=
  .next (s.issue b 0x33#6 f (fun u r => u.stepTake b f r))

/-- ACKN (R228). -/
def execAckn (b : BenchId) (f : StepFields) (s : State) : Out := .next (s.issue b 0x34#6 f (fun u r => u.stepAckn b f r))

/-- RSLT (R217). -/
def execRslt (b : BenchId) (f : StepFields) (s : State) : Out := .next (s.issueBench b 0x35#6 f Bench.stepRslt)

/-- EVT (R232). -/
def execEvt (b : BenchId) (f : StepFields) (s : State) : Out := .next (s.issue b 0x36#6 f (fun u _ => u.stepEvt b))

/-- WIT (R229). -/
def execWit (b : BenchId) (f : StepFields) (s : State) : Out := .next (s.issue b 0x37#6 f (fun u r => u.stepWit b f r))

/-- COMMIT (R230). -/
def execCommitStep (b : BenchId) (f : StepFields) (s : State) : Out :=
  .next (s.issue b 0x38#6 f (fun u r => u.stepCommit b f r))

/-- RWR (R231). -/
def execRwr (b : BenchId) (f : StepFields) (s : State) : Out := .next (s.issue b 0x39#6 f (fun u r => u.stepRwr b f r))

/-- TOD (R233). -/
def execTod (b : BenchId) (f : StepFields) (s : State) : Out := .next (s.issueBench b 0x3a#6 f Bench.stepTod)

/-- FCNT (R233). -/
def execFcnt (b : BenchId) (f : StepFields) (s : State) : Out := .next (s.issueBench b 0x3b#6 f Bench.stepFcnt)

/-- STAT (R234). -/
def execStat (b : BenchId) (f : StepFields) (s : State) : Out := .next (s.issue b 0x3c#6 f (fun u r => u.stepStat b f r))

/-- PLAN (R235). -/
def execPlan (b : BenchId) (f : StepFields) (s : State) : Out := .next (s.issueBench b 0x3d#6 f Bench.stepPlan)

end Sys2Proof.Machine
end

