-- ==== Sys2Proof/Machine/Tap.lean ====
section
/-! DEFINITION. Sys2Proof/Machine/Tap.lean: the test access port (spec/19_package_pins.md). A command loads the instruction and
makes one scan of the data register that the instruction selects. -/
namespace Sys2Proof.Machine

/-- The identification code of the part (R469). -/
def tapIdcode : Word := 0x106485af#32

/-- The value of Capture-IR (R469). -/
def State.irCapture (s : State) : BitVec 5 := if s.power.state = .por then 0b00101#5 else 0b00001#5

/-- An instruction updated into the instruction register (R469, R470): it is held as loaded, and acts as its code and the part
state give at each moment. One that holds the part in POR makes the 1.0 ms count anew. -/
def State.loadIr (s : State) (code : BitVec 5) : State :=
  let t := { s.tap with ir := code, irCapture := s.irCapture }
  { s with tap := { t with blocked := t.blocked || decide (s.power.state = .por) && t.holds } }

/-- The data registers of the TAP (Table PKG-6). -/
inductive DataRegister where
  | boundary
  | identification
  | debug
  | bypass
  deriving DecidableEq, Repr

/-- The data register that the instruction register selects (Table PKG-6): EXTEST the boundary register only in POR, BENCH_DBG its
own only where DEVEL was sampled high in this power cycle and since the full reset, and every code not listed the bypass register
(R469, R470, R472). -/
def State.dataRegister (s : State) : DataRegister :=
  match s.tap.ir.toNat with
  | 0 => if s.power.state = .por then .boundary else .bypass
  | 1 => .boundary
  | 2 => .identification
  | 8 => if s.straps.devel then .debug else .bypass
  | _ => .bypass

/-- A scan through the bypass register: Capture-DR gives 0, and the last bit shifted in stays. -/
def State.scanBypass (s : State) (last : Bool) : State := { s with tap := { s.tap with bypass := last } }

/-- A scan of the boundary register: the pins are captured, and the update stage takes what was shifted in. -/
def State.scanBoundary (s : State) (shiftIn pins : BitVec 114) : State :=
  { s with tap := { s.tap with boundary := pins, update := shiftIn } }

/-- What the scanned pins are driven from. -/
inductive PinSource where
  /-- The part's own control. -/
  | part
  /-- The update stage of the boundary register. -/
  | boundary
  /-- Every scanned output is at high impedance. -/
  | floating
  deriving DecidableEq, Repr

/-- What drives the scanned pins: EXTEST, CLAMP and HIGHZ act only in POR (R470). -/
def State.pinSource (s : State) : PinSource :=
  if s.power.state ≠ .por then .part
  else if s.tap.ir = 0 ∨ s.tap.ir = 4 then .boundary
  else if s.tap.ir = 5 then .floating
  else .part

/-- The data of a Capture-DR of the bench debug register: what a STAT at this moment would give, or a debug latch (R472). -/
def State.debugData (s : State) (bench : BenchId) (selector : Nat) : Word :=
  if selector < 24 ∨ 32 ≤ selector ∧ selector < 36 then (s.modBench bench Bench.now).statWord bench selector
  else if 64 ≤ selector ∧ selector < 96 then vget (s.bench bench).debug (selector - 64) 0
  else 0

/-- The bench debug register after a scan: the data captured with the bench and the selector of the scan before, then the bench
and the selector shifted in (R472). -/
def State.debugScan (s : State) (shiftIn : BitVec 42) : BitVec 42 :=
  let held := s.tap.debug
  shiftIn.extractLsb' 32 10 ++ s.debugData (Fin.ofNat 8 (held.extractLsb' 39 3).toNat) (held.extractLsb' 32 7).toNat

/-! ### The commands -/

/-- TAP_RESET: by VDD_IO_A rising through its threshold or by five TCK edges with TMS high (R469). -/
def execTapReset (_byPin : Bool) (s : State) : Out := .next { s with tap := { s.tap with ir := 2 } }

/-- EXTEST: outside POR it selects the bypass register (R470). The last bit shifted in is the cell next to TDI. -/
def execExtest (shiftIn : BitVec 114) (pins : BitVec 114) (s : State) : Out :=
  let u := s.loadIr 0
  .next (if u.dataRegister = .boundary then u.scanBoundary shiftIn pins else u.scanBypass (shiftIn.getLsbD 0))

/-- SAMPLE_PRELOAD, the table's SAMPLE/PRELOAD (R469). -/
def execSamplePreload (shiftIn : BitVec 114) (pins : BitVec 114) (s : State) : Out :=
  .next ((s.loadIr 1).scanBoundary shiftIn pins)

/-- IDCODE (R469). -/
def execIdcode (s : State) : Out :=
  let u := s.loadIr 2
  .next { u with tap := { u.tap with idcode := tapIdcode } }

/-- TAP_CLAMP, the instruction CLAMP (R470). -/
def execTapClamp (tdi : Bool) (s : State) : Out := .next ((s.loadIr 4).scanBypass tdi)

/-- HIGHZ (R470). -/
def execHighz (tdi : Bool) (s : State) : Out := .next ((s.loadIr 5).scanBypass tdi)

/-- BENCH_DBG: the bypass register where DEVEL was not sampled high in this power cycle or since the full reset (R472). The last
bit shifted in is the register's highest. -/
def execBenchDbg (shiftIn : BitVec 42) (s : State) : Out :=
  let u := s.loadIr 8
  .next (if u.dataRegister = .debug then { u with tap := { u.tap with debug := s.debugScan shiftIn } }
         else u.scanBypass (shiftIn.getLsbD 41))

/-- BYPASS, under its own code or one that Table PKG-6 does not list (R469). -/
def execBypass (code : BitVec 5) (tdi : Bool) (s : State) : Out :=
  ifWf (bypassCode code) s ((s.loadIr code).scanBypass tdi)

end Sys2Proof.Machine
end

