-- ==== Sys2Proof/Machine/Pins.lean ====
section
/-! DEFINITION. Sys2Proof/Machine/Pins.lean: what the part drives on its pins, and the cells of the boundary register (R315, R322,
R323, R338, R339 of spec/13_audio_ports.md, R464, R467, R470, R471 of spec/19_package_pins.md). -/
namespace Sys2Proof.Machine

/-- The signal pins that the part can drive, and the scanned inputs (Table PKG-2); the lanes are in `State.linkDrive`. -/
inductive Pin where
  | tpSck (t : TenantId)
  | tpCsN (t : TenantId)
  | tpSdi (t : TenantId)
  | tpSdo (t : TenantId)
  | attnN (t : TenantId)
  | trstN (t : TenantId)
  | resetN
  | start
  | faultN
  | devel
  | provN
  | code (i : Fin 8)
  | tdo
  | sapSck (p : SapId)
  | sapWs (p : SapId)
  | sapSd (p : SapId)
  | mclk (i : Fin 2)
  | snsP (c : SenseId)
  | snsN (c : SenseId)
  | xout
  deriving DecidableEq, Repr

/-- What the part puts on a sense terminal (Tables SNS-1 and SNS-2): 1 MΩ to VSS, the regulated IEPE current in µA, 2.0 V through
2.2 kΩ, 1 MΩ to the internal 3.0 V, the optional 4.7 kΩ pull-up to 2.0 V, and the channel's return joined to VSS. -/
inductive Terminal where
  | toVss
  | current (ua : Nat)
  | bias
  | toRail
  | pullUp
  | ground
  deriving DecidableEq, Repr

/-- What the part puts on a pin: nothing, a level, a signal of the unit that owns the pin, a strap current source, or what a sense
channel puts on its terminal. -/
inductive PinDrive where
  | off
  | level (high : Bool)
  | runs
  | source
  | terminal (t : Terminal)
  deriving DecidableEq, Repr

/-- An open-drain output that is low or released. -/
def openDrain (low : Bool) : PinDrive := if low then .level false else .off

/-! ### The part's own drive -/

/-- The state from the end of STRAP on. -/
def State.strapped (s : State) : Bool := !(decide (s.power.state = .por) || decide (s.power.state = .strap))

/-- An output of an audio port: nothing where no image has named the port; its signal while it runs, and to its next frame edge once a
later image no longer names it; else low, before its start, for a master port in the gap of a stepped re-lock, in HELD_THERMAL, on a
wedged island, and after that edge (R71, R315, R323, R338, R339, Table FLT-3; log 64). -/
def State.sapDrive (s : State) (p : SapId) : PinDrive :=
  let x := s.sap p
  let gap := decide (s.clock.stepped = .stopped) && roleMaster (s.portRole p)
  if x.named = false then .off
  else if (x.running || x.ending) = true ∧ s.audioLive = true ∧ gap = false then .runs
  else .level false

/-- The select of an MCLK output in the plan in force (Table CLK-2). -/
def State.mclkSelect (s : State) (i : Fin 2) : Nat := (s.clock.plan.extractLsb' (5 + 3 * i.val) 3).toNat

/-- What a channel puts on SNS_P_x: in IDLE the tie to VSS, nothing with the limiters open or the excitation off, else what its mode
puts there (Tables SNS-1 and SNS-2, R362). -/
def SenseChannel.terminalP (c : SenseChannel) : PinDrive :=
  match c.cfg with
  | none => .terminal .toVss
  | some (_, d) =>
    if c.excited = false then .off
    else match d.mode with
      | 0 => .terminal (.current d.microamp)
      | 1 => .terminal .bias
      | 2 => .terminal .toRail
      | _ => if d.w1.getLsbD 14 then .terminal .pullUp else .off

/-- What a channel puts on SNS_N_x: in IDLE the tie to VSS, in PASSIVE mode the 3.0 V behind 1 MΩ, else its return (R342, Tables SNS-1
and SNS-2). -/
def SenseChannel.terminalN (c : SenseChannel) : PinDrive :=
  match c.cfg with
  | none => .terminal .toVss
  | some (_, d) => if d.mode = 2 then (if c.excited then .terminal .toRail else .off) else .terminal .ground

/-- Whether the amplifier or the buffer of XIN is on: from TRUST on, with the crystal or a CMOS clock as the reference (Table CLK-1). -/
def State.xinOn (s : State) : Bool := s.strapped && !s.codeless 1 && decide (s.refSource < 2)

/-- What the part's own control puts on a pin (Table PKG-2, and the chapter of each pin); `csn` has a 1 for each port whose CSN is low:
TP_SDO_x is at high impedance while CSN is high (R100). XOUT is driven by the crystal's amplifier alone (Table CLK-1). -/
def State.ownDrive (s : State) (csn : BitVec 4) (pin : Pin) : PinDrive :=
  match pin with
  | .tpSdo t => if csn.getLsbD t.val = false ∨ s.portIgnores t = true then .off else .runs
  | .snsP c => (s.chan c).terminalP
  | .snsN c => (s.chan c).terminalN
  | .xout => if s.xinOn = true ∧ s.refSource = 0 then .runs else .off
  | .attnN t => openDrain (s.attention t)
  | .faultN => openDrain s.power.faultLow
  | .code _ => if s.straps.sourcesOn then .source else .off
  | .sapSck p => if roleMaster (s.portRole p) then s.sapDrive p else .off
  | .sapWs p => if roleMaster (s.portRole p) then s.sapDrive p else .off
  | .sapSd p => if s.portRole p = 3 ∨ s.portRole p = 4 then s.sapDrive p else .off
  | .mclk i =>
    if s.strapped = false then .off
    else if s.running = true ∧ s.mclkSelect i ≠ 0 then .runs
    else .level false
  | _ => .off

/-- Whether the input buffer of SAP_SCK_x is on: that of a port that an active image names and that receives its bit clock (R313,
R315). -/
def State.sckBuffer (s : State) (p : SapId) : Bool := (s.sap p).entry.isSome && !roleMaster (s.portRole p)

/-- Whether the input buffer of SAP_WS_x is on: that of a named port that receives it, and from the start of CLOCK that of SAP_0 as the
reference (R313, R315, Table CLK-1). -/
def State.wsBuffer (s : State) (p : SapId) : Bool :=
  s.sckBuffer p || s.clock.begun && decide (s.refSource = 3) && decide (p = 0)

/-- Whether the input buffer of SAP_SD_x is on: that of a named input port (R313, R315). -/
def State.sdBuffer (s : State) (p : SapId) : Bool := (s.sap p).entry.isSome && roleInput (s.portRole p)

/-- Whether the CDR of the ring receive link is on for the reference: from the start of CLOCK (Table CLK-1). -/
def State.cdrOn (s : State) : Bool := s.clock.begun && decide (s.refSource = 2)

/-- The divider from the VCO of an MCLK output that runs (Table CLK-2). -/
def State.mclkDivider (s : State) (i : Fin 2) : Nat := 120 * 2 ^ (s.mclkSelect i - 1)

/-! ### The boundary register -/

/-- What a cell of the boundary register does (R471). -/
inductive CellKind where
  | input
  | output
  | control
  deriving DecidableEq, Repr

/-- One cell for each kind, for each index of a signal. -/
def cellsOf {n : Nat} (f : Fin n → Pin) (ks : List CellKind) : List (Pin × CellKind) :=
  (List.finRange n).flatMap (fun i => ks.map (fun k => (f i, k)))

/-- The 114 cells, in the order of Table PKG-2 from the one next to TDI; the SAP signals by signal, as the table has them (R471). -/
def scanCells : List (Pin × CellKind) :=
  cellsOf .tpSck [.input] ++ cellsOf .tpCsN [.input] ++ cellsOf .tpSdi [.input] ++ cellsOf .tpSdo [.output, .control] ++
    cellsOf .attnN [.input, .output] ++ cellsOf .trstN [.input] ++
    [(.resetN, .input), (.start, .input), (.faultN, .input), (.faultN, .output), (.devel, .input), (.provN, .input)] ++
    cellsOf .sapSck [.input, .output, .control] ++ cellsOf .sapWs [.input, .output, .control] ++
    cellsOf .sapSd [.input, .output, .control] ++ cellsOf .mclk [.output, .control]

/-- The bit that a cell of a pin holds, where the pin has such a cell. -/
def cellBit (r : BitVec 114) (pin : Pin) (k : CellKind) : Option Bool :=
  (scanCells.findIdx? (fun c => decide (c = (pin, k)))).map r.getLsbD

/-- What the update stage puts on a scanned pin: an open-drain output cell of 0 drives low and 1 releases; another output drives its
cell where its control cell is 1 (R471). -/
def boundaryDrive (r : BitVec 114) (pin : Pin) : PinDrive :=
  match cellBit r pin .output, cellBit r pin .control with
  | some o, some c => if c then .level o else .off
  | some o, none => openDrain !o
  | none, _ => .off

/-! ### The pins -/

/-- Whether a pin is scanned: it has a cell (R471). -/
def Pin.scanned (pin : Pin) : Bool := scanCells.any (fun c => decide (c.1 = pin))

/-- The supply of a pin's bank: VDD_IO_A 2, VDD_IO_B 3, VDD_ANA 4 (Table PKG-2). -/
def Pin.bank (pin : Pin) : Nat :=
  match pin with
  | .sapSck _ => 3
  | .sapWs _ => 3
  | .sapSd _ => 3
  | .mclk _ => 3
  | .code _ => 4
  | .snsP _ => 4
  | .snsN _ => 4
  | .xout => 4
  | _ => 2

/-- What the part drives on a pin with the supplies at `mv`: nothing on a bank below its rising threshold, but FAULT_N low from 1.0 V;
else the boundary register, nothing, or the part's own control (R467, R470). -/
def State.pinDrive (s : State) (mv : Vector Nat 8) (csn : BitVec 4) (pin : Pin) : PinDrive :=
  let v := vget mv pin.bank 0
  if v < risingMv pin.bank then (if pin = .faultN ∧ 1000 < v then .level false else .off)
  else if pin.scanned then
    match s.pinSource with
    | .boundary => boundaryDrive s.tap.update pin
    | .floating => .off
    | .part => s.ownDrive csn pin
  else s.ownDrive csn pin

/-- What the part drives on a link with VDD_HAUL at `mv`: electrical idle is `silent`; none where the bank has no supply (R464,
R467). -/
def State.linkDrive (s : State) (mv : Nat) (l : RingLink) : Option LaneDrive :=
  if mv < risingMv 5 then none else some (s.laneDrive l)

end Sys2Proof.Machine
end

