-- ==== Sys2Proof/Machine/Strobe.lean ====
section
/-! DEFINITION. Sys2Proof/Machine/Strobe.lean: the frame strobe: what every island does at it, and what the watchdogs count
(R96, R97 of spec/04_clock_plans.md, R430 to R432 of spec/17_faults_recovery.md). -/
namespace Sys2Proof.Machine

/-! ### The frame and the handshakes -/

/-- The clock unit at a strobe: the next frame, 7,680 cycles of VCO/8 after the strobe before, and those by which that frame was
lengthened; the strobes stop after the one before a stepped re-lock (R84, R96, R380). A START edge whose strobe has passed is
over. -/
def Clock.strobe (c : Clock) : Clock :=
  let next := if c.strobed then c.frame + 1 else 0
  { c with
    frame := next, strobed := true, time := if c.strobed then c.time + 7680 + c.added else 0, added := 0
    starts := c.starts.filter (fun f => decide (next ≤ f))
    stepped := match c.stepped with | .none => .none | _ => .stopped }

/-- W1 at a strobe: the strobe before is judged, and whether this one is acknowledged is kept; an island already fenced or
wedged is not counted, its handshakes are completed (R97, R431, R432). -/
def Handshake.judge (h : Handshake) (previous : Nat) (done ack : Bool) : Handshake :=
  if done then { h with fails := 17, ok := true }
  else if h.ok then { h with fails := 0, ok := ack }
  else { fails := h.fails + 1, first := if h.fails = 0 then previous else h.first, ok := ack }

/-- A bench's handshake judged, its glide engine a part of it (R261); `ackGlide` and `ackData` are of this strobe. -/
def Bench.judge (x : Bench) (previous : Nat) (ackData ackGlide : Bool) : Bench :=
  { x with
    glideFailed := !x.glideOk, acked := ackData && ackGlide, glideOk := ackGlide
    shake := x.shake.judge previous (decide (x.state = .fenced)) (ackData && ackGlide) }

/-- The handshakes at a strobe. Before a stepped re-lock's gap every island acknowledges (R84). -/
def State.judgeStrobe (s : State) (i : StrobeInputs) (previous : Nat) (gap : Bool) : State :=
  let f := s.faults
  { s with
    benches := s.benches.mapIdx (fun b x => x.judge previous (gap || vget i.benchAck b true) (gap || vget i.glideAck b true))
    faults := { f with shake := f.shake.mapIdx (fun k h =>
      h.judge previous (vget f.wedged k false) (gap || vget i.sharedAck k true)) } }

/-! ### The pit, the budget second -/

/-- The requesters with a request ready, as a mask. -/
def State.readyMask (s : State) : Half :=
  (List.range 14).foldl (fun m r => if s.ready r then m ||| (1#16 <<< r) else m) 0

/-- W2 at a strobe: one more frame without an access while a requester stayed ready, or none; a wedged pit is not counted
(R430). -/
def State.pitProgress (s : State) : State :=
  let now := s.readyMask
  let stuck := !s.faults.pitServed && decide (s.faults.pitReady &&& now ≠ 0)
  { s with
    pit := { s.pit with nextSlot := 0 }
    faults := { s.faults with
      pitStall := if s.isWedged 1 then 17 else if stuck then s.faults.pitStall + 1 else 0
      pitReady := now, pitServed := false } }

/-- The counts of the budget second that ends at this strobe put aside, and a new second begun (R416, R417, R438). -/
def State.turnSecond (s : State) : State :=
  if 0 < s.clock.frame ∧ s.clock.frame % s.ff = 0 then
    let e : EndedSecond :=
      { index := s.clock.frame / s.ff - 1, witness := s.wb.witnessRefused, host := s.wb.hostRefused, drops := s.faults.drops
        counter := s.faults.dropped }
    { s with
      wb := { s.wb with ended := some e, used := Vector.replicate 4 0, witnessRefused := Vector.replicate 4 0,
                        hostRefused := Vector.replicate 4 0 }
      faults := { s.faults with drops := ⟨Vector.replicate 4 0, 0⟩ } }
  else s

/-- LOG_NEAR_FULL at the strobe after its cause (R419). -/
def State.raiseNearFull (s : State) : State :=
  if s.wb.nearFull then ({ s with wb := { s.wb with nearFull := false } }).raiseAll 27 else s

/-! ### Benches and sense channels -/

/-- The stretch toggle where the next frame begins: it has changed once for each bench cycle of the frame that ends; a frame of the
plan has an even number of them, `added` those by which it was lengthened (R98). -/
def Sequencer.runOn (q : Sequencer) (added : Nat) : Sequencer := { q with toggle := q.toggle != decide (added % 2 = 1) }

/-- A bench at a strobe: LATE becomes RUNNING, glides step but at a flip, the running period has one frame's cycles more
(R93, R178, R253, R254). -/
def Bench.strobe (x : Bench) (frame cycles added : Nat) : Bench :=
  let c := if x.state = .fenced ∨ x.coefs.flipsAt frame = true then x.coefs else x.coefs.tick
  let q := x.seq.runOn added
  if x.active then { x with state := .running, coefs := c, seq := { q with granted := q.granted + cycles } }
  else { x with coefs := c, seq := q }

/-- The bench cycles by which the frame in progress is lengthened: whole cycles of the bench divider (R98, R380, log 55). -/
def State.addedCycles (s : State) : Nat := if s.economy then s.clock.added / 2 else s.clock.added

/-- Every bench at a strobe. -/
def State.strobeBenches (s : State) (added : Nat) : State :=
  { s with benches := s.benches.map (fun x => x.strobe s.clock.frame s.benchCycles added) }

/-- A channel's qualified edges that reach the view at this strobe (R363). -/
def SenseChannel.enterEdges (c : SenseChannel) (live : Bool) (time : Nat) : SenseChannel :=
  if live then
    { c with entering := (c.waiting.filter (fun e => decide (e.2 ≤ time))).map (·.1),
             waiting := c.waiting.filter (fun e => decide (time < e.2)) }
  else { c with entering := [] }

/-- A channel at a strobe; one that misses its delivery after a phase step keeps its sample (R360, R380). The second component
tells that no delivery is left to miss: it was missed, or the channel has left RUN. -/
def SenseChannel.strobeSkip (c : SenseChannel) (ch : SenseId) (x : Int) (frame align : Nat) (skip : Bool) :
    SenseChannel × Bool :=
  let d := c.strobe ch x frame align
  let due := decide (c.state = .run) && c.cfg.any (fun e => decide (align % e.2.divisor = 0))
  (if skip && due then { d with sample := c.sample, deliveredAt := c.deliveredAt } else d,
    skip && (due || decide (c.state ≠ .run)))

/-- One channel at a strobe. -/
def State.strobeChannel (s : State) (i : StrobeInputs) (ch : SenseId) : State :=
  let r := (s.chan ch).strobeSkip ch i.samples[ch] s.clock.frame s.align (s.ring.skipDelivery.getLsbD ch.val)
  let u := s.modChan ch (fun _ => r.1)
  if r.2 then u.modRing (fun g => { g with skipDelivery := g.skipDelivery &&& ~~~(1#16 <<< ch.val) }) else u

/-- The sense channels at a strobe; a wedged island delivers nothing, and PLS keeps its last values (Table FLT-3). -/
def State.strobeSense (s : State) (i : StrobeInputs) : State :=
  let u := if s.senseLive then (List.finRange 16).foldl (fun s ch => s.strobeChannel i ch) s else s
  let v := { u with sense := { u.sense with channels := u.sense.channels.map (fun (c : SenseChannel) =>
    c.enterEdges s.senseLive s.clock.time) } }
  { v with benches := v.benches.map (fun (x : Bench) =>
    if x.active then
      { x with pulses := x.pulses.mapIdx (fun k t => t.enter ((vget v.sense.channels k SenseChannel.init).entering) v.clock.frame) }
    else x) }

/-! ### The strobe -/

/-- FRAME_STROBE: every island takes the strobe. Publications, flips, releases and plan switches at this strobe are the commands
that follow it (R96). -/
def State.frameStrobe (s : State) (i : StrobeInputs) : State :=
  if s.running = true ∧ s.clock.stepped ≠ .stopped then
    let gap := decide (s.clock.stepped = .afterNext)
    let a := ({ s with clock := s.clock.strobe }).judgeStrobe i s.clock.frame gap
    let b := a.pitProgress.turnSecond.raiseNearFull.ringStrobe
    let c := ((b.strobeBenches s.addedCycles).strobeSense i).audioStrobe b.clock.frame i.audio
    ({ c with channels := c.channels.map Channel.tick }).judgeReleases
  else s

/-- FRAME_STROBE (R96). -/
def execFrameStrobe (i : StrobeInputs) (s : State) : Out := .next (s.frameStrobe i)

end Sys2Proof.Machine
end

