-- ==== Sys2Proof/Machine/Dispatch.lean ====
section
/-! DEFINITION. Sys2Proof/Machine/Dispatch.lean: one arm for each command. -/
namespace Sys2Proof.Machine

/-- What a command does to everything but the queue. -/
def exec (i : Instr) (s : State) : Host.Outcome State Fault Refusal :=
  match i with
  | .porExit mv resetN heldUs tapUs trstN => Sys2Proof.Machine.execPorExit mv resetN heldUs tapUs trstN s
  | .supplyReset supply mv ns cut => Sys2Proof.Machine.execSupplyReset supply mv ns cut s
  | .supplyWarning supply mv ns => Sys2Proof.Machine.execSupplyWarning supply mv ns s
  | .resetNLow pin ns cut => Sys2Proof.Machine.execResetNLow pin ns cut s
  | .strapPhaseEnd r => Sys2Proof.Machine.execStrapPhaseEnd r s
  | .trustEnd w => Sys2Proof.Machine.execTrustEnd w s
  | .provNObserve mv vddIo => Sys2Proof.Machine.execProvNObserve mv vddIo s
  | .referencePresent ppm1 ppm2 aligned up down => Sys2Proof.Machine.execReferencePresent ppm1 ppm2 aligned up down s
  | .referenceDeadline ms => Sys2Proof.Machine.execReferenceDeadline ms s
  | .lockAttemptEnd a => Sys2Proof.Machine.execLockAttemptEnd a s
  | .lockLost c => Sys2Proof.Machine.execLockLost c s
  | .relock a => Sys2Proof.Machine.execRelock a s
  | .steppedRelock attempts gap cycles => Sys2Proof.Machine.execSteppedRelock attempts gap cycles s
  | .frameStrobe inputs => Sys2Proof.Machine.execFrameStrobe inputs s
  | .thermalReading celsius => Sys2Proof.Machine.execThermalReading celsius s
  | .vexcOvervoltage mv => Sys2Proof.Machine.execVexcOvervoltage mv s
  | .vexcReconnect mv ms => Sys2Proof.Machine.execVexcReconnect mv ms s
  | .trstNLow t pin ns => Sys2Proof.Machine.execTrstNLow t pin ns s
  | .tenantResetHold t => Sys2Proof.Machine.execTenantResetHold t s
  | .trstNHigh t pin ns => Sys2Proof.Machine.execTrstNHigh t pin ns s
  | .tenantResetRelease t => Sys2Proof.Machine.execTenantResetRelease t s
  | .startEdge before lowNs after highNs => Sys2Proof.Machine.execStartEdge before lowNs after highNs s
  | .benchRelease b => Sys2Proof.Machine.execBenchRelease b s
  | .benchPeriodEnd b => Sys2Proof.Machine.execBenchPeriodEnd b s
  | .planSwitch => Sys2Proof.Machine.execPlanSwitch s
  | .benchFence b => Sys2Proof.Machine.execBenchFence b s
  | .islandWedge island cut => Sys2Proof.Machine.execIslandWedge island cut s
  | .pitProgressWedge => Sys2Proof.Machine.execPitProgressWedge s
  | .nvWriterWedge us answers cut => Sys2Proof.Machine.execNvWriterWedge us answers cut s
  | .nop b f => Sys2Proof.Machine.execNop b f s
  | .mov b f => Sys2Proof.Machine.execMov b f s
  | .movi b f => Sys2Proof.Machine.execMovi b f s
  | .add b f => Sys2Proof.Machine.execAdd b f s
  | .sub b f => Sys2Proof.Machine.execSub b f s
  | .neg b f => Sys2Proof.Machine.execNeg b f s
  | .abs b f => Sys2Proof.Machine.execAbs b f s
  | .min b f => Sys2Proof.Machine.execMin b f s
  | .max b f => Sys2Proof.Machine.execMax b f s
  | .and b f => Sys2Proof.Machine.execAnd b f s
  | .ior b f => Sys2Proof.Machine.execIor b f s
  | .xor b f => Sys2Proof.Machine.execXor b f s
  | .shl b f => Sys2Proof.Machine.execShl b f s
  | .shra b f => Sys2Proof.Machine.execShra b f s
  | .shrl b f => Sys2Proof.Machine.execShrl b f s
  | .mul b f => Sys2Proof.Machine.execMul b f s
  | .mulc b f => Sys2Proof.Machine.execMulc b f s
  | .mac b f => Sys2Proof.Machine.execMac b f s
  | .macc b f => Sys2Proof.Machine.execMacc b f s
  | .msu b f => Sys2Proof.Machine.execMsu b f s
  | .msuc b f => Sys2Proof.Machine.execMsuc b f s
  | .aclr b f => Sys2Proof.Machine.execAclr b f s
  | .ald b f => Sys2Proof.Machine.execAld b f s
  | .ast b f => Sys2Proof.Machine.execAst b f s
  | .cmp b f => Sys2Proof.Machine.execCmp b f s
  | .sel b f => Sys2Proof.Machine.execSel b f s
  | .clamp b f => Sys2Proof.Machine.execClamp b f s
  | .drd b f ecc => Sys2Proof.Machine.execDrd b f ecc s
  | .drdf b f ecc0 ecc1 => Sys2Proof.Machine.execDrdf b f ecc0 ecc1 s
  | .dwr b f => Sys2Proof.Machine.execDwr b f s
  | .dwra b f => Sys2Proof.Machine.execDwra b f s
  | .crd b f => Sys2Proof.Machine.execCrd b f s
  | .lut b f => Sys2Proof.Machine.execLut b f s
  | .log2 b f => Sys2Proof.Machine.execLog2 b f s
  | .exp2 b f => Sys2Proof.Machine.execExp2 b f s
  | .rsq b f => Sys2Proof.Machine.execRsq b f s
  | .envf b f => Sys2Proof.Machine.execEnvf b f s
  | .pin b f => Sys2Proof.Machine.execPin b f s
  | .pout b f => Sys2Proof.Machine.execPout b f s
  | .sin b f => Sys2Proof.Machine.execSin b f s
  | .pls b f => Sys2Proof.Machine.execPls b f s
  | .rin b f => Sys2Proof.Machine.execRin b f s
  | .rout b f => Sys2Proof.Machine.execRout b f s
  | .prd b f => Sys2Proof.Machine.execPrd b f s
  | .pget b f => Sys2Proof.Machine.execPget b f s
  | .pwr b f => Sys2Proof.Machine.execPwr b f s
  | .prio b f => Sys2Proof.Machine.execPrio b f s
  | .postStep b f => Sys2Proof.Machine.execPostStep b f s
  | .withdrawStep b f => Sys2Proof.Machine.execWithdrawStep b f s
  | .queryStep b f => Sys2Proof.Machine.execQueryStep b f s
  | .takeStep b f => Sys2Proof.Machine.execTakeStep b f s
  | .ackn b f => Sys2Proof.Machine.execAckn b f s
  | .rslt b f => Sys2Proof.Machine.execRslt b f s
  | .evt b f => Sys2Proof.Machine.execEvt b f s
  | .wit b f => Sys2Proof.Machine.execWit b f s
  | .commitStep b f => Sys2Proof.Machine.execCommitStep b f s
  | .rwr b f => Sys2Proof.Machine.execRwr b f s
  | .tod b f => Sys2Proof.Machine.execTod b f s
  | .fcnt b f => Sys2Proof.Machine.execFcnt b f s
  | .stat b f => Sys2Proof.Machine.execStat b f s
  | .plan b f => Sys2Proof.Machine.execPlan b f s
  | .status x f => Sys2Proof.Machine.execStatus x f s
  | .load x f => Sys2Proof.Machine.execLoad x f s
  | .read x f => Sys2Proof.Machine.execRead x f s
  | .fetch x f => Sys2Proof.Machine.execFetch x f s
  | .write x f => Sys2Proof.Machine.execWrite x f s
  | .post x f => Sys2Proof.Machine.execPost x f s
  | .withdraw x f => Sys2Proof.Machine.execWithdraw x f s
  | .poll x f => Sys2Proof.Machine.execPoll x f s
  | .take x f seen => Sys2Proof.Machine.execTake x f seen s
  | .ack x f => Sys2Proof.Machine.execAck x f s
  | .commitStage x f => Sys2Proof.Machine.execCommitStage x f s
  | .commitGroup x f => Sys2Proof.Machine.execCommitGroup x f s
  | .result x f seen => Sys2Proof.Machine.execResult x f seen s
  | .events x f => Sys2Proof.Machine.execEvents x f s
  | .logHead x f => Sys2Proof.Machine.execLogHead x f s
  | .logEntries x f => Sys2Proof.Machine.execLogEntries x f s
  | .logExport x f => Sys2Proof.Machine.execLogExport x f s
  | .logAppend x f => Sys2Proof.Machine.execLogAppend x f s
  | .logCollect x f => Sys2Proof.Machine.execLogCollect x f s
  | .attestRequest x f => Sys2Proof.Machine.execAttestRequest x f s
  | .attestCollect x f => Sys2Proof.Machine.execAttestCollect x f s
  | .timeRead x f => Sys2Proof.Machine.execTimeRead x f s
  | .timeMark x f => Sys2Proof.Machine.execTimeMark x f s
  | .go x f => Sys2Proof.Machine.execGo x f s
  | .provisionIdentify x f => Sys2Proof.Machine.execProvisionIdentify x f s
  | .provisionSlot x f => Sys2Proof.Machine.execProvisionSlot x f s
  | .provisionFloor x f => Sys2Proof.Machine.execProvisionFloor x f s
  | .lock x f => Sys2Proof.Machine.execLock x f s
  | .selftest x f => Sys2Proof.Machine.execSelftest x f s
  | .pitAccess slot ecc => Sys2Proof.Machine.execPitAccess slot ecc s
  | .weighbridgeServiceStart bad => Sys2Proof.Machine.execWeighbridgeServiceStart bad s
  | .weighbridgeRequestDone selftest us => Sys2Proof.Machine.execWeighbridgeRequestDone selftest us s
  | .logCommit => Sys2Proof.Machine.execLogCommit s
  | .budgetSecondEnd => Sys2Proof.Machine.execBudgetSecondEnd s
  | .verifyStart => Sys2Proof.Machine.execVerifyStart s
  | .verifyEnd => Sys2Proof.Machine.execVerifyEnd s
  | .holdStrobe => Sys2Proof.Machine.execHoldStrobe s
  | .activationStrobe terminals => Sys2Proof.Machine.execActivationStrobe terminals s
  | .stagingTimeout => Sys2Proof.Machine.execStagingTimeout s
  | .noticeVisible channel => Sys2Proof.Machine.execNoticeVisible channel s
  | .ackVisible channel => Sys2Proof.Machine.execAckVisible channel s
  | .mbxTimeout channel => Sys2Proof.Machine.execMbxTimeout channel s
  | .commitFlip t => Sys2Proof.Machine.execCommitFlip t s
  | .commitDone t => Sys2Proof.Machine.execCommitDone t s
  | .masterPortStart p => Sys2Proof.Machine.execMasterPortStart p s
  | .followerFrameComplete p bits samples cycle => Sys2Proof.Machine.execFollowerFrameComplete p bits samples cycle s
  | .followerCapture p => Sys2Proof.Machine.execFollowerCapture p s
  | .followerOutputLoad p cycle => Sys2Proof.Machine.execFollowerOutputLoad p cycle s
  | .limiterTrip ch ua1 ua2 mv => Sys2Proof.Machine.execLimiterTrip ch ua1 ua2 mv s
  | .meterWindowEnd ch nj mv ua => Sys2Proof.Machine.execMeterWindowEnd ch nj mv ua s
  | .tripRetry ch ms => Sys2Proof.Machine.execTripRetry ch ms s
  | .excOff mv us => Sys2Proof.Machine.execExcOff mv us s
  | .excRestore mvLow mvHigh ms => Sys2Proof.Machine.execExcRestore mvLow mvHigh ms s
  | .diagDeclare ch mv ua ms => Sys2Proof.Machine.execDiagDeclare ch mv ua ms s
  | .diagClear ch mv ua ms => Sys2Proof.Machine.execDiagClear ch mv ua ms s
  | .settleComplete ch => Sys2Proof.Machine.execSettleComplete ch s
  | .pulseEdgeQualify ch mv ts persistNs window => Sys2Proof.Machine.execPulseEdgeQualify ch mv ts persistNs window s
  | .pulseFaultDeclare ch reason measure mv => Sys2Proof.Machine.execPulseFaultDeclare ch reason measure mv s
  | .pulseFaultClear ch mv ms => Sys2Proof.Machine.execPulseFaultClear ch mv ms s
  | .senseDiagHeld => Sys2Proof.Machine.execSenseDiagHeld s
  | .laneDown l silentChars errors => Sys2Proof.Machine.execLaneDown l silentChars errors s
  | .laneUp l laps idleChars => Sys2Proof.Machine.execLaneUp l laps idleChars s
  | .homeVisit l chars strobeErrorNs => Sys2Proof.Machine.execHomeVisit l chars strobeErrorNs s
  | .ringLockGain => Sys2Proof.Machine.execRingLockGain s
  | .ringLoss cause => Sys2Proof.Machine.execRingLoss cause s
  | .phaseStep cycles => Sys2Proof.Machine.execPhaseStep cycles s
  | .rollcallStart idleSeen ms => Sys2Proof.Machine.execRollcallStart idleSeen ms s
  | .collectionLap table rotationNs foreign => Sys2Proof.Machine.execCollectionLap table rotationNs foreign s
  | .assignmentLap table => Sys2Proof.Machine.execAssignmentLap table s
  | .fold x y rotationNs idleBeyond => Sys2Proof.Machine.execFold x y rotationNs idleBeyond s
  | .todMarkApply => Sys2Proof.Machine.execTodMarkApply s
  | .tapReset byPin => Sys2Proof.Machine.execTapReset byPin s
  | .extest shiftIn pins => Sys2Proof.Machine.execExtest shiftIn pins s
  | .samplePreload shiftIn pins => Sys2Proof.Machine.execSamplePreload shiftIn pins s
  | .idcode => Sys2Proof.Machine.execIdcode s
  | .tapClamp tdi => Sys2Proof.Machine.execTapClamp tdi s
  | .highz tdi => Sys2Proof.Machine.execHighz tdi s
  | .benchDbg shiftIn => Sys2Proof.Machine.execBenchDbg shiftIn s
  | .bypass code tdi => Sys2Proof.Machine.execBypass code tdi s
  | .stretchCycle b mv cycle => Sys2Proof.Machine.execStretchCycle b mv cycle s
  | .faultNPattern => Sys2Proof.Machine.execFaultNPattern s
  | .outcomeFinal x => Sys2Proof.Machine.execOutcomeFinal x s

end Sys2Proof.Machine
end

