-- ==== Sys2Proof/Certificates/Slice0/Obligations.lean ====
section
/-! DEFINITION. Sys2Proof/Certificates/Slice0/Obligations.lean: the statements about the model. A conclusion `exec c s = .next t` with
`t` written out says that the command completes, what it changes, and that nothing else changes. -/

open Sys2Proof Sys2Proof.Machine

/-! ### The block -/

/-- One step takes the command at the front of the queue and runs it on the state with the queue's rest; on an empty queue the
block idles (DESIGN CHOICE, log 1). -/
def Obligations.StepRunsFront : Prop :=
  (∀ (c : Instr) (s : State), step { s with pending := c :: s.pending } = exec c s) ∧
  (∀ s : State, s.pending = [] → step s = .next s)

/-- No command touches the queue of waiting commands. -/
def Obligations.QueueKept : Prop :=
  ∀ (c : Instr) (s t : State), exec c s = .next t → t.pending = s.pending

/-- Every command answers a next state in every state: nothing faults and nothing refuses. One whose operands name no event that a part
could meet, a frame of another length than its header gives or a listed code for BYPASS, changes nothing (DESIGN CHOICE, log 9); a
command whose condition is not met, an event that does not come about, answers a next state too (DESIGN CHOICE, log 2). -/
def Obligations.WellFormedCommandsRun : Prop :=
  ∀ (c : Instr) (s : State), (∃ t, exec c s = .next t) ∧ (c.wf = false → exec c s = .next s)

/-- The memories are in their canonical form (addresses strictly rising, no entry equal to what an unlisted address reads as), and no port has more
than 8 write credits. -/
def Sys2Proof.Machine.State.memoriesWf (s : State) : Prop :=
  Sparse.wf none s.pit.mem = true ∧
  (∀ b : BenchId, Sparse.wf 0 (s.bench b).coefs.bank0 = true ∧ Sparse.wf 0 (s.bench b).coefs.bank1 = true ∧
    Sparse.wf none (s.bench b).delay = true) ∧
  (∀ x : TenantId, (s.tenant x).port.credits ≤ 8)

/-- After power is applied the part is in POR with FAULT_N low, nothing strapped, no clock, no bench with a program, no pit word
written, eight credits and free tags at each port, no ring lock with every cell absent, an empty log, and its memories in canonical form. The values are the
spec's where a rule names them and the model's elsewhere (DESIGN CHOICE, log 3). -/
def Obligations.ResetState : Prop :=
  State.reset.power.state = .por ∧ State.reset.power.faultLow = true ∧ State.reset.power.cause = 1 ∧
  State.reset.clock.strobed = false ∧ State.reset.clock.locked = false ∧
  (∀ b : BenchId, (State.reset.bench b).state = .off ∧ (State.reset.bench b).seq.prog = []) ∧
  (∀ a : Nat, Sparse.read none State.reset.pit.mem a = none) ∧
  (∀ t : TenantId, (State.reset.tenant t).port.credits = 8 ∧ (State.reset.tenant t).events = 0 ∧
    ∀ i : Fin 8, (vget (State.reset.tenant t).port.tags i.val HostTag.init).state = .free) ∧
  State.reset.ring.locked = false ∧ (∀ c : Fin 128, (State.reset.ring.cells[c]).absent = true) ∧
  State.reset.wb.nv.slots = [] ∧ State.reset.wb.nv.next = ⟨0, 1⟩ ∧ State.reset.pending = [] ∧
  State.reset.memoriesWf

/-! ### Power, reset, straps, temperature -/

/-- POR ends once every required supply stands above its rising threshold and RESET_N is high for 1.0 ms, the TAP not holding
the part, or no longer holding it for 1.0 ms: the STRAP phase begins, the strap trims are read, the banks take their range, the
strap sources are driven, and a tenant whose TRST_N_x is low, open or in its band starts held, with frame 0 as its hold strobe
(DEDUCED, log 14). What the trims hold is a free value (log 56). Short of one of these the part stays in POR. -/
def Obligations.PorExitStartsStrap : Prop :=
  ∀ (mv : Vector Nat 8) (reset : Option Nat) (us tapUs : Nat) (trst : Vector (Option Nat) 4) (s : State), s.power.state = .por →
    ((∀ i, i < 7 → risingMv i < vget mv i 0) → 7 * vget mv 2 0 ≤ 10 * reset.getD 0 → 1000 ≤ us → s.tap.holds = false →
      (s.tap.blocked = true → 1000 ≤ tapUs) →
      exec (.porExit mv reset us tapUs trst) s = .next { s with
        power := { s.power with state := .strap, bankA33 := decide (2500 ≤ vget mv 2 0), bankB33 := decide (2500 ≤ vget mv 3 0) }
        straps := { s.straps with sourcesOn := true, trims := Vector.ofFn (fun (p : Fin 8) => Config.strapTrim p.val) }
        tap := { s.tap with blocked := false }
        tenants := s.tenants.mapIdx (fun i x =>
          if 7 * vget mv 2 0 ≤ 10 * (vget trst i none).getD 0 ∧ 3 * vget mv 2 0 < 10 * (vget trst i none).getD 0 then x
          else { x with
            held := true, trstLow := decide (10 * (vget trst i none).getD 0 ≤ 3 * vget mv 2 0), lowFrame := 0, holdDue := some 0 }) }) ∧
    ((∃ i, i < 7 ∧ vget mv i 0 ≤ risingMv i) ∨ 10 * reset.getD 0 < 7 * vget mv 2 0 ∨ us < 1000 ∨ s.tap.holds = true ∨
      (s.tap.blocked = true ∧ tapUs < 1000) → exec (.porExit mv reset us tapUs trst) s = .next s)

/-- A full reset puts every island in its reset state: only NV memory, OTP, the TAP (and, but for a supply reset, the wedge note)
stay, and the cause says supply or pin, joined with the cause before when the part was still in POR. RESET_N is ignored when it is
high or low for less than 500 ns, and a supply that stays above its threshold, or dips for less than 2 µs, resets nothing. The random
bit generator's history and the model's counter stay too; 0x03 for a power-up from POWER_OFF with RESET_N seen is log 45 (DEDUCED). -/
def Obligations.FullResets : Prop :=
  ((∀ (i : Fin 8) (mv ns : Nat) (cut : CommitCut) (s : State), i.val < 7 → mv < fallingMv i.val → 2000 ≤ ns →
    ∃ t, exec (.supplyReset i mv ns cut) s = .next t ∧
      t = { State.reset with
        power := { State.reset.power with
          causeSupply := true, causePin := decide (s.power.state = .por) && s.power.causePin }
        wb := t.wb, otp := s.otp, tap := { s.tap with blocked := s.tap.holds }, drawn := s.drawn, freeIdx := s.freeIdx
        pending := s.pending } ∧
      t.wb = Weighbridge.closed t.wb.nv ∧ (cut = .none → t.wb.nv = s.wb.nv)) ∧
  (∀ (p : PinInput) (ns : Nat) (cut : CommitCut) (s : State), p.level ≠ .high → 2000 ≤ ns →
    ∃ t, exec (.resetNLow p ns cut) s = .next t ∧
      t = { State.reset with
        power := { State.reset.power with
          causeSupply := decide (s.power.state = .por) && s.power.causeSupply, causePin := true }
        faults := { State.reset.faults with note := s.faults.note }
        wb := t.wb, otp := s.otp, tap := { s.tap with blocked := s.tap.holds }, drawn := s.drawn, freeIdx := s.freeIdx
        pending := s.pending } ∧
      t.wb = Weighbridge.closed t.wb.nv ∧ (cut = .none → t.wb.nv = s.wb.nv))) ∧
  ((∀ (p : PinInput) (ns : Nat) (cut : CommitCut) (s : State), p.level = .high ∨ ns < 500 →
    exec (.resetNLow p ns cut) s = .next s) ∧
  (∀ (i : Fin 8) (mv ns : Nat) (cut : CommitCut) (s : State), fallingMv i.val ≤ mv ∨ ns < 2000 →
    exec (.supplyReset i mv ns cut) s = .next s))

/-- A supply warning raises SUPPLY (event 30) for every present tenant and records the crossing, in HELD_STRAP too; the excitation supply is
disconnected above 13.4 V and reconnected after 100 ms at or below 13.2 V; FAULT_N changes level at each edge of its pattern. The
patterns of FAULT_N: pulses of 50 ms each 2,000 ms, one more than the index of the blamed pin, the first of the faults, in HELD_STRAP; 250 ms low and high in
HELD_CLOCK; 1,000 ms in HELD_THERMAL; 100 ms low and 900 ms high while a bench is fenced or an island wedged. -/
def Obligations.SupplyAndFaultPin : Prop :=
  ((∀ (i : Fin 8) (mv ns : Nat) (s : State), 10000 ≤ ns → s.power.warns i.val mv = true →
    s.power.state ≠ .por → s.power.state ≠ .strap →
    exec (.supplyWarning i mv ns) s = .next ((s.raiseAll 30).logSupply i.val mv)) ∧
  (∀ (mv : Nat) (s : State), 13400 < mv →
    exec (.vexcOvervoltage mv) s = .next ({ s with power := { s.power with vexcOff := true } }).allExcOff) ∧
  (∀ (mv ms : Nat) (s : State), mv ≤ 13200 → 100 ≤ ms →
    exec (.vexcReconnect mv ms) s = .next { s with power := { s.power with vexcOff := false } }) ∧
  (∀ (s : State) (p : FaultPattern), s.faultPattern = some p →
    exec .faultNPattern s = .next { s with
      power := { s.power with faultLow := !s.power.faultLow, faultEdge := s.power.faultEdge + 1 } })) ∧
  ((∀ (i k : Nat), k ≤ i → (FaultPattern.burst i).edgeMs (2 * k) = 100 * k ∧ (FaultPattern.burst i).edgeMs (2 * k + 1) = 100 * k + 50 ∧
    (FaultPattern.burst i).edgeMs (2 * (i + 1) + 2 * k) = 2000 + 100 * k) ∧
  (∀ (s : State) (f : StrapFault) (l : List StrapFault), s.power.state = .heldStrap → s.straps.faults = f :: l →
    s.faultPattern = some (.burst f.pin)) ∧
  (∀ s : State, s.power.state = .heldClock → s.faultPattern = some (.blink 250 250)) ∧
  (∀ s : State, s.power.state = .heldThermal → s.faultPattern = some (.blink 1000 1000)) ∧
  (∀ s : State, s.running = true → s.faultPattern = if s.unitFault then some (.blink 100 900) else none) ∧
  (∀ (k low high : Nat), (FaultPattern.blink low high).edgeMs (2 * k) = k * (low + high) ∧
    (FaultPattern.blink low high).edgeMs (2 * k + 1) = k * (low + high) + low))

/-- Whether a mean reading in 0.1 mV lies more than 22.5 mV off the nearest window centre, but above the highest centre, where there is
no guard band (Table STR-2). -/
def Sys2Proof.Machine.offCentre (m : Nat) : Bool :=
  decide (m + 225 < 750 * nearestCode m) || decide (750 * nearestCode m + 225 < m ∧ nearestCode m ≠ 15)

/-- Whether a coded pin decodes: stable, outside the guard bands, its code not reserved (R22, R31). -/
def Sys2Proof.StrapReadings.decodes (r : StrapReadings) (p : Fin 8) : Bool :=
  !pinUnstable (r.volts[p].map (min 12000)) && !offCentre (pinMean (r.volts[p].map (min 12000))) &&
    !decide (p = 0 ∧ nearestCode (pinMean (r.volts[p].map (min 12000))) = 14 ∨
      p = 2 ∧ 8 ≤ nearestCode (pinMean (r.volts[p].map (min 12000))) ∧ nearestCode (pinMean (r.volts[p].map (min 12000))) ≤ 14)

/-- Whether all samples of a binary strap are high, or all of them low. -/
def Sys2Proof.Machine.allAt (vddIo : Nat) (v : Vector Nat 16) : Bool :=
  decide (∀ i : Fin 16, pinLevel vddIo v[i] = .high) || decide (∀ i : Fin 16, pinLevel vddIo v[i] = .low)

/-- The STRAP phase ends: each code is the one whose window centre lies nearest the mean reading, the record is built, the sources
are off and TRUST begins. A pin whose 16 conversions differ by more than 7.5 mV is at fault (reason 1), else one whose mean lies more
than 22.5 mV off its nearest centre (reason 2, a guard band), else one with a reserved code (reason 3: CODE_A 14, CODE_C 8 to 14); where
no coded pin is, a failed check of Table STR-8 blames its pin (reason 5, with the check). DEVEL (pin 8) and PROV_N (pin 9) fault where
their samples are mixed (reason 1) or one lies in the band (reason 4). The faults stand in ascending pin order, and none stands where nothing
failed. DEVEL counts as sampled high only where all of its 16 samples lie at or above 0.7 × VDD_IO_A, and PROV_N as sampled low only
where all of its lie at or below 0.3 × VDD_IO_A: for a faulted one R33 chooses no value, and not high, or not low, is log 30 (DEDUCED).
PROV_N closes provisioning at the second of two consecutive observations that count as not low, above 0.3 × VDD_IO_A; a single one
between two low observations has no effect. -/
def Obligations.StrapsAndProvisioning : Prop :=
  (∀ (r : StrapReadings) (s : State), s.power.state = .strap →
    ∃ t, exec (.strapPhaseEnd r) s = .next t ∧
      t = { s with power := { s.power with state := .trust }, straps := t.straps } ∧
      t.straps.sourcesOn = false ∧
      (∀ p : Fin 8, t.straps.codes[p] = BitVec.ofNat 4 (nearestCode (pinMean (r.volts[p].map (min 12000))))) ∧
      t.straps.snapshot.length = 28 ∧
      (∀ p : Fin 8, pinUnstable (r.volts[p].map (min 12000)) = true → ⟨p.val, 1, 0⟩ ∈ t.straps.faults) ∧
      (∀ (p : Fin 8) (m : Nat), pinUnstable (r.volts[p].map (min 12000)) = false → m = pinMean (r.volts[p].map (min 12000)) →
        (offCentre m = true → ⟨p.val, 2, 0⟩ ∈ t.straps.faults) ∧
        (offCentre m = false → (p = 0 ∧ nearestCode m = 14 ∨ p = 2 ∧ 8 ≤ nearestCode m ∧ nearestCode m ≤ 14) →
          ⟨p.val, 3, 0⟩ ∈ t.straps.faults)) ∧
      ((∀ p : Fin 8, r.decodes p = true) →
        (t.refSource = 2 → t.isStandalone = true → ⟨1, 5, 1⟩ ∈ t.straps.faults) ∧
        (t.refSource = 2 → t.isMaster = true → ⟨1, 5, 2⟩ ∈ t.straps.faults) ∧
        (t.refSource ≠ 2 → t.isMember = true → ⟨1, 5, 3⟩ ∈ t.straps.faults) ∧
        (t.refSource = 3 → (∀ g ∈ [1#4, 6#4, 7#4, 8#4, 11#4, 13#4], t.code 6 ≠ g) → ⟨6, 5, 4⟩ ∈ t.straps.faults) ∧
        (1#4 ≤ t.code 2 → t.code 2 ≤ 6#4 → 92 < (t.ringId + 1) * t.cellCount → ⟨4, 5, 5⟩ ∈ t.straps.faults) ∧
        ((t.refSource = 2 ↔ t.isMember = true) → (t.refSource = 3 → ∃ g ∈ [1#4, 6#4, 7#4, 8#4, 11#4, 13#4], t.code 6 = g) →
          (t.code 2 = 0#4 ∨ 7#4 ≤ t.code 2 ∨ (t.ringId + 1) * t.cellCount ≤ 92) → allAt r.vddIo r.devel = true →
          allAt r.vddIo r.provN = true → t.straps.faults = [])) ∧
      (∀ (p : Nat) (v : Vector Nat 16), (p = 8 ∧ v = r.devel ∨ p = 9 ∧ v = r.provN) →
        ((∃ i j : Fin 16, pinLevel r.vddIo v[i] = .high ∧ pinLevel r.vddIo v[j] = .low) → ⟨p, 1, 0⟩ ∈ t.straps.faults) ∧
        ((∃ i : Fin 16, pinLevel r.vddIo v[i] = .band) →
          ¬(∃ i j : Fin 16, pinLevel r.vddIo v[i] = .high ∧ pinLevel r.vddIo v[j] = .low) → ⟨p, 4, 0⟩ ∈ t.straps.faults)) ∧
      (t.straps.faults.map (fun f => f.pin)).Pairwise (· < ·) ∧
      ((∀ i : Fin 16, 7 * r.vddIo ≤ 10 * r.devel[i] ∧ 3 * r.vddIo < 10 * r.devel[i]) → t.straps.devel = true) ∧
      ((∃ i : Fin 16, 10 * r.devel[i] < 7 * r.vddIo) → t.straps.devel = false) ∧
      (t.straps.provN = false ↔ ∀ i : Fin 16, 10 * r.provN[i] ≤ 3 * r.vddIo)) ∧
  (∀ (mv vdd : Nat) (s : State), s.power.state ≠ .por → s.power.state ≠ .strap →
    (10 * mv ≤ 3 * vdd →
      exec (.provNObserve mv vdd) s = .next { s with straps := { s.straps with notLowRun := 0 } }) ∧
    (3 * vdd < 10 * mv → exec (.provNObserve mv vdd) s = .next { s with straps := { s.straps with
      notLowRun := s.straps.notLowRun + 1, provClosed := s.straps.provClosed || decide (1 ≤ s.straps.notLowRun) } }))

/-- The end of TRUST: a failed known-answer test, OTP read or NV answer leaves HELD_TRUST with FAULT_N low and no entry; else the
log is opened on the valid copy of the counter block with the more updates, the power-cycle counter counts, and the part goes to
HELD_THERMAL at 125 °C or above, to HELD_STRAP on a strap fault, to CLOCK otherwise, with the VCO in the starting band at 400 mV. -/
def Obligations.TrustExits : Prop :=
  ∀ (w : TrustWork) (s : State), s.power.state = .trust →
    ((w.otpOk && w.shaOk && w.ecdsaOk && w.nvAnswers) = false →
      exec (.trustEnd w) s = .next { s with power := { s.power with state := .heldTrust, faultLow := true } }) ∧
    ((w.otpOk && w.shaOk && w.ecdsaOk && w.nvAnswers) = true →
      ∃ t, exec (.trustEnd w) s = .next t ∧ t.wb.opened = true ∧ t.wb.nv.powerCycle = satInc32 s.wb.nv.choose.powerCycle ∧
        (t.power.state = if 125 ≤ w.temp then .heldThermal else if s.straps.faults = [] then .clock else .heldStrap) ∧
        (t.power.state = .clock → t.clock = { s.clock with
          begun := true, plan := defaultPlan s.strapEconomy, vt := 400, band := s.bandEntry.band, seqBand := s.bandEntry.band }))

/-- A temperature reading of 120 °C or above raises THERMAL (event 29) once for every present tenant, until a reading of 115 °C or
below re-arms it; while it is not armed, no event. The second reading in a row of 130 °C or above leads from CLOCK, AWAIT_IMAGE and
OPERATING to HELD_THERMAL; in TRUST it waits for its exit, and the held states are left only on a full reset, as Table PWR-2 has it
(DEDUCED, log 46). -/
def Obligations.ThermalReadings : Prop :=
  ∀ (c : Int) (s : State), s.power.state ≠ .por → s.power.state ≠ .strap →
    ∃ t, exec (.thermalReading c) s = .next t ∧ t.power.reading = c ∧ t.power.previous = s.power.reading ∧
      t.power.hotRun = (if 130 ≤ c then s.power.hotRun + 1 else 0) ∧
      (t.power.state = if 130 ≤ c ∧ 1 ≤ s.power.hotRun ∧
          (s.power.state = .clock ∨ s.power.state = .awaitImage ∨ s.power.state = .operating)
        then .heldThermal else s.power.state) ∧
      (t.power.thermalRaises = if 120 ≤ c ∧ s.power.thermalArmed = true then s.power.thermalRaises + 1 else s.power.thermalRaises) ∧
      (t.power.thermalArmed = if 120 ≤ c then false else s.power.thermalArmed || decide (c ≤ 115)) ∧
      (∀ x : TenantId, (t.tenant x).events =
        if 120 ≤ c ∧ s.power.thermalArmed = true ∧ s.present x = true ∧ (s.tenant x).held = false then
          (s.tenant x).events ||| (1#32 <<< 29)
        else (s.tenant x).events)

/-! ### Clock -/

/-- In CLOCK two consecutive windows within 3 % of nominal, for a recovered reference with character alignment on one of the links,
make the reference present, recovered from the up link where it can be, and begin a lock sequence in the starting band; a window
outside 3 %, or no alignment, does nothing; a reference absent at its deadline is a clock fault, which queues CLOCK_FAULT with cause 1
and leaves HELD_CLOCK. A lock attempt in CLOCK succeeds exactly when the phase error stayed in range and VT lies in the band's window:
AWAIT_IMAGE, FAULT_N released but for a unit that is wedged already, the band and VT kept. Otherwise the next band is tried, up when
VT lies above the window or the loop drove it to its upper limit without lock, and down in every other failed case, in the window
included; at the fourth failure, or where the step would leave bands 0 to 63, there is a clock fault with cause 2. -/
def Obligations.ReferenceAndLock : Prop :=
  ((∀ (p q : Int) (al up down : Bool) (s : State), s.power.state = .clock → s.clock.present = false →
    (p.natAbs ≤ 30000 → q.natAbs ≤ 30000 → s.refSource ≠ 2 →
      exec (.referencePresent p q al up down) s =
        .next { s with clock := { s.clock with present := true, seqBand := s.bandEntry.band, tried := [] } }) ∧
    (p.natAbs ≤ 30000 → q.natAbs ≤ 30000 → s.refSource = 2 → s.ring.locked = false → al = true → up = true ∨ down = true →
      exec (.referencePresent p q al up down) s = .next { s with
        clock := { s.clock with present := true, seqBand := s.bandEntry.band, tried := [] }
        ring := { s.ring with refLink := some (if up then .up else .down) } }) ∧
    (30000 < p.natAbs ∨ 30000 < q.natAbs ∨ (s.refSource = 2 ∧ (al = false ∨ (up = false ∧ down = false))) →
      exec (.referencePresent p q al up down) s = .next s)) ∧
  (∀ (ms d : Nat) (s : State), s.power.state = .clock → s.clock.present = false → refDeadline s.refSource = some d → d ≤ ms →
    exec (.referenceDeadline ms) s = .next (s.clockFault 1 [] 0xffff)) ∧
  (∀ (cause : Byte) (tried : List (BitVec 6)) (vt : Nat) (s : State),
    s.clockFault cause tried vt = { s with
      power := { s.power with state := .heldClock, faultLow := true, faultEdge := 0 }, wb := (s.clockFault cause tried vt).wb })) ∧
  (∀ (a : LockAttempt) (s : State), s.power.state = .clock → s.clock.present = true →
    ((a.reached = true ∧ s.bandEntry.lo ≤ a.taken ∧ a.taken ≤ s.bandEntry.hi) →
      exec (.lockAttemptEnd a) s = .next { s with
        power := { s.power with state := .awaitImage, faultLow := s.unitFault, faultEdge := 0 }
        clock := { s.clock with locked := true, band := s.clock.seqBand, vt := a.taken, tried := [] } }) ∧
    (¬(a.reached = true ∧ s.bandEntry.lo ≤ a.taken ∧ a.taken ≤ s.bandEntry.hi) →
      (s.clock.tried.length < 3 → (s.bandEntry.hi < a.taken ∨ (a.reached = false ∧ a.limit = .upper)) →
        (s.clock.seqBand ≠ 63#6 → exec (.lockAttemptEnd a) s = .next { s with
          clock := { s.clock with seqBand := s.clock.seqBand + 1, tried := s.clock.tried ++ [s.clock.seqBand] } }) ∧
        (s.clock.seqBand = 63#6 → exec (.lockAttemptEnd a) s = .next (s.clockFault 2 (s.clock.tried ++ [63#6]) a.taken))) ∧
      (s.clock.tried.length < 3 → a.taken ≤ s.bandEntry.hi → (a.reached = true ∨ a.limit ≠ .upper) →
        (s.clock.seqBand ≠ 0#6 → exec (.lockAttemptEnd a) s = .next { s with
          clock := { s.clock with seqBand := s.clock.seqBand - 1, tried := s.clock.tried ++ [s.clock.seqBand] } }) ∧
        (s.clock.seqBand = 0#6 → exec (.lockAttemptEnd a) s = .next (s.clockFault 2 (s.clock.tried ++ [0#6]) a.taken))) ∧
      (3 ≤ s.clock.tried.length →
        exec (.lockAttemptEnd a) s = .next (s.clockFault 2 (s.clock.tried ++ [s.clock.seqBand]) a.taken))))

/-- Lock is lost at 4 consecutive phase errors above 20 ns or 4 missing edges: the part goes into holdover and queues HOLDOVER with
the cause, and the strobes go on. The reference back, a re-lock inside the window ends holdover; with VT outside the window, lock
reached or not, a stepped re-lock follows, whose sequence resumes the strobes in its new band, or in holdover when it fails, the frame
longer by the gap. The VT that HOLDOVER gives, and what a RELOCK entry says of an unstepped and of a failed re-lock, are log 49
(DEDUCED). -/
def Obligations.HoldoverCommands : Prop :=
  (∀ (c : LockLoss) (s : State), s.running = true → c.cause ≠ 0 → s.clock.locked = true → s.clock.holdover = false →
    exec (.lockLost c) s = .next (({ s with
      clock := { s.clock with locked := false, holdover := true, present := false, inhibited := false } }).logPart 0x0a
        ([s.clock.band.setWidth 8] ++ beBytes 2 s.clock.vt ++ [BitVec.ofNat 8 c.cause]))) ∧
  (∀ (a : LockAttempt) (s : State), s.running = true → s.clock.canRelock = true → a.reached = true → a.ok s.bandEntry = true →
    exec (.relock a) s = .next (({ s with clock := { s.clock with locked := true, holdover := false, vt := a.taken } }).logPart 0x0b
      (relockPayload true false 0 [s.clock.band] a.taken s.clock.band))) ∧
  (∀ (a : LockAttempt) (s : State), s.running = true → s.clock.canRelock = true →
    a.taken < s.bandEntry.lo ∨ s.bandEntry.hi < a.taken →
    exec (.relock a) s = .next { s with clock := { s.clock with stepped := .afterNext } }) ∧
  (∀ (l : List LockAttempt) (gap : Half) (cycles : Nat) (tried : List (BitVec 6)) (vt : Nat) (s : State),
    s.running = true → s.clock.stepped = .stopped → runSequence s.bandEntry s.bandEntry.band [] l = some (true, tried, vt) →
    exec (.steppedRelock l gap cycles) s = .next ((({ s with clock := { s.clock with
      stepped := .none, locked := true, holdover := false, band := tried.getLastD 0, vt := vt
      added := s.clock.added + cycles } }).logPart 0x0b (relockPayload true true gap tried vt (tried.getLastD 0))).gapAudio)) ∧
  (∀ (l : List LockAttempt) (gap : Half) (cycles : Nat) (tried : List (BitVec 6)) (vt : Nat) (s : State),
    s.running = true → s.clock.stepped = .stopped → runSequence s.bandEntry s.bandEntry.band [] l = some (false, tried, vt) →
    exec (.steppedRelock l gap cycles) s = .next ((({ s with clock := { s.clock with
      stepped := .none, inhibited := true, added := s.clock.added + cycles } }).logPart 0x0b
        (relockPayload false true gap tried vt s.clock.band)).gapAudio))

/-- One frame of a slot under FADE (Table SAP-6): `x` becomes `y` with the frame's sample, whether the slot faults in it, given. A faded
frame carries the held value, the slot's last one when its fade began, scaled by the gain of its step. -/
def Sys2Proof.Machine.AudioSlot.fades (x y : AudioSlot) (fault : Bool) (sample : List Word) : Prop :=
  y.clean = (if fault then 0 else x.clean + 1) ∧
  (x.phase = .live → fault = false → y.phase = .live ∧ y.content = sample) ∧
  (x.phase = .live → fault = true → y.phase = .fading ∧ y.j = 2 ∧ y.held = x.content.getLastD 0 ∧
    y.content = sample.map (fun _ => fadeScale y.held 1)) ∧
  (x.phase = .fading → y.j = x.j + 1 ∧ y.held = x.held ∧ y.content = sample.map (fun _ => fadeScale x.held x.j) ∧
    y.phase = if 64 ≤ x.j then .silent else .fading) ∧
  (x.phase = .silent → y.content = sample.map (fun _ => 0#32) ∧
    (fault = false ∧ 16 ≤ x.clean → y.phase = .ramping ∧ y.j = 1) ∧ (fault = true ∨ x.clean < 16 → y.phase = .silent)) ∧
  (x.phase = .ramping → fault = false → y.j = x.j + 1 ∧ y.content = sample.map (fun v => fadeScale v (64 - x.j)) ∧
    y.phase = if 64 ≤ x.j then .live else .ramping) ∧
  (x.phase = .ramping → fault = true → y.j = 65 - x.j + 1 ∧ y.held = x.content.getLastD 0 ∧
    y.content = sample.map (fun _ => fadeScale y.held (65 - x.j)) ∧ y.phase = if 64 ≤ 65 - x.j then .silent else .fading)

/-- What a frame does to an input port's slots and events, and what the views see of it: the words that it received, whether its slots
fault, and whether ALIGN carries 0 in them. -/
def Sys2Proof.Machine.State.framesIn (s t : State) (p : SapId) (x : TenantId) (e : PortEntry) (ws : List Word) (fault zero : Bool) : Prop :=
  (∀ k : Fin 16, k.val < e.slots →
    (t.sap p).delivered[k] = (t.sap p).slots[k].content ∧
    (e.align = true → (t.sap p).slots[k].content = if zero then List.replicate e.rate 0 else e.received ws k.val) ∧
    (e.align = false → ((s.sap p).slots[k]).fades (t.sap p).slots[k] fault (e.received ws k.val))) ∧
  (e.align = false → fault = true →
    (∃ k : Fin 16, k.val < e.slots ∧ ((s.sap p).slots[k].phase = .live ∨ (s.sap p).slots[k].phase = .ramping)) →
    s.present x = true → (s.tenant x).held = false → (t.tenant x).events.getLsbD 21 = true)

/-- W1's count of an island from one strobe to the next: the strobe before is judged, and whether this one is acknowledged is kept. -/
def Sys2Proof.Machine.Handshake.counts (h g : Handshake) (frame : Nat) (done ack : Bool) : Prop :=
  (done = true → g.fails = 17 ∧ g.ok = true) ∧
  (done = false → g.ok = ack ∧ g.fails = (if h.ok then 0 else h.fails + 1) ∧ (h.ok = false → h.fails = 0 → g.first = frame))

/-- A frame strobe in AWAIT_IMAGE or OPERATING begins frame 0, or the frame after the one before: nothing skips or repeats a frame,
and the part state, the straps, OTP and the TAP stay as they were. At a strobe the timer of every channel whose notice is FULL and
VISIBLE counts down by one frame, and no other, and a running bench's period gains the bench cycles of the plan in force: 7,680, or
3,840 in an economy plan. The cycles by which a frame was lengthened, whole ones of VCO/8, are log 55 (DEDUCED). A follower input delivers what
its capture took, and its slip raises SAP_UNDERRUN (event 19) or SAP_OVERRUN (event 20) here; a master input delivers the frame received
before it, or after a gap underruns; ALIGN carries 0 where a frame is missing, FADE moves each slot as Table SAP-6 says, and one that leaves
LIVE or RAMPING for a fault raises PORT_FADE (event 21); a master output carries what was published for it, narrowed. A sense
channel calibrates its sample, takes the DC estimate out of it in the modes that have one, and delivers in RUN at its delivery strobes,
but the one that a phase step makes it miss; its edges that are due enter the view. Each handshake is counted; before the gap of a stepped
re-lock every island acknowledges. -/
def Obligations.FrameStrobes : Prop :=
  (∀ (i : StrobeInputs) (s : State), s.running = true → s.clock.stepped ≠ .stopped →
    ∃ t, exec (.frameStrobe i) s = .next t ∧
      t.clock = { s.clock with
        frame := if s.clock.strobed then s.clock.frame + 1 else 0, strobed := true
        time := if s.clock.strobed then s.clock.time + 7680 + s.clock.added else 0, added := 0
        starts := s.clock.starts.filter (fun f => decide ((if s.clock.strobed then s.clock.frame + 1 else 0) ≤ f))
        stepped := if s.clock.stepped = .none then .none else .stopped } ∧
      t.power = s.power ∧ t.straps = s.straps ∧ t.otp = s.otp ∧ t.tap = s.tap ∧ t.staging = s.staging ∧ t.pit.mem = s.pit.mem ∧
      t.channels.length = s.channels.length ∧
      (∀ (k : Nat) (c : Channel), s.channels[k]? = some c →
        t.channels[k]? = some (if c.full = true ∧ c.visible = true then { c with timer := c.timer - 1 } else c))) ∧
  (∀ (i : StrobeInputs) (s : State) (b : BenchId), s.running = true → s.clock.stepped ≠ .stopped →
    (s.bench b).active = true →
    ∃ t, exec (.frameStrobe i) s = .next t ∧ (t.bench b).state = .running ∧
      (t.bench b).seq = { (s.bench b).seq with
        toggle := (s.bench b).seq.toggle != decide (s.addedCycles % 2 = 1)
        granted := (s.bench b).seq.granted + if s.clock.plan.getLsbD 12 then 3840 else 7680 }) ∧
  (∀ (i : StrobeInputs) (s : State) (p : SapId) (x : TenantId) (e : PortEntry), s.audioLive = true → s.clock.stepped ≠ .stopped →
    (s.sap p).entry = some (x, e) → ∃ t, exec (.frameStrobe i) s = .next t ∧
      (s.portRole p = 2 →
        ((s.sap p).captured = none → (s.sap p).slip = none → t.sap p = s.sap p) ∧
        ((s.sap p).captured.isSome = true ∨ (s.sap p).slip.isSome = true →
          (t.sap p).captured = none ∧ (t.sap p).slip = none ∧
          s.framesIn t p x e ((s.sap p).captured.getD []) (s.sap p).slip.isSome (s.sap p).captured.isNone ∧
          (s.present x = true → (s.tenant x).held = false →
            ((s.sap p).slip = some .underrun → (t.tenant x).events.getLsbD 19 = true) ∧
            ((s.sap p).slip = some .overrun → (t.tenant x).events.getLsbD 20 = true)))) ∧
      (s.portRole p = 1 → (s.sap p).running = true → (s.sap p).startDue ≠ some (if s.clock.strobed then s.clock.frame + 1 else 0) →
        (t.sap p).gap = false ∧ s.framesIn t p x e i.audio[p] (s.sap p).gap (s.sap p).gap ∧
        ((s.sap p).gap = true → s.present x = true → (s.tenant x).held = false → (t.tenant x).events.getLsbD 19 = true)) ∧
      (s.portRole p = 3 → (s.sap p).running = true →
        (∀ k : Fin 16, (t.sap p).slots[k].pub = []) ∧ (t.sap p).gap = false ∧
        ((s.sap p).gap = true → s.present x = true → (s.tenant x).held = false → (t.tenant x).events.getLsbD 19 = true) ∧
        ((s.sap p).gap = false → ∀ (k : Fin 16) (v : Nat → Word), k.val < e.slots → (e.width = 16 ∨ e.width = 24 ∨ e.width = 32) →
          (∀ r, r < e.rate → e.routed k.val (decide (r = 1)) = true →
            pubAt (s.sap p).slots[k].pub (decide (r = 1)) = some (v r)) →
          (e.align = true ∨ (s.sap p).slots[k].phase = .live) →
          (t.sap p).slots[k].content =
            (List.range e.rate).map (fun r => if e.routed k.val (decide (r = 1)) = true then narrowSample e.width (v r) else 0)))) ∧
  (∀ (i : StrobeInputs) (s : State) (p : SapId), s.audioLive = true → s.clock.stepped ≠ .stopped → (s.sap p).entry = none →
    (s.sap p).ending = true → roleMaster (s.portRole p) = true → ∃ t, exec (.frameStrobe i) s = .next t ∧
      (t.sap p).ending = false ∧ ∀ k : Fin 16, (t.sap p).slots[k].content = []) ∧
  (∀ (i : StrobeInputs) (s : State) (ch : SenseId) (x : TenantId) (d : SenseDecl) (m u y : Int), s.senseLive = true →
    s.clock.stepped ≠ .stopped → (s.chan ch).cfg = some (x, d) → u = calibrate ch (s.chan ch).cal i.samples[ch] →
    m = (if (s.chan ch).seeded then (s.chan ch).dc else u * 2 ^ 16) → y = (if d.mode < 2 then u - roundEven m 16 else u) →
    ∃ t, exec (.frameStrobe i) s = .next t ∧ (t.chan ch).seeded = true ∧ (t.chan ch).state = (s.chan ch).state ∧
      (t.chan ch).dc = (if d.mode < 2 then m + roundEven (u * 2 ^ 16 - m) 16 else (s.chan ch).dc) ∧
      (t.chan ch).recent = (y :: (s.chan ch).recent).take (48 * (d.divisor - 1) + 1) ∧
      (d.divisor = 1 → (t.chan ch).offer = BitVec.ofInt 32 (max (-(2 ^ 31)) (min (2 ^ 31 - 1) y))) ∧
      ((s.chan ch).state = .run → t.align % d.divisor = 0 → s.ring.skipDelivery.getLsbD ch.val = false →
        (t.chan ch).sample = (t.chan ch).offer ∧ (t.chan ch).deliveredAt = some t.clock.frame) ∧
      ((s.chan ch).state ≠ .run ∨ t.align % d.divisor ≠ 0 ∨ s.ring.skipDelivery.getLsbD ch.val = true →
        (t.chan ch).sample = (s.chan ch).sample ∧ (t.chan ch).deliveredAt = (s.chan ch).deliveredAt) ∧
      (t.chan ch).entering = ((s.chan ch).waiting.filter (fun e => decide (e.2 ≤ t.clock.time))).map Prod.fst ∧
      (t.chan ch).waiting = (s.chan ch).waiting.filter (fun e => decide (t.clock.time < e.2))) ∧
  (∀ (ch : SenseId) (cal : Option CalDecl) (c g o yf : Int), g = ((cal.map (fun z => z.gain)).getD 0) →
    o = ((cal.map (fun z => z.offset)).getD 0) → -20000 ≤ g → g ≤ 20000 → -10000 ≤ o → o ≤ 10000 →
    yf = roundEven ((c - (Config.factoryOffset ch.val).toInt) * ((Config.factoryGain ch.val).toNat : Int)) 23 →
    ∃ v w : Int, calibrate ch cal c = max (-(2 ^ 31)) (min (2 ^ 31 - 1) (v + w)) ∧
      (2 * (1000000 * v - yf * (1000000 + g))).natAbs ≤ 1000000 ∧ (2 * (1000000 * w - o * 2 ^ 31)).natAbs ≤ 1000000) ∧
  (∀ (i : StrobeInputs) (s : State), s.running = true → s.clock.stepped ≠ .stopped → ∃ t, exec (.frameStrobe i) s = .next t ∧
    ∀ gap, gap = decide (s.clock.stepped = .afterNext) →
      (∀ b : BenchId, (t.bench b).acked = (gap || i.benchAck[b] && i.glideAck[b]) ∧
        ((s.bench b).shake).counts (t.bench b).shake s.clock.frame (decide ((s.bench b).state = .fenced)) (t.bench b).acked) ∧
      (∀ k : Fin 9, (s.faults.shake[k]).counts (t.faults.shake[k]) s.clock.frame (s.faults.wedged[k]) (gap || i.sharedAck[k])))

/-! ### Bench steps -/

/-- A bench as the step at its next issue position sees it: every write of a position up to three before is done. -/
def Sys2Proof.Machine.State.seen (s : State) (b : BenchId) : Bench := (s.bench b).settle (s.bench b).seq.position

/-- The bench after a step that changes it by `g` and takes its issue position. -/
def Sys2Proof.Machine.State.took (s : State) (b : BenchId) (g : Bench → Bench) : State :=
  s.modBench b (fun x =>
    let y := g (x.settle x.seq.position)
    { y with seq := { y.seq with issued := y.seq.issued + 1 } })

/-- The state after bench `b` issued a step that put these writes on their way, and did nothing else. -/
def Sys2Proof.Machine.State.stepped (s : State) (b : BenchId) (ws : List PipeTarget) : State :=
  s.took b (fun y => y.pushAll (s.bench b).seq.position ws)

/-- The state after bench `b` issued a chain write of an accumulator: chain steps see it at once, other readers from the third
position on. -/
def Sys2Proof.Machine.State.chained (s : State) (b : BenchId) (n : Nat) (v : BitVec 72) (ws : List PipeTarget) : State :=
  s.took b (fun y => ({ y with acc := vmod y.acc n (fun _ => v) }).pushAll (s.bench b).seq.position (.acc n v :: ws))

/-- What a step puts on its way for an exact result in units of 2^-31 under the overflow rule of R162; `w` says where the value goes, and
sticky flag 1 is the saturation flag. -/
def Sys2Proof.Machine.overflowWrites (w : Word → PipeTarget) (f : StepFields) (v : Int) : List PipeTarget :=
  if f.sat = true ∧ 2147483647 < v then [w 0x7fffffff#32, .flag 1]
  else if f.sat = true ∧ v < -2147483648 then [w 0x80000000#32, .flag 1]
  else [w (BitVec.ofInt 32 v)]

/-- The writes of a step whose result goes to its destination register. -/
def Sys2Proof.Machine.resultWrites (f : StepFields) (v : Int) : List PipeTarget := overflowWrites (.reg f.rd) f v

/-- The bench, the opcode and the fields of a step command whose issue is not tied to a sub-operation. -/
def Sys2Proof.Instr.step (c : Instr) : Option (BenchId × BitVec 6 × StepFields) :=
  match c with
  | .nop b f => some (b, 0x00, f)
  | .mov b f => some (b, 0x01, f)
  | .movi b f => some (b, 0x02, f)
  | .add b f => some (b, 0x03, f)
  | .sub b f => some (b, 0x04, f)
  | .neg b f => some (b, 0x05, f)
  | .abs b f => some (b, 0x06, f)
  | .min b f => some (b, 0x07, f)
  | .max b f => some (b, 0x08, f)
  | .and b f => some (b, 0x09, f)
  | .ior b f => some (b, 0x0a, f)
  | .xor b f => some (b, 0x0b, f)
  | .shl b f => some (b, 0x0c, f)
  | .shra b f => some (b, 0x0d, f)
  | .shrl b f => some (b, 0x0e, f)
  | .mul b f => some (b, 0x10, f)
  | .mulc b f => some (b, 0x11, f)
  | .mac b f => some (b, 0x12, f)
  | .macc b f => some (b, 0x13, f)
  | .msu b f => some (b, 0x14, f)
  | .msuc b f => some (b, 0x15, f)
  | .aclr b f => some (b, 0x16, f)
  | .ald b f => some (b, 0x17, f)
  | .ast b f => some (b, 0x18, f)
  | .cmp b f => some (b, 0x19, f)
  | .sel b f => some (b, 0x1a, f)
  | .clamp b f => some (b, 0x1b, f)
  | .drd b f _ => some (b, 0x1c, f)
  | .drdf b f _ _ => some (b, 0x1d, f)
  | .dwr b f => some (b, 0x1e, f)
  | .dwra b f => some (b, 0x1f, f)
  | .crd b f => some (b, 0x20, f)
  | .lut b f => some (b, 0x21, f)
  | .log2 b f => some (b, 0x22, f)
  | .exp2 b f => some (b, 0x23, f)
  | .rsq b f => some (b, 0x24, f)
  | .envf b f => some (b, 0x25, f)
  | .pin b f => some (b, 0x28, f)
  | .pout b f => some (b, 0x29, f)
  | .sin b f => some (b, 0x2a, f)
  | .pls b f => some (b, 0x2b, f)
  | .rin b f => some (b, 0x2c, f)
  | .rout b f => some (b, 0x2d, f)
  | .prd b f => some (b, 0x2e, f)
  | .pget b f => some (b, 0x2f, f)
  | .pwr b f => some (b, 0x30, f)
  | .prio b f => some (b, 0x31, f)
  | .postStep b f => if f.bits 36 2 = 0 then some (b, 0x32, f) else none
  | .withdrawStep b f => if f.bits 36 2 = 1 then some (b, 0x32, f) else none
  | .queryStep b f => if f.bits 36 2 = 2 then some (b, 0x32, f) else none
  | .takeStep b f => some (b, 0x33, f)
  | .ackn b f => some (b, 0x34, f)
  | .rslt b f => some (b, 0x35, f)
  | .evt b f => some (b, 0x36, f)
  | .wit b f => some (b, 0x37, f)
  | .commitStep b f => some (b, 0x38, f)
  | .rwr b f => some (b, 0x39, f)
  | .tod b f => some (b, 0x3a, f)
  | .fcnt b f => some (b, 0x3b, f)
  | .stat b f => some (b, 0x3c, f)
  | .plan b f => some (b, 0x3d, f)
  | _ => none

/-- A step word holds its opcode and every field at every value (Table BEN-2): the word that an opcode and fields spell gives the same
opcode and the same fields back, and every word is spelled by its own opcode and fields. -/
def Obligations.StepWordRoundTrip : Prop :=
  (∀ (op : BitVec 6) (f : StepFields), stepOp (encodeStep op f) = op ∧ stepFields (encodeStep op f) = f) ∧
  (∀ w : StepWord, encodeStep (stepOp w) (stepFields w) = w)

/-- A bench issues exactly the step that its program holds at its next address, once, while it runs, fewer than L steps have issued
and a cycle of the issue window is left; a step command that is not that step changes nothing (the model's convention, log 2). A
step whose predicate is false takes its issue position and does nothing else. -/
def Obligations.StepsThatDoNotIssue : Prop :=
  (∀ (c : Instr) (b : BenchId) (op : BitVec 6) (f : StepFields) (s : State), c.step = some (b, op, f) →
    (s.issues b op f = true →
      s.running = true ∧ (s.bench b).active = true ∧ (s.bench b).seq.issued < (s.bench b).seq.length ∧
      stepOp (Sparse.read 0 (s.bench b).seq.prog ((s.bench b).seq.vector + (s.bench b).seq.issued)) = op ∧
      stepFields (Sparse.read 0 (s.bench b).seq.prog ((s.bench b).seq.vector + (s.bench b).seq.issued)) = f ∧
      ∃ t, exec c s = .next t ∧ (t.bench b).seq.issued = (s.bench b).seq.issued + 1) ∧
    (s.issues b op f = false → exec c s = .next s)) ∧
  (∀ (c : Instr) (b : BenchId) (op : BitVec 6) (f : StepFields) (s : State), c.step = some (b, op, f) →
    s.issues b op f = true → (s.seen b).performs f = false → exec c s = .next (s.stepped b []))

/-- NOP writes nothing, MOV writes a, MOVI writes IMM; nothing else changes but the issue position. -/
def Obligations.MoveSteps : Prop :=
  ∀ (b : BenchId) (f : StepFields) (s : State), (s.seen b).performs f = true →
    (s.issues b 0x00 f = true → exec (.nop b f) s = .next (s.stepped b [])) ∧
    (s.issues b 0x01 f = true → exec (.mov b f) s = .next (s.stepped b [.reg f.rd ((s.seen b).reg f.ra)])) ∧
    (s.issues b 0x02 f = true → exec (.movi b f) s = .next (s.stepped b [.reg f.rd (f.ext.extractLsb' 0 32)]))

/-- ADD, SUB, NEG and ABS form the exact sum, difference, negation and magnitude and write it under the overflow rule: with saturate an
exact result outside the Q1.31 range is clamped and sets the saturation flag, without it the low 32 bits are kept. -/
def Obligations.AddSteps : Prop :=
  ∀ (b : BenchId) (f : StepFields) (s : State), (s.seen b).performs f = true →
    (s.issues b 0x03 f = true → exec (.add b f) s =
      .next (s.stepped b (resultWrites f (((s.seen b).reg f.ra).toInt + ((s.seen b).reg f.rb).toInt)))) ∧
    (s.issues b 0x04 f = true → exec (.sub b f) s =
      .next (s.stepped b (resultWrites f (((s.seen b).reg f.ra).toInt - ((s.seen b).reg f.rb).toInt)))) ∧
    (s.issues b 0x05 f = true → exec (.neg b f) s = .next (s.stepped b (resultWrites f (-((s.seen b).reg f.ra).toInt)))) ∧
    (s.issues b 0x06 f = true → exec (.abs b f) s = .next (s.stepped b (resultWrites f ((s.seen b).reg f.ra).toInt.natAbs)))

/-- MIN and MAX write the smaller and the larger of a and b as signed values; AND, IOR and XOR write the bitwise result. -/
def Obligations.MinMaxLogicSteps : Prop :=
  ∀ (b : BenchId) (f : StepFields) (s : State), (s.seen b).performs f = true →
    (s.issues b 0x07 f = true → ∃ v, exec (.min b f) s = .next (s.stepped b [.reg f.rd v]) ∧
      v.toInt = min ((s.seen b).reg f.ra).toInt ((s.seen b).reg f.rb).toInt) ∧
    (s.issues b 0x08 f = true → ∃ v, exec (.max b f) s = .next (s.stepped b [.reg f.rd v]) ∧
      v.toInt = max ((s.seen b).reg f.ra).toInt ((s.seen b).reg f.rb).toInt) ∧
    (s.issues b 0x09 f = true → ∃ v, exec (.and b f) s = .next (s.stepped b [.reg f.rd v]) ∧
      ∀ i, v.getLsbD i = (((s.seen b).reg f.ra).getLsbD i && ((s.seen b).reg f.rb).getLsbD i)) ∧
    (s.issues b 0x0a f = true → ∃ v, exec (.ior b f) s = .next (s.stepped b [.reg f.rd v]) ∧
      ∀ i, v.getLsbD i = (((s.seen b).reg f.ra).getLsbD i || ((s.seen b).reg f.rb).getLsbD i)) ∧
    (s.issues b 0x0b f = true → ∃ v, exec (.xor b f) s = .next (s.stepped b [.reg f.rd v]) ∧
      ∀ i, v.getLsbD i = (((s.seen b).reg f.ra).getLsbD i != ((s.seen b).reg f.rb).getLsbD i))

/-- SHL forms a × 2^n under the overflow rule; SHRA forms a × 2^-n, rounded down when RND is 0 and to the nearest with ties to even when it
is 1; SHRL shifts the pattern right with zero fill. The amount n is AMT, or b read unsigned and at most 31. -/
def Obligations.ShiftSteps : Prop :=
  ∀ (b : BenchId) (f : StepFields) (s : State) (n : Nat), (s.seen b).performs f = true →
    n = (if f.ext.getLsbD 37 then f.bits 0 5 else min ((s.seen b).reg f.rb).toNat 31) →
    (s.issues b 0x0c f = true → exec (.shl b f) s = .next (s.stepped b (resultWrites f (((s.seen b).reg f.ra).toInt * 2 ^ n)))) ∧
    (s.issues b 0x0d f = true → ∃ v, exec (.shra b f) s = .next (s.stepped b [.reg f.rd v]) ∧
      (f.ext.getLsbD 36 = false → v.toInt = ((s.seen b).reg f.ra).toInt / 2 ^ n) ∧
      (f.ext.getLsbD 36 = true → v.toInt = roundEven ((s.seen b).reg f.ra).toInt n)) ∧
    (s.issues b 0x0e f = true → ∃ v, exec (.shrl b f) s = .next (s.stepped b [.reg f.rd v]) ∧
      v.toNat = ((s.seen b).reg f.ra).toNat / 2 ^ n)

/-- Rounding takes a value to the nearest multiple, ties to the even one. -/
def Obligations.RoundingIsNearestEven : Prop :=
  ∀ (n : Int) (k : Nat),
    2 * (n - roundEven n k * 2 ^ k) ≤ 2 ^ k ∧ -(2 ^ k) ≤ 2 * (n - roundEven n k * 2 ^ k) ∧
    (2 * (n - roundEven n k * 2 ^ k) = 2 ^ k ∨ 2 * (n - roundEven n k * 2 ^ k) = -(2 ^ k) → roundEven n k % 2 = 0)

/-- MUL and MULC narrow the exact product of a and b, or of a and the coefficient in force, shifted left by SH. -/
def Obligations.ProductSteps : Prop :=
  ∀ (b : BenchId) (f : StepFields) (s : State), (s.seen b).performs f = true →
    (s.issues b 0x10 f = true → exec (.mul b f) s = .next (s.stepped b
      (resultWrites f (roundEven (((s.seen b).reg f.ra).toInt * ((s.seen b).reg f.rb).toInt * 2 ^ f.sh) 31)))) ∧
    (s.issues b 0x11 f = true → exec (.mulc b f) s = .next (s.stepped b (resultWrites f
      (roundEven (((s.seen b).reg f.ra).toInt * ((s.seen b).coef ((s.seen b).coefIndex f)).toInt * 2 ^ f.sh) 31))))

/-- MAC and MACC add the shifted product to the accumulator that dst names, MSU and MSUC subtract it. The exact sum in units of 2^-62 is
kept when it lies in the Q10.62 range; outside it, without saturate it is kept modulo 2^72 and sets sticky flag 2 (wrap), with saturate it
is clamped and sets sticky flag 1. ACLR sets the accumulator to 0, ALD to a × 2^SH. -/
def Obligations.AccumulatorSteps : Prop :=
  ∀ (b : BenchId) (f : StepFields) (s : State) (A p k : Int), (s.seen b).performs f = true →
    A = (vget (s.seen b).acc (f.dst.toNat % 4) 0).toInt →
    p = ((s.seen b).reg f.ra).toInt * ((s.seen b).reg f.rb).toInt * 2 ^ f.sh →
    k = ((s.seen b).reg f.ra).toInt * ((s.seen b).coef ((s.seen b).coefIndex f)).toInt * 2 ^ f.sh →
    ∃ after : Int → State,
      (∀ v, -(2 ^ 71) ≤ v → v < 2 ^ 71 → after v = s.chained b (f.dst.toNat % 4) (BitVec.ofInt 72 v) []) ∧
      (∀ v, v < -(2 ^ 71) ∨ 2 ^ 71 ≤ v → f.sat = false →
        after v = s.chained b (f.dst.toNat % 4) (BitVec.ofInt 72 v) [.flag 2]) ∧
      (∀ v, v < -(2 ^ 71) → f.sat = true → after v = s.chained b (f.dst.toNat % 4) (BitVec.ofInt 72 (-(2 ^ 71))) [.flag 1]) ∧
      (∀ v, 2 ^ 71 ≤ v → f.sat = true → after v = s.chained b (f.dst.toNat % 4) (BitVec.ofInt 72 (2 ^ 71 - 1)) [.flag 1]) ∧
      (s.issues b 0x12 f = true → exec (.mac b f) s = .next (after (A + p))) ∧
      (s.issues b 0x13 f = true → exec (.macc b f) s = .next (after (A + k))) ∧
      (s.issues b 0x14 f = true → exec (.msu b f) s = .next (after (A - p))) ∧
      (s.issues b 0x15 f = true → exec (.msuc b f) s = .next (after (A - k))) ∧
      (s.issues b 0x16 f = true → exec (.aclr b f) s = .next (s.chained b (f.dst.toNat % 4) 0 [])) ∧
      (s.issues b 0x17 f = true → exec (.ald b f) s = .next (s.chained b (f.dst.toNat % 4)
        (BitVec.ofInt 72 (((s.seen b).reg f.ra).toInt * 2 ^ 31 * 2 ^ f.sh)) []))

/-- AST writes, and DWRA puts in the now position of LINE, the accumulator as seen three positions on, shifted right by SH and narrowed;
DWR puts a there. -/
def Obligations.StoreSteps : Prop :=
  ∀ (b : BenchId) (f : StepFields) (s : State) (v : Int), (s.seen b).performs f = true →
    v = roundEven (vget (s.seen b).accSeen (f.sa.toNat % 4) 0).toInt (31 + f.sh) →
    (s.issues b 0x18 f = true → exec (.ast b f) s = .next (s.stepped b (resultWrites f v))) ∧
    (s.issues b 0x1f f = true → exec (.dwra b f) s = .next (s.stepped b (overflowWrites (.delay f.line (((s.seen b).line f.line).addr 0)) f v))) ∧
    (s.issues b 0x1e f = true → exec (.dwr b f) s = .next (s.stepped b
      [.delay f.line (((s.seen b).line f.line).addr 0) ((s.seen b).reg f.ra)]))

/-- CMP writes P_PD with the comparison of a and b, or of a and IMM × 2^16, alone or combined with P_q, by its twelve conditions: 0 to 5
equal, not equal, less, at most, greater and at least of signed values, 6 to 9 the four orders of unsigned ones, 10 and 11 whether a
and b' have a set bit in common or none; SEL writes a when P_q is 1 and b
when it is 0; CLAMP writes min(max(a, b), c), and F tells whether that differs from a. -/
def Obligations.CompareSteps : Prop :=
  ∀ (b : BenchId) (f : StepFields) (s : State) (y : Word) (c : Bool), (s.seen b).performs f = true →
    y = (if f.ext.getLsbD 25 then BitVec.ofNat 32 (f.bits 0 16 * 2 ^ 16) else (s.seen b).reg f.rb) →
    (s.issues b 0x19 f = true →
      ((f.bits 34 4 = 0 ∧ c = decide ((s.seen b).reg f.ra = y)) ∨ (f.bits 34 4 = 1 ∧ c = decide ((s.seen b).reg f.ra ≠ y)) ∨
        (f.bits 34 4 = 2 ∧ c = decide (((s.seen b).reg f.ra).toInt < y.toInt)) ∨
        (f.bits 34 4 = 3 ∧ c = decide (((s.seen b).reg f.ra).toInt ≤ y.toInt)) ∨
        (f.bits 34 4 = 4 ∧ c = decide (y.toInt < ((s.seen b).reg f.ra).toInt)) ∨
        (f.bits 34 4 = 5 ∧ c = decide (y.toInt ≤ ((s.seen b).reg f.ra).toInt)) ∨
        (f.bits 34 4 = 6 ∧ c = decide (((s.seen b).reg f.ra).toNat < y.toNat)) ∨
        (f.bits 34 4 = 7 ∧ c = decide (((s.seen b).reg f.ra).toNat ≤ y.toNat)) ∨
        (f.bits 34 4 = 8 ∧ c = decide (y.toNat < ((s.seen b).reg f.ra).toNat)) ∨
        (f.bits 34 4 = 9 ∧ c = decide (y.toNat ≤ ((s.seen b).reg f.ra).toNat)) ∨
        (f.bits 34 4 = 10 ∧ c = decide (∃ i : Fin 32, ((s.seen b).reg f.ra).getLsbD i.val = true ∧ y.getLsbD i.val = true)) ∨
        (f.bits 34 4 = 11 ∧ c = decide (¬∃ i : Fin 32, ((s.seen b).reg f.ra).getLsbD i.val = true ∧ y.getLsbD i.val = true))) →
      ∃ v, exec (.cmp b f) s = .next (s.stepped b [.pred (f.bits 31 3) v]) ∧
      (f.bits 29 2 = 0 → v = c) ∧ (f.bits 29 2 = 1 → v = (c && (s.seen b).pred (f.bits 26 3))) ∧
      (f.bits 29 2 = 2 → v = (c || (s.seen b).pred (f.bits 26 3))) ∧
      (f.bits 29 2 = 3 → v = (c != (s.seen b).pred (f.bits 26 3)))) ∧
    (s.issues b 0x1a f = true → exec (.sel b f) s = .next (s.stepped b
      [.reg f.rd (if (s.seen b).pred (f.bits 0 3) = true then (s.seen b).reg f.ra else (s.seen b).reg f.rb)])) ∧
    (s.issues b 0x1b f = true → ∃ v, exec (.clamp b f) s = .next (s.stepped b
        (.reg f.rd v :: if f.bits 19 3 = 7 then [] else [.pred (f.bits 19 3) (v != (s.seen b).reg f.ra)])) ∧
      v.toInt = min (max ((s.seen b).reg f.ra).toInt ((s.seen b).reg f.rb).toInt) ((s.seen b).reg (f.bits 0 5)).toInt)

/-- A delay read: the tap is clamped to the line's length less one; it is cold when the line's fill count lies below it (tap 0
before this period's write is judged as a read of tap N), and then gives 0, sets P_7 and sticky flag 0; a word not written since
release gives 0; a corrected word, written or not, is counted; an uncorrectable one gives 0, sets P_7, is counted, leaves a failure
record with ECC_FATAL and source 3 and is rewritten with 0. DRD writes the tap that TAP or b names. DRDF reads b as a Q16.16 tap, taken at most
N - 1: a whole tap is read alone, else taps i and i + 1 give x_i + round(f × (x_(i+1) - x_i)). -/
def Obligations.DelaySteps : Prop :=
  (∀ (x : Bench) (line t addr frame : Nat) (ecc : EccRead) (u : Nat), u = min t ((x.line line).length - 1) →
    (((x.line line).f < (if u = 0 ∧ (x.line line).fresh = false then (x.line line).length else u)) →
      x.tap line t ecc addr frame = (0, [.pred 7 true, .flag 0], none)) ∧
    (¬((x.line line).f < (if u = 0 ∧ (x.line line).fresh = false then (x.line line).length else u)) →
      (∀ v, v = (Sparse.read none x.delay ((x.line line).addr u)).getD 0 →
        (ecc = .clean → x.tap line t ecc addr frame = (v, [], none)) ∧
        (ecc = .corrected → x.tap line t ecc addr frame = (v, [.delayCorrected], none)) ∧
        (ecc = .uncorrectable → x.tap line t ecc addr frame =
          (0, [.pred 7 true, .delayFatal, .failure (0x1b300000#32 ||| BitVec.ofNat 32 addr) (BitVec.ofNat 32 frame)],
            some ((x.line line).addr u)))))) ∧
  (∀ (b : BenchId) (f : StepFields) (e g : EccRead) (s : State) (t tau : Nat), (s.seen b).performs f = true →
    t = (if f.ext.getLsbD 31 then ((s.seen b).reg f.rb).toNat else f.bits 0 16) →
    tau = min ((s.seen b).reg f.rb).toNat ((((s.seen b).line f.line).length - 1) * 65536) →
    ∀ (x y : Word × List PipeTarget × Option Nat),
    (s.issues b 0x1c f = true → x = (s.seen b).tap f.line t e (s.seen b).seq.address s.clock.frame →
      exec (.drd b f e) s = .next (s.took b (fun z => (z.rewriteDelay x.2.2).pushAll (s.bench b).seq.position (.reg f.rd x.1 :: x.2.1)))) ∧
    (s.issues b 0x1d f = true → x = (s.seen b).tap f.line (tau / 65536) e (s.seen b).seq.address s.clock.frame →
      (tau % 65536 = 0 → exec (.drdf b f e g) s = .next (s.took b (fun z =>
        (z.rewriteDelay x.2.2).pushAll (s.bench b).seq.position (.reg f.rd x.1 :: x.2.1)))) ∧
      (tau % 65536 ≠ 0 → y = (s.seen b).tap f.line (tau / 65536 + 1) g (s.seen b).seq.address s.clock.frame →
        exec (.drdf b f e g) s = .next (s.took b (fun z =>
          ((z.rewriteDelay x.2.2).rewriteDelay y.2.2).pushAll (s.bench b).seq.position
            (.reg f.rd (BitVec.ofInt 32 (x.1.toInt + roundEven ((tau % 65536 : Nat) * (y.1.toInt - x.1.toInt)) 16)) ::
              (x.2.1 ++ y.2.1)))))))

/-- CRD writes the coefficient at its index; LUT interpolates between two entries of table TBL, or gives the last; ENVF moves its
own destination towards |a| or a × a by the attack or the release coefficient, and F tells whether it attacks. LOG2 of x ≤ 0 writes
0x80000000 and F holds; of x = 2^-k it writes -k × 2^26. EXP2 of y ≥ 0 writes 0x7fffffff and F holds; of an integer y from -31 to -1
it writes 2^(31+y). RSQ of x ≤ 0 writes 0x7fffffff and F holds. F is written nowhere when it is 7. -/
def Obligations.TableAndFunctionSteps : Prop :=
  (∀ (b : BenchId) (f : StepFields) (s : State) (v : Nat) (E : Nat → Word) (u : Int), (s.seen b).performs f = true →
    v = (if f.ext.getLsbD 2 then (s.seen b).reg f.ra else (s.seen b).reg f.ra ^^^ 0x80000000#32).toNat →
    (∀ i, E i = (s.seen b).coef (3072 + 256 * f.bits 0 2 + i)) →
    u = (if f.ext.getLsbD 16 then min 2147483647 (roundEven (((s.seen b).reg f.ra).toInt * ((s.seen b).reg f.ra).toInt) 31)
      else min 2147483647 (((s.seen b).reg f.ra).toInt.natAbs : Int)) →
    (s.issues b 0x20 f = true → exec (.crd b f) s = .next (s.stepped b [.reg f.rd ((s.seen b).coef ((s.seen b).coefIndex f))])) ∧
    (s.issues b 0x21 f = true → v / 2 ^ 24 = 255 → exec (.lut b f) s = .next (s.stepped b [.reg f.rd (E 255)])) ∧
    (s.issues b 0x21 f = true → v / 2 ^ 24 ≠ 255 → exec (.lut b f) s = .next (s.stepped b [.reg f.rd (BitVec.ofInt 32
      ((E (v / 2 ^ 24)).toInt + roundEven ((v % 2 ^ 24 : Nat) * ((E (v / 2 ^ 24 + 1)).toInt - (E (v / 2 ^ 24)).toInt)) 24))])) ∧
    (s.issues b 0x25 f = true → ∀ a k, a = decide (((s.seen b).reg f.rd).toInt < u) →
      k = (s.seen b).coef (if a then (s.seen b).coefIndex f else (s.seen b).coefIndex f + 1) →
      exec (.envf b f) s = .next (s.stepped b
        (resultWrites f (((s.seen b).reg f.rd).toInt + roundEven (k.toInt * (u - ((s.seen b).reg f.rd).toInt)) 31) ++
          if f.bits 19 3 = 7 then [] else [.pred (f.bits 19 3) a])))) ∧
  (∀ (b : BenchId) (f : StepFields) (s : State) (a : Word) (F : Bool → List PipeTarget), (s.seen b).performs f = true →
    a = (s.seen b).reg f.ra → (∀ c, F c = if f.bits 19 3 = 7 then [] else [.pred (f.bits 19 3) c]) →
    (s.issues b 0x22 f = true →
      (a.toInt ≤ 0 → exec (.log2 b f) s = .next (s.stepped b (.reg f.rd 0x80000000#32 :: F true))) ∧
      (0 < a.toInt → ∃ v, exec (.log2 b f) s = .next (s.stepped b (.reg f.rd v :: F false))) ∧
      (∀ k : Fin 31, a.toInt = 2 ^ k.val →
        exec (.log2 b f) s = .next (s.stepped b (.reg f.rd (BitVec.ofInt 32 (((k.val : Int) - 31) * 2 ^ 26)) :: F false)))) ∧
    (s.issues b 0x23 f = true →
      (0 ≤ a.toInt → exec (.exp2 b f) s = .next (s.stepped b (.reg f.rd 0x7fffffff#32 :: F true))) ∧
      (a.toInt < 0 → ∃ v, exec (.exp2 b f) s = .next (s.stepped b (.reg f.rd v :: F false))) ∧
      (∀ k : Fin 31, a.toInt = ((k.val : Int) - 31) * 2 ^ 26 →
        exec (.exp2 b f) s = .next (s.stepped b (.reg f.rd (BitVec.ofInt 32 (2 ^ k.val)) :: F false)))) ∧
    (s.issues b 0x24 f = true →
      (a.toInt ≤ 0 → exec (.rsq b f) s = .next (s.stepped b (.reg f.rd 0x7fffffff#32 :: F true))) ∧
      (0 < a.toInt → ∃ v c, exec (.rsq b f) s = .next (s.stepped b (.reg f.rd v :: F c)) ∧
        (c = true ↔ (2 ^ 31 - 1) ^ 2 * (a.toNat * 2 ^ (2 * f.bits 0 5)) ≤ 2 ^ 93) ∧ (c = true → v = 0x7fffffff#32))))

/-- A register written by a step at position p is seen at position r exactly when p + 3 ≤ r: until then the register reads as before, and
from then on, with no later write to it, as written. -/
def Obligations.RegisterSeenFromThirdPosition : Prop :=
  ∀ (x : Bench) (p n r : Nat) (v : Word), (∀ w ∈ x.pipe, w.pos ≤ p) → n < 32 →
    (r < p + 3 → ((x.push p (.reg n v)).settle r).d = (x.settle r).d) ∧
    (p + 3 ≤ r → ((x.push p (.reg n v)).settle r).reg n = v ∧
      ∀ m, m ≠ n → ((x.push p (.reg n v)).settle r).reg m = (x.settle r).reg m)

/-! ### Traffic steps -/

/-- The state after bench `b` issued a reply step whose code or word is written back at position s + 13. -/
def Sys2Proof.Machine.State.replies (s : State) (b : BenchId) (f : StepFields) (v : Word) (flag : Bool) : State :=
  s.took b (fun y => y.pushAll ((s.bench b).seq.position + 13)
    (.reg f.rd v :: if f.bits 19 3 = 7 then [] else [.pred (f.bits 19 3) flag]))

/-- PIN, SIN, PLS, RIN, TOD and FCNT write what the period's view holds, and SIN, PLS, RIN, TOD and FCNT set P_F to their flag
condition; an absent stream cell reads 0. STAT writes the word of its selector: 0 to 23 the status block, 32 the plan index, the
priority and the bench state, 33 the remote writes outstanding, of which its own steps' are seen from the third position on, and the valid
bits of the read tags, 34 ring lock and folded, 35 the junction temperature (the latest 1 ms reading); it sets no flag and no counter. -/
def Obligations.ViewAndStatSteps : Prop :=
  (∀ (b : BenchId) (f : StepFields) (s : State) (v : InputView) (F : Bool → List PipeTarget), (s.seen b).performs f = true →
    v = (s.seen b).view → (∀ c, F c = if f.bits 19 3 = 7 then [] else [.pred (f.bits 19 3) c]) →
    (s.issues b 0x28 f = true → exec (.pin b f) s = .next (s.stepped b [.reg f.rd (vget v.audio (f.bits 0 6) 0)])) ∧
    (s.issues b 0x2a f = true → ∀ c, c = vget v.samples (f.bits 0 4) ⟨0, false⟩ →
      exec (.sin b f) s = .next (s.stepped b (.reg f.rd c.value :: F c.fresh))) ∧
    (s.issues b 0x2b f = true → ∀ c, c = vget v.pulses (f.bits 0 4) ⟨0, 0, 0xffffffff, false⟩ →
      exec (.pls b f) s = .next (s.stepped b
        (.reg f.rd (if f.bits 4 2 = 0 then c.interval else if f.bits 4 2 = 1 then c.count else c.age) :: F c.fresh))) ∧
    (s.issues b 0x2c f = true → ∀ c, c = vget v.cells (f.bits 0 7) ⟨0, true⟩ →
      exec (.rin b f) s = .next (s.stepped b (.reg f.rd (if c.absent = true then 0 else c.value) :: F c.absent))) ∧
    (s.issues b 0x3a f = true → ∃ w, exec (.tod b f) s = .next (s.stepped b (.reg f.rd w :: F v.todChanged)) ∧
      (f.bits 0 2 = 0 → w = v.todSeconds) ∧ (f.bits 0 2 = 2 → w = v.todEpoch) ∧ (f.bits 0 2 = 3 → w = v.ringEpoch) ∧
      (f.bits 0 2 = 1 → w = (v.todFrame.setWidth 32 <<< 16) ||| (if v.todMarked = true then 1 else 0))) ∧
    (s.issues b 0x3b f = true → ∃ w, exec (.fcnt b f) s = .next (s.stepped b (.reg f.rd w :: F v.ringLock)) ∧
      (f.bits 0 3 = 0 → w.toNat = v.frame % 2 ^ 32) ∧ (f.bits 0 3 = 1 → w.toNat = v.frame / 2 ^ 32 % 2 ^ 32) ∧
      (f.bits 0 3 = 2 → w.toNat = v.ringFrame % 2 ^ 32) ∧ (f.bits 0 3 = 3 → w.toNat = v.ringFrame / 2 ^ 32 % 2 ^ 32) ∧
      (3 < f.bits 0 3 → w = v.powerCycle))) ∧
  (∀ (b : BenchId) (f : StepFields) (s : State), (s.seen b).performs f = true → s.issues b 0x3c f = true →
    ∃ w, exec (.stat b f) s = .next (s.stepped b [.reg f.rd w]) ∧
      (f.bits 0 6 < 24 → w = (s.seen b).status.word (f.bits 0 6)) ∧
      (f.bits 0 6 = 32 → w = BitVec.ofNat 32
        (s.clock.plan.toNat / 8192 % 8 * 256 + (s.seen b).prioSeen.toNat * 16 + (s.seen b).state.code)) ∧
      (f.bits 0 6 = 33 → ∀ n, n = ((s.seen b).pipe.filter (fun z => decide (z.target = .remote))).length →
        w = BitVec.ofNat 32 (((s.seen b).remotes - n) * 2 ^ 16 + (s.seen b).tagSeen.toNat)) ∧
      (f.bits 0 6 = 34 → w.getLsbD 0 = s.ring.locked ∧ w.getLsbD 1 = s.ring.folded) ∧
      (f.bits 0 6 = 35 → -128 ≤ s.power.reading → s.power.reading ≤ 127 → w.toInt = s.power.reading))

/-- POUT, ROUT and RSLT stage a for their slot or cell, the latest value of a place standing; PLAN stages an index, of the step or of b;
EVT raises BENCH_EVT (event 31) for the bench's owner; PRIO sets the spare-slot priority. None writes a register. -/
def Obligations.StagingSteps : Prop :=
  ∀ (b : BenchId) (f : StepFields) (s : State), (s.seen b).performs f = true →
    (s.issues b 0x29 f = true → exec (.pout b f) s = .next (s.took b (fun y => { y with stage := { y.stage with
      outputs := (f.bits 0 6, y.reg f.ra) :: y.stage.outputs.filter (fun x => decide (x.1 ≠ f.bits 0 6)) } }))) ∧
    (s.issues b 0x2d f = true → exec (.rout b f) s = .next (s.took b (fun y => { y with stage := { y.stage with
      cells := (f.bits 0 7, y.reg f.ra) :: y.stage.cells.filter (fun x => decide (x.1 ≠ f.bits 0 7)) } }))) ∧
    (s.issues b 0x35 f = true → exec (.rslt b f) s = .next (s.took b (fun y => { y with stage := { y.stage with
      results := (f.bits 0 6, y.reg f.ra) :: y.stage.results.filter (fun x => decide (x.1 ≠ f.bits 0 6)) } }))) ∧
    (s.issues b 0x3d f = true → exec (.plan b f) s = .next (s.took b (fun y => { y with stage := { y.stage with
      plan := some (if f.ext.getLsbD 3 then (y.reg f.rb).setWidth 3 else f.ext.setWidth 3) } }))) ∧
    (s.issues b 0x36 f = true → exec (.evt b f) s = .next ((s.took b id).raiseOwner b 31)) ∧
    (s.issues b 0x31 f = true → exec (.prio b f) s = .next (s.took b (fun y =>
      ({ y with prio := f.ext.setWidth 3 }).push (s.bench b).seq.position (.prioSeen (f.ext.setWidth 3)))))

/-- PRD and PWR are checked at acceptance against the window and the bench's right: an accepted one is queued with the window's base
and length, its offset and, for PWR, the data; a refused PRD leaves its tag 0 and not valid and raises PIT_REFUSED (event 9), a
refused PWR raises LATE_WRITE_FAIL (event 12) and PIT_REFUSED. PGET writes a tag's data and its valid bit once its latest PRD is 64
positions back, and before that what the tag held before that PRD, with P_F cleared. -/
def Obligations.PitRequestAndCollectSteps : Prop :=
  (∀ (b : BenchId) (f : StepFields) (s : State) (o : Nat) (q : BenchRequest), (s.seen b).performs f = true →
    s.isWedged 1 = false →
    o = (if f.ext.getLsbD 25 then (((s.seen b).reg f.rb).toNat + f.bits 0 18) % 2 ^ 20 else f.bits 0 18) →
    (s.issues b 0x2e f = true → ∀ d, s.checkWindow b.val (f.bits 26 6) rightRead o 1 = (0, d) →
      q = { pos := (s.bench b).seq.position, addr := (s.bench b).seq.address, window := f.bits 26 6, base := d.base, length := d.length,
            offset := o, tag := f.bits 22 2, data := 0, stale := false, revoked := false } →
      exec (.prd b f) s = .next (s.took b (fun y =>
        { (y.markTag (f.bits 22 2) (s.bench b).seq.position) with reads := y.reads ++ [q] }))) ∧
    (s.issues b 0x2e f = true → (s.checkWindow b.val (f.bits 26 6) rightRead o 1).1 ≠ 0 →
      exec (.prd b f) s = .next ((s.took b (fun y =>
        (y.markTag (f.bits 22 2) (s.bench b).seq.position).refuseTag (f.bits 22 2) (s.bench b).seq.position)).raiseOwner b 9)) ∧
    (s.issues b 0x30 f = true → (s.seen b).writes.length < 8 → ∀ d, s.checkWindow b.val (f.bits 26 6) rightWrite o 1 = (0, d) →
      q = { pos := (s.bench b).seq.position, addr := (s.bench b).seq.address, window := f.bits 26 6, base := d.base, length := d.length,
            offset := o, tag := 0, data := (s.seen b).reg f.ra, stale := false, revoked := false } →
      exec (.pwr b f) s = .next (s.took b (fun y => { y with writes := y.writes ++ [q] }))) ∧
    (s.issues b 0x30 f = true → ∀ c, c = (s.checkWindow b.val (f.bits 26 6) rightWrite o 1).1 → c ≠ 0 →
      exec (.pwr b f) s = .next (((s.took b (fun y =>
        y.recordAt (s.bench b).seq.position c 1 (s.bench b).seq.address s.clock.frame)).raiseOwner b 12).raiseOwner b 9))) ∧
  (∀ (b : BenchId) (f : StepFields) (s : State) (g : ReadTag) (F : Bool → List PipeTarget), (s.seen b).performs f = true →
    s.issues b 0x2f f = true → g = vget (s.seen b).tags (f.bits 22 2) ⟨0, false, 0, none⟩ →
    (∀ c, F c = if f.bits 19 3 = 7 then [] else [.pred (f.bits 19 3) c]) →
    (g.last = none → exec (.pget b f) s = .next (s.stepped b (.reg f.rd g.data :: F g.valid))) ∧
    (∀ p, g.last = some p →
      (p + 64 ≤ (s.bench b).seq.position → exec (.pget b f) s = .next (s.stepped b (.reg f.rd g.data :: F g.valid))) ∧
      ((s.bench b).seq.position < p + 64 → exec (.pget b f) s = .next (s.stepped b (.reg f.rd g.old :: F false)))))

/-- A bench's mailbox steps: an accepted POST stores its notice, FULL and not yet VISIBLE; a refused one changes no channel and writes its
code, with P_F clear, and one refused for an absent bench raises MBX_ABSENT (event 8); WITHDRAW empties a FULL channel; QUERY reads the flags; TAKE takes a visible notice and otherwise writes 0; ACKN of
a visible notice of an EXPLICIT channel empties it and keeps the return code until the earlier writes are done. Replies are written back at
position s + 13. -/
def Obligations.MailboxSteps : Prop :=
  ∀ (b : BenchId) (f : StepFields) (s : State) (e : Nat), (s.seen b).performs f = true → e = f.bits 32 4 →
    (f.bits 36 2 = 0 → s.issues b 0x32 f = true → s.checkPost b.val e ((s.seen b).reg f.ra) = 0 →
      exec (.postStep b f) s = .next ((({ s with posted := s.posted + 1 } : State).replies b f 0 true).modChannel (channelId b.val e)
        (fun c => c.post ((s.seen b).reg f.ra) (s.bench b).seq.position (s.posted + 1)))) ∧
    (f.bits 36 2 = 0 → s.issues b 0x32 f = true → s.checkPost b.val e ((s.seen b).reg f.ra) = 9 →
      exec (.postStep b f) s = .next ((s.replies b f 9 false).raiseOwner b 8)) ∧
    (f.bits 36 2 = 0 → s.issues b 0x32 f = true → ∀ k, k = s.checkPost b.val e ((s.seen b).reg f.ra) → k ≠ 0 → k ≠ 9 →
      exec (.postStep b f) s = .next (s.replies b f (k.setWidth 32) false)) ∧
    (f.bits 36 2 = 1 → s.issues b 0x32 f = true → ∀ c, s.channel (channelId b.val e) = some c → c.residual = false →
      c.declared = true → c.full = true →
      exec (.withdrawStep b f) s = .next ((s.replies b f 0 true).modChannel (channelId b.val e) Channel.empty)) ∧
    (f.bits 36 2 = 2 → s.issues b 0x32 f = true →
      exec (.queryStep b f) s = .next (s.replies b f (s.queryWord b.val e).1 (s.queryWord b.val e).2)) ∧
    (s.issues b 0x33 f = true → ∀ c, s.channel (channelId e b.val) = some c → c.visible = true →
      exec (.takeStep b f) s = .next (((s.replies b f c.notice true).modChannel (channelId e b.val) Channel.take).pruneChannels)) ∧
    (s.issues b 0x33 f = true → (∀ c, s.channel (channelId e b.val) = some c → c.visible = false) →
      exec (.takeStep b f) s = .next (s.replies b f 0 false)) ∧
    (s.issues b 0x34 f = true → ∀ c, s.channel (channelId e b.val) = some c → c.residual = false → c.declared = true →
      c.explicit = true → c.visible = true →
      exec (.ackn b f) s = .next ((s.replies b f 0 true).modChannel (channelId e b.val) (fun c =>
        { c with full := false, visible := false, taken := false, timer := 0,
                 ack := some (((s.seen b).reg f.ra).setWidth 16, (s.bench b).seq.position) })))

/-- A remote write is queued for the ring behind the bench's earlier ones while fewer than 16 are outstanding and the part holds
ring lock on a ring island that is not wedged; otherwise RWR writes BUSY (3) with P_F clear. WIT asks for a witness entry of D[a] to
D[a + 6] with kind 0x80 + its index: accepted, it raises WITNESS (event 26) and writes the entry's sequence shifted left by 8; beyond the
tenant's 8 of the budget second it is counted, raises LOG_BUDGET (event 28) and writes that code, and with the queue full or the
weighbridge wedged it writes BUSY;
COMMIT makes a commit pending on every bench of its mask, to flip at strobe n + 2, or on a refusal raises COMMIT_REFUSED (event 6)
and writes the code. -/
def Obligations.RemoteWitnessCommitSteps : Prop :=
  (∀ (b : BenchId) (f : StepFields) (s : State), (s.seen b).performs f = true → s.issues b 0x39 f = true →
    (((s.seen b).remotes < 16 ∧ s.ring.locked = true ∧ s.isWedged 2 = false) →
      ∃ t, exec (.rwr b f) s = .next t ∧
        t.ring = { s.ring with rwrQ := vmod s.ring.rwrQ b.val (fun l => l ++
          [{ rid := f.bits 32 6, window := f.bits 26 6, offset := (s.seen b).offset f, data := (s.seen b).reg f.ra,
             tag := (s.seen b).generation ++ (s.seen b).remoteSeq, addr := (s.bench b).seq.address }]) } ∧
        t = { s with ring := t.ring, benches := t.benches } ∧ (∀ c, c ≠ b → t.bench c = s.bench c) ∧
        (t.bench b).remotes = (s.seen b).remotes + 1 ∧ (t.bench b).remoteSeq = (s.seen b).remoteSeq + 1 ∧
        (t.bench b).d = (s.seen b).d ∧
        (⟨(s.bench b).seq.position + 13, .reg f.rd 0⟩ : PipeWrite) ∈ (t.bench b).pipe) ∧
    (¬((s.seen b).remotes < 16 ∧ s.ring.locked = true ∧ s.isWedged 2 = false) →
      exec (.rwr b f) s = .next (s.replies b f 3 false))) ∧
  (∀ (b : BenchId) (t : TenantId) (f : StepFields) (s : State), (s.seen b).performs f = true → s.owner b = some t →
    (∀ p : List Byte, p = (List.range 7).flatMap (fun i => beBytes 4 ((s.seen b).reg (f.ra + i)).toNat) →
      s.issues b 0x37 f = true → ∀ a, a = s.appendEntry t true (s.source 1 b.val) (BitVec.ofNat 8 (0x80 + f.bits 0 6)) p →
      a.1 = 0 →
      exec (.wit b f) s = .next (((s.replies b f (a.2.1.seq <<< 8) true).appendEntry t true (s.source 1 b.val)
        (BitVec.ofNat 8 (0x80 + f.bits 0 6)) p).2.2.raise t 26)) ∧
    (s.issues b 0x37 f = true → s.logLive = true → 8 ≤ vget s.wb.used t.val 0 → exec (.wit b f) s = .next ((({ s with
      wb := { s.wb with witnessRefused := vmod s.wb.witnessRefused t.val (fun c => if c = 0xffff then 0xffff else c + 1) } } : State).replies
        b f 0x1c false).raise t 28)) ∧
    (s.issues b 0x37 f = true → (s.logLive = false ∨ vget s.wb.used t.val 0 < 8 ∧ 32 ≤ s.wb.witnessQ.length) →
      exec (.wit b f) s = .next (s.replies b f 3 false)) ∧
    (s.issues b 0x38 f = true → s.checkCommit t (f.ext.setWidth 8) none = 0 →
      ∃ u, exec (.commitStep b f) s = .next u ∧ u = { s with benches := u.benches } ∧
        ∀ c : BenchId, (u.bench c).coefs = if (f.ext.setWidth 8 : Byte).getLsbD c.val = true then
          { (s.bench c).coefs with commit := some ⟨s.clock.frame, false⟩ } else (s.bench c).coefs) ∧
    (s.issues b 0x38 f = true → ∀ k, k = s.checkCommit t (f.ext.setWidth 8) none → k ≠ 0 →
      exec (.commitStep b f) s = .next ((s.replies b f (k.setWidth 32) false).raise t 6)))


/-! ### Tenant ports -/

/-- Whether a whole frame passes every check before its op's own: the port listens, length and host CRC are right, and steps 2 to 4 of the
order of checks refuse nothing. -/
def Sys2Proof.Machine.State.takes (s : State) (x : TenantId) (f : HostFrame) (o : OpSpec) (hasReply : Bool) : Prop :=
  s.portIgnores x = false ∧ f.payload.length = f.count ∧ f.intact o.op = true ∧ s.frameCheck x f o hasReply false = 0

/-- The state after an op that was accepted and is final: OK and the frame's sequence in S, the accepted counter one up, the reply sent.
`t` has the op's effect. -/
def Sys2Proof.Machine.State.answers (s t : State) (x : TenantId) (f : HostFrame) (reply : List Word) : State :=
  t.modPort x (fun p => { p with
    accepted := p.accepted + 1, result := 0, seq := f.seq, overtaken := p.inFlight.isSome, reply := s.replyStream x f reply })

/-- The state after an op judged at the CSN rise whose outcome is not final yet. -/
def Sys2Proof.Machine.State.answersLater (s t : State) (x : TenantId) (f : HostFrame) (reply : List Word) : State :=
  t.modPort x (fun p => { p with accepted := p.accepted + 1, inFlight := some (.judged 0, f.seq), overtaken := false, reply := s.replyStream x f reply })

/-- The state after a frame that is on its way to its unit. -/
def Sys2Proof.Machine.State.forwards (s : State) (x : TenantId) (f : HostFrame) (g : InFlight) : State :=
  s.modPort x (fun p => { p with inFlight := some (g, f.seq), overtaken := false, reply := s.replyStream x f [] })

/-- The state after a refused frame: its code and its sequence in S, and no effect; one that is final while another frame is in flight
overtakes that. -/
def Sys2Proof.Machine.State.refuses (s : State) (x : TenantId) (f : HostFrame) (code : Byte) : State :=
  s.modPort x (fun p => { p with result := code, seq := f.seq, overtaken := p.inFlight.isSome, reply := s.replyStream x f [] })

/-- The port, the frame and the op nibble of a host frame. -/
def Sys2Proof.Instr.hostFrame (c : Instr) : Option (TenantId × HostFrame × Nat) :=
  match c with
  | .status x f => some (x, f, 0x0)
  | .load x f => some (x, f, 0x1)
  | .read x f => some (x, f, 0x2)
  | .fetch x f => some (x, f, 0x3)
  | .write x f => some (x, f, 0x4)
  | .post x f => some (x, f, 0x5)
  | .withdraw x f => some (x, f, 0x5)
  | .poll x f => some (x, f, 0x6)
  | .take x f _ => some (x, f, 0x7)
  | .ack x f => some (x, f, 0x8)
  | .commitStage x f => some (x, f, 0x9)
  | .commitGroup x f => some (x, f, 0x9)
  | .result x f _ => some (x, f, 0xa)
  | .events x f => some (x, f, 0xb)
  | .logHead x f => some (x, f, 0xc)
  | .logEntries x f => some (x, f, 0xc)
  | .logExport x f => some (x, f, 0xc)
  | .logAppend x f => some (x, f, 0xc)
  | .logCollect x f => some (x, f, 0xc)
  | .attestRequest x f => some (x, f, 0xd)
  | .attestCollect x f => some (x, f, 0xd)
  | .timeRead x f => some (x, f, 0xe)
  | .timeMark x f => some (x, f, 0xe)
  | .go x f => some (x, f, 0xf)
  | .provisionIdentify x f => some (x, f, 0xf)
  | .provisionSlot x f => some (x, f, 0xf)
  | .provisionFloor x f => some (x, f, 0xf)
  | .lock x f => some (x, f, 0xf)
  | .selftest x f => some (x, f, 0xf)
  | _ => none

/-- A port ignores a frame in POR and STRAP, while its TRST_N_x is low, and while it is wedged. A frame whose length or host CRC is wrong is
refused with CRC_BAD and counted, and changes nothing else but the reply; one of fewer than 64 edges changes only what it shifts out.
Outside STATUS, an intact frame in TRUST, CLOCK, HELD_TRUST or HELD_THERMAL, while an outcome is not final, or from the start of a
tenant reset to its release, leaves BUSY, with no other effect. -/
def Obligations.FramesNotTaken : Prop :=
  ∀ (c : Instr) (x : TenantId) (f : HostFrame) (op : Nat) (s : State), c.hostFrame = some (x, f, op) → c.wf = true →
    ((s.power.state = .por ∨ s.power.state = .strap ∨ (s.tenant x).trstLow = true ∨ s.isWedged (3 + x.val) = true) →
      exec c s = .next s) ∧
    (s.portIgnores x = false → f.edges < 64 →
      exec c s = .next (s.modPort x (fun p => { p with reply := s.replyStream x f [] }))) ∧
    (s.portIgnores x = false → 64 ≤ f.edges → f.intact op = false →
      ∃ reply, exec c s = .next (s.modPort x (fun p => { p with
        result := 0x01, seq := f.seq, overtaken := p.inFlight.isSome, crcBad := if p.crcBad = 0xffff then 0xffff else p.crcBad + 1
        reply := s.replyStream x f reply }))) ∧
    (s.portIgnores x = false → f.intact op = true → op ≠ 0 →
      (s.power.state = .trust ∨ s.power.state = .clock ∨ s.power.state = .heldTrust ∨ s.power.state = .heldThermal ∨
        (s.tenant x).port.inFlight.isSome = true ∨ (s.tenant x).underReset = true) →
      exec c s = .next (s.refuses x f 0x03))

/-- STATUS, POLL, EVENTS, TIME READ and RESULT answer their words: the eight of the status block field by field, and of POLL the flags
and codes of the declared channels of owned benches. EVENTS clears the events of the clear mask that were set, and RESULT with CONSUME
clears FRESH of the slots it read that have not been published since their words went out, those that a short count cuts off too
(DEDUCED, log 51); the others change no more than their port's counters and reply. -/
def Obligations.PortReads : Prop :=
  ∀ (x : TenantId) (f : HostFrame) (s : State),
    (s.takes x f ⟨0x0, 0, Serves.status⟩ true → ∃ ws, exec (.status x f) s = .next (s.answers s x f ws) ∧ ws.length = 8 ∧
      (∀ w, w = ws.getD 0 0 → w.toNat / 2 ^ 28 = s.power.state.code ∧ w.toNat / 2 ^ 26 % 4 = x.val ∧
        w.getLsbD 25 = !s.present x ∧ w.getLsbD 24 = s.straps.devel ∧ (∀ b : BenchId, w.getLsbD (16 + b.val) = s.owns x b) ∧
        w.toNat / 2 ^ 11 % 32 = 0 ∧ w.toNat / 2 ^ 8 % 8 = s.clock.plan.toNat / 2 ^ 13 % 8 ∧ w.toNat / 2 % 128 = 0 ∧
        w.getLsbD 0 = (s.tenant x).image.isSome) ∧
      (∀ b : BenchId, (ws.getD 1 0).toNat / 16 ^ b.val % 16 = if s.owns x b = true then (s.bench b).state.code else 15) ∧
      (∀ n, n = (if s.clock.strobed then s.clock.frame else 0) →
        (ws.getD 2 0).toNat = n / 2 ^ 32 % 2 ^ 32 ∧ (ws.getD 3 0).toNat = n % 2 ^ 32) ∧
      ((s.tenant x).port.credits ≤ 8 → ∀ w, w = ws.getD 4 0 →
        w.toNat / 2 ^ 20 = (if s.present x = true then (s.tenant x).port.credits else 0) ∧ w.toNat / 2 ^ 16 % 16 = 0 ∧
        ∀ i : Fin 8, w.toNat / 4 ^ i.val % 4 = ((s.tenant x).port.tags[i]).state.code) ∧
      ws.getD 5 0 = (s.tenant x).port.lateCode ++ (s.tenant x).port.lateCount ++ (s.tenant x).port.lateSeq ∧
      (∀ w, w = ws.getD 6 0 → w.getLsbD 31 = decide (s.staging.holder = some x) ∧
        w.getLsbD 30 = (s.staging.holder.isSome && decide (s.staging.holder ≠ some x)) ∧ w.toNat / 2 ^ 24 % 64 = 0 ∧
        w.toNat / 2 ^ 16 % 256 = (s.tenant x).verifyCode.toNat ∧ w.toNat / 2 ^ 13 % 8 = 0 ∧
        w.toNat % 2 ^ 13 = if s.staging.holder = some x then s.staging.nextSeq.toNat else 0) ∧
      ws.getD 7 0 = (s.tenant x).port.crcBad ++ (s.tenant x).port.accepted) ∧
    (s.takes x f ⟨0x6, 0, Serves.tenant⟩ true → ∃ ws, exec (.poll x f) s = .next (s.answers s x f ws) ∧ ws.length = 6 ∧
      (∀ (b : BenchId) (c : Channel), s.owns x b = true → s.channel (channelId (8 + x.val) b.val) = some c → c.declared = true →
        (ws.getD 0 0).getLsbD (24 + b.val) = s.benchAbsent b ∧ (ws.getD 0 0).getLsbD (16 + b.val) = c.timedOut ∧
        (ws.getD 0 0).getLsbD (8 + b.val) = c.done ∧ (ws.getD 0 0).getLsbD b.val = c.full ∧
        (ws.getD (2 + b.val / 2) 0).toNat / 2 ^ (16 * (b.val % 2)) % 2 ^ 16 = c.code.toNat) ∧
      (∀ b : BenchId, (s.owns x b = false ∨ ∀ c, s.channel (channelId (8 + x.val) b.val) = some c → c.declared = false) →
        (∀ k : Fin 4, (ws.getD 0 0).getLsbD (8 * k.val + b.val) = false) ∧
        (ws.getD (2 + b.val / 2) 0).toNat / 2 ^ (16 * (b.val % 2)) % 2 ^ 16 = 0) ∧
      (ws.getD 1 0).toNat < 256 ∧
      (∀ b : BenchId, (ws.getD 1 0).getLsbD b.val =
        (s.owns x b && (s.channel (channelId b.val (8 + x.val))).any (fun c => c.full)))) ∧
    (s.takes x f ⟨0xb, 1, Serves.open_⟩ true → ∀ e, e = s.eventWord x →
      exec (.events x f) s = .next (s.answers
        (s.modTenant x (fun t => { t with events := t.events &&& ~~~(e &&& f.word 0) })) x f [e, if s.absent x then 0 else s.eventMask x])) ∧
    (s.takes x f ⟨0xe, 0, Serves.open_⟩ true → f.sub 4 = 0 →
      exec (.timeRead x f) s = .next (s.answers s x f (counterWords s.localFrame ++ counterWords s.ringFrame ++
        [s.ring.todSeconds, s.todWord, s.ring.todEpoch, s.ring.epoch, s.wb.nv.powerCycle]))) ∧
    (s.takes x f ⟨0xa, 0, Serves.tenant⟩ true → ∀ b first n, b = benchOf (f.bits 24 3) → first = f.bits 8 6 → n = f.bits 0 4 + 1 →
      ∀ seen : List (Option SlotSeen),
      (s.owns x b = false → exec (.result x f seen) s = .next (s.refuses x f 0x08)) ∧
      (s.owns x b = true → 64 < first + n → exec (.result x f seen) s = .next (s.refuses x f 0x06)) ∧
      (s.owns x b = true → first + n ≤ 64 → ∀ (carried : Nat → ResultSlot) (ws : List Word),
        (∀ i, carried i = match seen.getD (i - first) none with
          | some q => { value := q.value, seq := q.seq, fresh := q.fresh }
          | none => if s.declaresSlot b i = true then vget (s.bench b).results i ⟨0, 0, false⟩ else ⟨0, 0, false⟩) →
        ws = (List.range n).flatMap (fun k => [(carried (first + k)).value, (carried (first + k)).seq ++
          ((if (carried (first + k)).seq = 0 ∨ (s.bench b).active = false then 2#16 else 0#16) +
            (if (carried (first + k)).fresh = true then 1#16 else 0#16))]) →
        (f.h1.getLsbD 31 = false → exec (.result x f seen) s = .next (s.answers s x f ws)) ∧
        (f.h1.getLsbD 31 = true → ∃ t, exec (.result x f seen) s = .next (s.answers t x f ws) ∧
          t = { s with benches := t.benches } ∧ (∀ c, c ≠ b → t.bench c = s.bench c) ∧
          t.bench b = { s.bench b with results := (t.bench b).results } ∧
          ∀ i : Fin 64, (t.bench b).results[i] =
            if first ≤ i.val ∧ i.val < first + n ∧ (carried i.val).seq = ((s.bench b).results[i]).seq then
              { (s.bench b).results[i] with fresh := false }
            else (s.bench b).results[i])))

/-- An accepted READ makes its tag PENDING and queues its words; an accepted WRITE or LOAD takes a credit and queues its frame, and is
refused with NO_CREDIT when none is free; LOAD keeps the staging area's chunk order: FIRST starts it, the next sequence extends it. -/
def Obligations.PortMemoryOps : Prop :=
  ∀ (x : TenantId) (f : HostFrame) (s : State),
    (∀ d n, n = f.bits 0 5 + 1 → s.takes x f ⟨0x2, 0, Serves.tenant⟩ false → laneValid f.mask = true →
      (s.hostTag x f).state = .free ∨ (s.hostTag x f).state = .fetched →
      s.checkWindow (8 + x.val) (f.bits 26 6) rightRead (f.bits 8 18) n = (0, d) → s.isWedged 1 = false →
      exec (.read x f) s = .next (s.answersLater (s.modPort x (fun p => { p with
        tags := vmod p.tags f.tag.toNat (fun _ => { state := .pending, op := .read, data := [], code := 0, marks := (⟨0, 0⟩, ⟨0, 0⟩) })
        jobs := p.jobs ++ [{
          id := p.nextJob, kind := .read f.tag.toNat, window := d.id, base := d.base, length := d.length,
          offset := f.bits 8 18, mask := f.mask, left := List.replicate n 0, got := [], merge := none, code := 0, seq := f.seq,
          stale := false, credit := false }]
        nextJob := p.nextJob + 1 })) x f [])) ∧
    (∀ d, s.takes x f ⟨0x4, 1, Serves.tenant⟩ false → laneValid f.mask = true → (s.tenant x).port.credits ≠ 0 →
      s.checkWindow (8 + x.val) (f.bits 26 6) rightWrite (f.bits 8 18) f.payload.length = (0, d) → s.isWedged 1 = false →
      exec (.write x f) s = .next (s.answers (s.modPort x (fun p => { p with
        credits := p.credits - 1
        jobs := p.jobs ++ [{
          id := p.nextJob, kind := .write, window := d.id, base := d.base, length := d.length,
          offset := f.bits 8 18, mask := f.mask, left := f.payload, got := [], merge := none, code := 0, seq := f.seq,
          stale := false, credit := true }]
        nextJob := p.nextJob + 1 })) x f [])) ∧
    (s.takes x f ⟨0x4, 1, Serves.tenant⟩ false → laneValid f.mask = true → (s.tenant x).port.credits = 0 →
      exec (.write x f) s = .next (s.refuses x f 0x04)) ∧
    (s.takes x f ⟨0x1, 1, Serves.tenant⟩ false → (s.tenant x).port.credits = 0 →
      exec (.load x f) s = .next (s.refuses x f 0x04)) ∧
    (∀ h : Staging, s.takes x f ⟨0x1, 1, Serves.tenant⟩ false → (s.tenant x).port.credits ≠ 0 → s.isWedged 1 = false →
      (f.h1.getLsbD 31 = true ∧ f.bits 0 13 = 0 ∧
          (s.staging.holder = none ∨ s.staging.holder = some x ∧ (s.staging.phase = .idle ∨ s.staging.phase = .loading)) ∧
          h = { s.staging.restart with
                holder := some x, nextSeq := 1, length := f.count, lastLoad := s.clock.frame,
                phase := if f.h1.getLsbD 30 then .complete else .loading } ∨
        f.h1.getLsbD 31 = false ∧ s.staging.holder = some x ∧ (s.staging.phase = .idle ∨ s.staging.phase = .loading) ∧
          f.bits 0 13 = s.staging.nextSeq.toNat ∧ s.staging.length ≠ 0 ∧ s.staging.length + f.count ≤ 262144 ∧
          h = { s.staging with
                holder := some x, nextSeq := s.staging.nextSeq + 1, length := s.staging.length + f.count,
                lastLoad := s.clock.frame, phase := if f.h1.getLsbD 30 then .complete else .loading }) →
      exec (.load x f) s = .next (s.answers (({ s with staging := h } : State).modPort x (fun p => { p with
        credits := p.credits - 1
        jobs := p.jobs ++ [{
          id := p.nextJob, kind := .load h.generation, window := 0, base := stagingBase, length := 0,
          offset := h.length - f.count, mask := 0xf, left := f.payload, got := [], merge := none, code := 0, seq := f.seq,
          stale := false, credit := true }]
        nextJob := p.nextJob + 1 })) x f []))

/-- FETCH, LOG COLLECT and ATTEST COLLECT: a free tag, or a tag of another op, is refused with TAG_UNKNOWN, a pending one with TAG_BUSY; a ready
or fetched tag answers its data from the offset with its completion code, or OK (REPEAT when fetched before), and is FETCHED once the
range takes in its last word; a tag without a data word is FETCHED by any collect (DEDUCED, log 50). -/
def Obligations.PortCollects : Prop :=
  ∀ (x : TenantId) (f : HostFrame) (s : State) (c : Instr) (only : TagOp → Bool) (g : HostTag),
    (c = .fetch x f ∧ s.takes x f ⟨0x3, 0, Serves.open_⟩ true ∧ only = (fun _ => true) ∨
      c = .logCollect x f ∧ f.sub 4 = 4 ∧ s.takes x f ⟨0xc, 0, Serves.evidence⟩ true ∧
        only = (fun o => decide (o = .log ∨ o = .exportLog)) ∨
      c = .attestCollect x f ∧ f.sub 4 = 4 ∧ s.takes x f ⟨0xd, 0, Serves.evidence⟩ true ∧ only = (fun o => decide (o = .attest))) →
    g = s.hostTag x f →
    (g.state = .free ∨ only g.op = false → exec c s = .next (s.refuses x f 0x0d)) ∧
    (g.state = .pending → only g.op = true → exec c s = .next (s.refuses x f 0x0e)) ∧
    (g.state = .ready ∨ g.state = .fetched → only g.op = true → ∀ off, off = f.bits 0 12 →
      ∃ t : State, exec c s = .next (t.modPort x (fun p => { p with
          accepted := p.accepted + 1, seq := f.seq, overtaken := p.inFlight.isSome, reply := s.replyStream x f (g.data.drop off)
          result := if g.code ≠ 0 then g.code else if g.state = .fetched then 0x1d else 0 })) ∧
        (off + f.count < g.data.length ∨ g.data.length ≤ off ∧ g.data ≠ [] → t = s) ∧
        (g.data.length ≤ off + f.count → off < g.data.length ∨ g.data = [] →
          t = (if g.state = .ready then (s.modPort x (fun p => { p with
              tags := vmod p.tags f.tag.toNat (fun y => { y with state := .fetched }) })).raiseMarks g.marks
            else s.modPort x (fun p => { p with tags := vmod p.tags f.tag.toNat (fun y => { y with state := .fetched }) }))))

/-- POST, WITHDRAW, COMMIT STAGE and COMMIT GROUP for benches of the tenant go to their unit. TAKE answers a visible notice and takes it; ACK
of a visible notice of an EXPLICIT channel empties the channel and keeps the return code; GO sets the release frame of ARMED benches that wait for
GO, once, and is refused for an absent bench; TIME MARK stores a mark for a ring frame 4 or more ahead. TAKE takes the posting that its reply
carried, while that still shows, and has no effect where the reply was empty or the posting has ended. Each of them that names a bench
which the tenant does not own is refused with NOT_OWNER, without effect. -/
def Obligations.PortRequestsOfUnits : Prop :=
  ∀ (x : TenantId) (f : HostFrame) (s : State) (b : BenchId), b = benchOf (f.bits 0 3) →
    (s.takes x f ⟨0x5, 1, Serves.tenant⟩ false → f.sub 2 = 0 → exec (.post x f) s =
      .next (if s.owns x b = true then s.forwards x f (.post b (f.word 0)) else s.refuses x f 0x08)) ∧
    (s.takes x f ⟨0x5, 0, Serves.tenant⟩ false → f.sub 2 = 1 → exec (.withdraw x f) s =
      .next (if s.owns x b = true then s.forwards x f (.withdraw b) else s.refuses x f 0x08)) ∧
    (s.takes x f ⟨0x9, 1, Serves.tenant⟩ false → f.sub 2 = 0 → ∀ d, d = benchOf (f.bits 27 3) → exec (.commitStage x f) s =
      .next (if s.owns x d = true then s.forwards x f (.stage d (f.bits 0 12) f.payload) else s.refuses x f 0x08)) ∧
    (∀ m : Byte, m = f.h1.extractLsb' 16 8 → m ≠ 0 → s.takes x f ⟨0x9, (maskBenches m).length, Serves.tenant⟩ false → f.sub 2 = 1 →
      exec (.commitGroup x f) s = .next (if (∀ d : BenchId, m.getLsbD d.val = true → s.owns x d = true)
        then s.forwards x f (.group m f.payload) else s.refuses x f 0x08)) ∧
    (s.takes x f ⟨0x7, 0, Serves.tenant⟩ true → ∀ seen : Option NoticeSeen,
      (s.owns x b = false → exec (.take x f seen) s = .next (s.refuses x f 0x08)) ∧
      (s.owns x b = true → seen = none → exec (.take x f seen) s = .next (s.refuses x f
        (if s.channel (channelId b.val (8 + x.val)) = none then 0x0c else 0x0b))) ∧
      (∀ n, s.owns x b = true → seen = some n →
        (∀ c, s.channel (channelId b.val (8 + x.val)) = some c → c.visible = true → c.posting = n.posting →
          exec (.take x f seen) s = .next (s.answersLater
            ((s.modChannel (channelId b.val (8 + x.val)) Channel.take).pruneChannels) x f
            [c.notice, if c.explicit = true ∧ c.residual = false then 0x80000000#32 else 0])) ∧
        ((∀ c, s.channel (channelId b.val (8 + x.val)) = some c → c.visible = false ∨ c.posting ≠ n.posting) →
          ∃ ws, exec (.take x f seen) s = .next (s.modPort x (fun p => { p with
            result := 0x0b, seq := f.seq, overtaken := p.inFlight.isSome, reply := s.replyStream x f (n.notice :: ws) }))))) ∧
    (s.takes x f ⟨0x8, 1, Serves.tenant⟩ false → s.owns x b = false → exec (.ack x f) s = .next (s.refuses x f 0x08)) ∧
    (s.takes x f ⟨0x8, 1, Serves.tenant⟩ false → s.owns x b = true → ∀ c, s.channel (channelId b.val (8 + x.val)) = some c →
      c.residual = false → c.declared = true → c.explicit = true →
      (c.visible = true → exec (.ack x f) s = .next (s.answersLater (s.modChannel (channelId b.val (8 + x.val)) (fun c =>
        { c with full := false, visible := false, taken := false, timer := 0,
                 ack := some ((f.word 0).setWidth 16, (s.tenant x).port.nextJob) })) x f [])) ∧
      (c.visible = false → exec (.ack x f) s = .next (s.refuses x f 0x0b))) ∧
    (∀ m : Byte, m = f.h1.extractLsb' 0 8 → m ≠ 0 → s.takes x f ⟨0xf, 0, Serves.tenant⟩ false → f.sub 4 = 0 →
      ((∃ d : BenchId, m.getLsbD d.val = true ∧ s.owns x d = false) → exec (.go x f) s = .next (s.refuses x f 0x08)) ∧
      ((∀ d : BenchId, m.getLsbD d.val = true → s.owns x d = true) →
        (∃ d : BenchId, m.getLsbD d.val = true ∧ s.benchAbsent d = true) → exec (.go x f) s = .next (s.refuses x f 0x09))) ∧
    (∀ m : Byte, m = f.h1.extractLsb' 0 8 → m ≠ 0 → s.takes x f ⟨0xf, 0, Serves.tenant⟩ false → f.sub 4 = 0 →
      (∀ d : BenchId, m.getLsbD d.val = true → s.owns x d = true ∧ s.benchAbsent d = false) →
      ∃ t, exec (.go x f) s = .next (s.answersLater t x f []) ∧ t = { s with benches := t.benches } ∧
        ∀ d : BenchId, t.bench d =
          if m.getLsbD d.val = true ∧ (s.bench d).state = .armed ∧ (s.bench d).met = none ∧
              (s.bench d).goDue = none ∧ (s.benchImage d).any (fun i => i.releases.any (fun r => decide (r.bench = d) && decide (r.cond = .onGo))) = true
          then { s.bench d with goDue := some (s.clock.frame + 2) } else s.bench d) ∧
    (s.takes x f ⟨0xe, 4, Serves.tenant⟩ false → f.sub 4 = 1 → ((f.word 3).extractLsb' 16 16).toNat < s.ff →
      ∀ m, m = (f.word 0).toNat * 2 ^ 32 + (f.word 1).toNat →
      (x ≠ 0 ∨ s.isMaster = false ∧ s.isStandalone = false → exec (.timeMark x f) s = .next (s.refuses x f 0x17)) ∧
      (x = 0 → (s.isMaster = true ∨ s.isStandalone = true) → m < s.align + 4 → exec (.timeMark x f) s = .next (s.refuses x f 0x18)) ∧
      (x = 0 → (s.isMaster = true ∨ s.isStandalone = true) → s.align + 4 ≤ m → exec (.timeMark x f) s = .next (s.answersLater
        { s with ring := { s.ring with mark := some { m := m, seconds := f.word 2, frame := (f.word 3).extractLsb' 16 16 } } } x f [])))

/-- The tagged requests of the weighbridge (LOG HEAD, ENTRIES and EXPORT, ATTEST, PROVISION, SELFTEST) make their tag PENDING and queue one
request; an outstanding tag is refused with TAG_BUSY; PROVISION and LOCK need provisioning open. With the weighbridge wedged the tag is READY at once, with zeros and
the code BUSY. LOCK programs the lock bits and its entry, and with the weighbridge wedged nothing (DEDUCED, log 69); LOG APPEND asks for
an entry of its kind, 0x40 to 0x7F, is refused with LOG_BUDGET, and counted, beyond the tenant's 8 of the budget second, and with BUSY where
the queue is full or the weighbridge wedged. -/
def Obligations.PortRequestsOfWeighbridge : Prop :=
  ∀ (x : TenantId) (f : HostFrame) (s : State),
    (∀ (c : Instr) (o : OpSpec) (op : TagOp) (q : WbRequest),
      (c = .logHead x f ∧ f.sub 4 = 0 ∧ o = ⟨0xc, 0, Serves.evidence⟩ ∧ op = .log ∧ q = .head ∨
        c = .logEntries x f ∧ f.sub 4 = 1 ∧ o = ⟨0xc, 2, Serves.evidence⟩ ∧ op = .log ∧
          q = .entries (pairOf (f.word 0) (f.word 1)) (f.bits 0 4 + 1) ∨
        c = .logExport x f ∧ f.sub 4 = 2 ∧ o = ⟨0xc, 10, Serves.evidence⟩ ∧ op = .exportLog ∧
          q = .exportLog (pairOf (f.word 0) (f.word 9)) (f.bits 0 4 + 1) ((f.payload.drop 1).take 8) ∨
        c = .attestRequest x f ∧ f.sub 4 = 0 ∧ o = ⟨0xd, 8, Serves.evidence⟩ ∧ op = .attest ∧ q = .attest (f.payload.take 8) ∨
        c = .selftest x f ∧ f.sub 4 = 3 ∧ o = ⟨0xf, 0, Serves.open_⟩ ∧ op = .selftest ∧ q = .selftest ∨
        c = .provisionIdentify x f ∧ f.sub 8 = 16 ∧ o = ⟨0xf, 0, Serves.tenant⟩ ∧ op = .provision ∧ q = .identify ∨
        c = .provisionSlot x f ∧ f.sub 8 = 17 ∧ o = ⟨0xf, 9, Serves.tenant⟩ ∧ op = .provision ∧
          q = .slot ((f.word 0).toNat % 4) ((f.payload.drop 1).take 8) ∨
        c = .provisionFloor x f ∧ f.sub 8 = 18 ∧ o = ⟨0xf, 2, Serves.tenant⟩ ∧ op = .provision ∧
          q = .floor (tenantOf (f.word 0).toNat) (f.word 1)) → s.takes x f o false →
      ((s.hostTag x f).state = .pending ∨ (s.hostTag x f).state = .ready → exec c s = .next (s.refuses x f 0x0e)) ∧
      ((s.hostTag x f).state = .free ∨ (s.hostTag x f).state = .fetched →
        (op = .provision → s.provisioningOpen = false → exec c s = .next (s.refuses x f 0x19)) ∧
        (op ≠ .provision ∨ s.provisioningOpen = true → s.isWedged 9 = false →
          exec c s = .next (s.answersLater { (s.modPort x (fun p => { p with
              tags := vmod p.tags f.tag.toNat (fun _ => { state := .pending, op := op, data := [], code := 0, marks := (⟨0, 0⟩, ⟨0, 0⟩) }) })) with
            wb := { s.wb with requests := vmod s.wb.requests x.val (fun l => l ++ [(f.tag.toNat, q)]) } } x f [])) ∧
        (op ≠ .provision ∨ s.provisioningOpen = true → s.isWedged 9 = true →
          exec c s = .next (s.answersLater (s.modPort x (fun p => { p with tags := vmod p.tags f.tag.toNat (fun _ =>
            { state := .ready, op := op, data := [], code := 3, marks := (⟨0, 0⟩, ⟨0, 0⟩) }) })) x f [])))) ∧
    (s.takes x f ⟨0xf, 1, Serves.tenant⟩ false → f.sub 4 = 2 → f.word 0 = 0x4c4f434b →
      (s.provisioningOpen = false → exec (.lock x f) s = .next (s.refuses x f 0x19)) ∧
      (s.provisioningOpen = true → s.isWedged 9 = true → exec (.lock x f) s = .next (s.answersLater s x f [])) ∧
      (s.provisioningOpen = true → s.isWedged 9 = false → exec (.lock x f) s = .next (s.answersLater (({ s with otp := { s.otp with lock := 7 } }).logPart 0x19
        ([BitVec.ofNat 8 s.otp.provisioned, BitVec.ofNat 8 x.val] ++
          s.wb.nv.floors.toList.flatMap (fun (w : Word) => beBytes 4 w.toNat))) x f []))) ∧
    (s.takes x f ⟨0xc, 8, Serves.tenant⟩ false → f.sub 4 = 3 → ∀ kind : Byte, kind = (f.word 0).extractLsb' 24 8 →
      (kind.toNat < 0x40 ∨ 0x7f < kind.toNat → exec (.logAppend x f) s = .next (s.refuses x f 0x02)) ∧
      (0x40 ≤ kind.toNat → kind.toNat ≤ 0x7f →
        ∀ a, a = s.appendEntry x false (s.source 2 x.val) kind (wordsToBytes ((f.payload.drop 1).take 7)) → a.1 = 0 →
          exec (.logAppend x f) s = .next (s.answersLater a.2.2 x f [])) ∧
      (0x40 ≤ kind.toNat → kind.toNat ≤ 0x7f →
        (s.logLive = true → 8 ≤ vget s.wb.used x.val 0 → exec (.logAppend x f) s = .next (({ s with
          wb := { s.wb with hostRefused := vmod s.wb.hostRefused x.val (fun c => if c = 0xffff then 0xffff else c + 1) } } : State).refuses
            x f 0x1c)) ∧
        (s.logLive = false ∨ vget s.wb.used x.val 0 < 8 ∧ 32 ≤ s.wb.witnessQ.length →
          exec (.logAppend x f) s = .next (s.refuses x f 3))))

/-- An outcome becomes final: S reports its code and its sequence and the port is free again. A request that reaches its unit only now is done
now, and counts as accepted when its code is OK: POST fills a channel, WITHDRAW empties one, COMMIT STAGE writes the shadow bank,
COMMIT GROUP makes a commit pending. Where a later frame, a STATUS or one refused, is final already, S goes on naming that one. -/
def Obligations.OutcomeBecomesFinal : Prop :=
  (∀ (x : TenantId) (s : State) (q : Half) (g : InFlight), (s.tenant x).port.inFlight = some (g, q) → (s.tenant x).port.overtaken = true →
    ∃ t, exec (.outcomeFinal x) s = .next t ∧ (t.tenant x).port.result = (s.tenant x).port.result ∧
      (t.tenant x).port.seq = (s.tenant x).port.seq ∧ (t.tenant x).port.inFlight = none ∧ (t.tenant x).port.overtaken = false ∧
      (∀ code, g = .judged code → t = s.modPort x (fun p => { p with inFlight := none, overtaken := false }))) ∧
  ∀ (x : TenantId) (s : State) (q : Half), (s.tenant x).port.overtaken = false →
    (∀ code, (s.tenant x).port.inFlight = some (.judged code, q) → exec (.outcomeFinal x) s =
      .next (s.modPort x (fun p => { p with inFlight := none, result := code, seq := q }))) ∧
    (∀ b n k, (s.tenant x).port.inFlight = some (.post b n, q) → k = s.checkPost (8 + x.val) b.val n →
      exec (.outcomeFinal x) s = .next ((if k = 0 then ({ s with posted := s.posted + 1 } : State).modChannel (channelId (8 + x.val) b.val)
          (fun c => c.post n (s.tenant x).port.nextJob (s.posted + 1)) else s).modPort x (fun p => { p with
        inFlight := none, result := k, seq := q, accepted := if k = 0 then p.accepted + 1 else p.accepted }))) ∧
    (∀ b c, (s.tenant x).port.inFlight = some (.withdraw b, q) → s.channel (channelId (8 + x.val) b.val) = some c →
      c.residual = false → c.declared = true → c.full = true →
      exec (.outcomeFinal x) s = .next ((s.modChannel (channelId (8 + x.val) b.val) Channel.empty).modPort x (fun p => { p with
        inFlight := none, result := 0, seq := q, accepted := p.accepted + 1 }))) ∧
    (∀ m crcs, (s.tenant x).port.inFlight = some (.group m crcs, q) → s.checkCommit x m (some crcs) = 0 →
      ∃ t : State, exec (.outcomeFinal x) s = .next (t.modPort x (fun p => { p with
          inFlight := none, result := 0, seq := q, accepted := p.accepted + 1 })) ∧ t = { s with benches := t.benches } ∧
        ∀ b : BenchId, (t.bench b).coefs = if m.getLsbD b.val = true then
          { (s.bench b).coefs with commit := some ⟨s.clock.frame, false⟩ } else (s.bench b).coefs) ∧
    (∀ (b : BenchId) (first : Nat) (ws : List Word) (k : Byte) (u : State), (s.tenant x).port.inFlight = some (.stage b first ws, q) → s.stageCoefs x b first ws = (k, u) →
      exec (.outcomeFinal x) s = .next (u.modPort x (fun p => { p with
        inFlight := none, result := k, seq := q, accepted := if k = 0 then p.accepted + 1 else p.accepted })) ∧
      u = { s with benches := u.benches } ∧ (k ≠ 0 → u = s) ∧ (∀ c, c ≠ b → u.bench c = s.bench c) ∧
      (k = 0 → first + ws.length ≤ 4096 ∧ (Sparse.wf 0 (s.bench b).coefs.shadow = true → ∀ i, Sparse.read 0 (u.bench b).coefs.shadow i =
        if first ≤ i ∧ i < first + ws.length then ws.getD (i - first) 0 else Sparse.read 0 (s.bench b).coefs.shadow i)))

/-! ### Tenant reset, benches, plans -/

/-- TRST_N_x recognised low, or in its band (1 µs or longer; below 200 ns it is ignored), makes the next strobe its hold strobe, high again
sets the release strobe after it; before the first strobe that is frame 0 (DEDUCED, log 14). At the hold strobe the tenant is held, its
outstanding tags are FREE, its RUNNING, LATE and ARMED benches are HELD, its channels empty and its events 0, and a frame still crossing
to its unit is dropped (DEDUCED, log 52); at the release strobe its port starts with 8 credits and free tags, its events stay, and its
HELD benches are ARMED unless its image is being installed (DEDUCED, log 14). Other tenants keep their ports, and the part its straps,
OTP and pit words. -/
def Obligations.TenantResets : Prop :=
  ∀ (x : TenantId) (s : State) (n : Nat), n = (if s.clock.strobed = true then s.clock.frame + 1 else 0) →
    (∀ (l : PinInput) (ns : Nat), ns < 200 ∨ l.level = .high → exec (.trstNLow x l ns) s = .next s) ∧
    (∀ (l : PinInput) (ns : Nat), 1000 ≤ ns → l.level ≠ .high → s.power.state ≠ .por → (s.tenant x).asserted = false →
      exec (.trstNLow x l ns) s = .next (s.modTenant x (fun y => { y with
        trstLow := decide (l.level = .low), holdDue := some (y.holdDue.getD n), lowFrame := n, releaseDue := none }))) ∧
    (∀ (l : PinInput) (ns : Nat), 1000 ≤ ns → l.level = .high → s.power.state ≠ .por → (s.tenant x).asserted = true →
      exec (.trstNHigh x l ns) s = .next (s.modTenant x (fun y => { y with
        trstLow := false, releaseDue := some (max n (y.lowFrame + 1)) }))) ∧
    (∀ (l : PinInput) (ns : Nat), ns < 200 ∨ l.level ≠ .high → exec (.trstNHigh x l ns) s = .next s) ∧
    (∀ f, s.running = true → s.clock.strobed = true → (s.tenant x).holdDue = some f → f ≤ s.clock.frame →
      ∃ t, exec (.tenantResetHold x) s = .next t ∧ (t.tenant x).held = true ∧ (t.tenant x).holdDue = none ∧
        (t.tenant x).port.inFlight = none ∧ (∀ k : Fin 8, (t.tenant x).port.tags[k] =
          if ((s.tenant x).port.tags[k]).state = .pending ∨ ((s.tenant x).port.tags[k]).state = .ready then HostTag.init
          else (s.tenant x).port.tags[k]) ∧
        (∀ y, y ≠ x → t.tenant y = s.tenant y) ∧
        (∀ b, (t.bench b).state = if s.owns x b = true ∧ ((s.bench b).active = true ∨ (s.bench b).state = .armed)
          then .held else (s.bench b).state) ∧
        (s.owned x ≠ [] → (t.tenant x).events = 0 ∧ ∀ c ∈ t.channels, t.ownsChannel x c = true → c.full = false) ∧
        t.straps = s.straps ∧ t.otp = s.otp ∧ t.power = s.power ∧ t.pit.mem = s.pit.mem) ∧
    (∀ f, s.running = true → s.clock.strobed = true → (s.tenant x).held = true → (s.tenant x).holdDue = none →
      (s.tenant x).releaseDue = some f → f ≤ s.clock.frame →
      ∃ t, exec (.tenantResetRelease x) s = .next t ∧ (t.tenant x).held = false ∧ (t.tenant x).releaseDue = none ∧
        (t.tenant x).events = (s.tenant x).events ∧ (t.tenant x).port.credits = 8 ∧ (t.tenant x).port.result = 0 ∧
        (t.tenant x).port.seq = 0 ∧ (∀ k : Fin 8, (t.tenant x).port.tags[k] = HostTag.init) ∧
        (∀ y, y ≠ x → t.tenant y = s.tenant y) ∧
        (∀ b, (t.bench b).state = if s.owns x b = true ∧ (s.bench b).state = .held ∧ s.installing x = false
          then .armed else (s.bench b).state) ∧
        t.straps = s.straps ∧ t.otp = s.otp ∧ t.power = s.power ∧ t.pit.mem = s.pit.mem)

/-- What the input view of a bench shows as it is latched at a strobe (R166): audio delivered by its input routes, samples of channels in
RUN, the pulse channels as tracked, ring cells with ring lock, TOD and the counters. `prev` is the strobe of the view before, none at a
release; what an island wedged from this strobe on presents is absent. -/
def Sys2Proof.Machine.State.shows (s : State) (b : BenchId) (prev : Option Nat) (tracks : Vector PulseTrack 16) (v : InputView) : Prop :=
  (s.gone 7 = true → ∀ i : Fin 64, v.audio[i] = 0) ∧
  (s.gone 7 = false → ∀ (p : SapId) (x : TenantId) (e : PortEntry) (r : Route) (i : Fin 64), (s.sap p).entry = some (x, e) →
    roleInput (s.portRole p) = true → r ∈ e.routes → r.bench = b → r.ix = i.val →
    (∀ (q : SapId) (y : TenantId) (f : PortEntry), (s.sap q).entry = some (y, f) → roleInput (s.portRole q) = true →
      ∀ z ∈ f.routes, z.bench = b → z.ix = i.val → q = p ∧ z = r) →
    v.audio[i] = (vget (s.sap p).delivered r.slot []).getD (if r.second then 1 else 0) 0) ∧
  (∀ ch : SenseId, v.samples[ch] = if (s.chan ch).state = .run ∧ s.gone 8 = false
    then ⟨(s.chan ch).sample, (s.chan ch).deliveredAt.any (fun f => match prev with | none => f == s.clock.frame | some n => decide (n < f))⟩
    else ⟨0, false⟩) ∧
  (s.gone 8 = false ∨ prev = none → ∀ (ch : SenseId) (fresh : Bool),
    fresh = (tracks[ch]).at_.any (fun f => match prev with | none => f == s.clock.frame | some n => decide (n < f)) →
    (v.pulses[ch]).count = (tracks[ch]).count ∧ (v.pulses[ch]).interval = (tracks[ch]).interval ∧ (v.pulses[ch]).fresh = fresh ∧
    (fresh = true → (v.pulses[ch]).age = 0) ∧ (fresh = false → (tracks[ch]).at_ = none → (v.pulses[ch]).age = 0xffffffff)) ∧
  (∀ c : Fin 128, v.cells[c] = if s.ring.locked = true ∧ s.gone 2 = false ∧ (s.ring.cells[c]).absent = false
    then ⟨(s.ring.cells[c]).value, false⟩ else ⟨0, true⟩) ∧
  v.ringLock = (s.ring.locked && !s.gone 2) ∧ v.ringFrame = (if v.ringLock then s.ringFrame else 0) ∧ v.frame = s.clock.frame ∧
  v.todSeconds = s.ring.todSeconds ∧ v.todFrame = s.ring.todFrame ∧ v.todMarked = s.ring.todMarked ∧ v.todEpoch = s.ring.todEpoch ∧
  v.ringEpoch = s.ring.epoch ∧ v.powerCycle = s.wb.nv.powerCycle

/-- An ARMED bench whose condition is met is released at a strobe whose alignment counter is a multiple of its divisor: RUNNING, its
registers, accumulators and predicates 0, its delay words unwritten, its first period begun at the prologue vector, due one divisor
later, with one frame's bench cycles. At any other strobe it waits. A bench period ends at its due strobe, but not at the strobe
at which the bench is found to be fenced: nothing is published there. At a boundary every delay line rotates, and each period begins with the
input view latched and the coefficients in force. With fewer steps issued
than its length the bench is LATE: its count rises, LATE (event 0) is raised and nothing staged is published; otherwise it is
RUNNING and each staged result replaces its slot, fresh, with the next sequence, each staged cell its cell's publication, each output
route of the bench takes the sample staged for it, or 0, and a staged plan request is pending unless a higher bench has made one at
this strobe. A bench that failed the handshake at this strobe is RUNNING, publishes nothing and is not LATE. Either way the next period
begins at the main vector, and counts among the complete ones (a LATE one too: DESIGN CHOICE, log 47). -/
def Obligations.BenchReleaseAndPeriodEnd : Prop :=
  (∀ (b : BenchId) (s : State), s.running = true → s.clock.strobed = true → (s.bench b).state = .armed → (s.bench b).met.isSome = true →
    (s.align % (s.bench b).seq.divisor ≠ 0 → exec (.benchRelease b) s = .next s) ∧
    (s.align % (s.bench b).seq.divisor = 0 →
      ∃ t, exec (.benchRelease b) s = .next t ∧ (t.bench b).state = .running ∧ (∀ i : Fin 32, (t.bench b).d[i] = 0) ∧
        (∀ i : Fin 4, (t.bench b).acc[i] = 0) ∧ (t.bench b).p = 0 ∧ (t.bench b).pipe = [] ∧ (t.bench b).delay = [] ∧
        (t.bench b).stage = Stage.empty ∧ (t.bench b).met = none ∧ (t.bench b).coefs.first = true ∧
        (t.bench b).coefs.view = (s.bench b).coefs.inForce ∧
        s.shows b none (t.bench b).pulses (t.bench b).view ∧
        (∀ ch : SenseId, ((t.bench b).pulses[ch]).count = BitVec.ofNat 32 (s.chan ch).entering.length) ∧ (t.bench b).view.todChanged = false ∧
        (∀ (k : Nat) (l : LineState), (s.bench b).lines[k]? = some l → (t.bench b).lines[k]? = some { l with w := 0, f := 0, fresh := false }) ∧
        (t.bench b).seq = { (s.bench b).seq with
          vector := (s.bench b).seq.prologue, issued := 0, before := (s.bench b).seq.before + (s.bench b).seq.length, completed := 0, start := s.clock.frame
          due := s.clock.frame + (s.bench b).seq.divisor, granted := s.benchCycles, stretch := 0 } ∧
        (∀ c, c ≠ b → t.bench c = { s.bench c with met := (t.bench c).met }) ∧
        t.clock = s.clock ∧ t.power = s.power ∧ t.straps = s.straps ∧ t.pit = s.pit ∧ t.otp = s.otp ∧ t.channels = s.channels)) ∧
  (∀ (b : BenchId) (s : State), s.periodEnds b = true → (s.bench b).acked = true →
    ∃ t, exec (.benchPeriodEnd b) s = .next t ∧
      (t.bench b).state = (if (s.bench b).seq.issued < (s.bench b).seq.length then .late else .running) ∧
      (t.bench b).seq = { (s.bench b).seq with
        vector := (s.bench b).seq.main, issued := 0, before := (s.bench b).seq.before + (s.bench b).seq.length
        completed := (s.bench b).seq.completed + 1, start := s.clock.frame, due := s.clock.frame + (s.bench b).seq.divisor
        granted := t.benchCycles, stretch := 0 } ∧
      (t.bench b).stage = Stage.empty ∧ (t.bench b).coefs.view = (s.bench b).coefs.inForce ∧
      s.shows b (some (s.bench b).seq.start) (s.bench b).pulses (t.bench b).view ∧
      (t.bench b).view.todChanged = decide ((s.bench b).view.todEpoch ≠ s.ring.todEpoch) ∧
      (∀ (k : Nat) (l : LineState), (s.bench b).lines[k]? = some l →
        (t.bench b).lines[k]? = some { l with w := (l.w + 1) % l.length, f := min (l.f + 1) l.length, fresh := false }) ∧
      ((s.bench b).seq.issued < (s.bench b).seq.length →
        (t.bench b).results = (s.bench b).results ∧ t.audio = s.audio ∧ t.clock = s.clock ∧ t.ring = s.ring ∧
        (t.bench b).status.lateCount =
          (if (s.bench b).status.lateCount = 0xffff then 0xffff else (s.bench b).status.lateCount + 1) ∧
        ∀ x, s.owner b = some x → s.present x = true → (s.tenant x).held = false → (t.tenant x).events.getLsbD 0 = true) ∧
      ((s.bench b).seq.length ≤ (s.bench b).seq.issued → ((s.bench b).stage.results.map Prod.fst).Nodup →
        ∀ i : Fin 64, (∀ v, (i.val, v) ∈ (s.bench b).stage.results → ∀ r, r = (s.bench b).results[i] →
            (t.bench b).results[i] = ⟨v, if r.seq = 0 ∨ r.seq = 0xffff then 1 else r.seq + 1, true⟩) ∧
          (i.val ∉ (s.bench b).stage.results.map Prod.fst → (t.bench b).results[i] = (s.bench b).results[i])) ∧
      ((s.bench b).seq.length ≤ (s.bench b).seq.issued → ((s.bench b).stage.cells.map Prod.fst).Nodup → ∀ c : Nat,
        (∀ v, (c, v) ∈ (s.bench b).stage.cells →
          ∃ o, t.ring.own.find? (fun x => decide (x.1 = c)) = some (c, o) ∧ o.value = some v) ∧
        (c ∉ (s.bench b).stage.cells.map Prod.fst →
          t.ring.own.find? (fun x => decide (x.1 = c)) = s.ring.own.find? (fun x => decide (x.1 = c)))) ∧
      ((s.bench b).seq.length ≤ (s.bench b).seq.issued →
        ∀ (p : SapId) (x : TenantId) (e : PortEntry) (r : Route) (k : Fin 16) (v : Word),
        (s.sap p).entry = some (x, e) → r ∈ e.routes → r.bench = b → r.slot = k.val →
        (∀ q ∈ e.routes, q.slot = r.slot → q.second = r.second → q = r) →
        v = ((((s.bench b).stage.outputs.find? (fun o => decide (o.1 = r.ix))).map Prod.snd).getD 0) →
        (s.portRole p = 3 → pubAt ((t.sap p).slots[k]).pub r.second = some v) ∧
        (s.portRole p = 4 → ∃ l, (t.sap p).pubs.head? = some (s.clock.time, l) ∧ (r.slot, r.second, v) ∈ l)) ∧
      ((s.bench b).seq.length ≤ (s.bench b).seq.issued → ∀ (ix : BitVec 3) (w : Word), (s.bench b).stage.plan = some ix →
        s.planWord ix.toNat = some w → s.outranked b = false →
        t.clock.pending = if s.clock.plan.toNat / 2 ^ 13 % 8 = ix.toNat then none else some { word := w, e := s.clock.frame })) ∧
  (∀ (b : BenchId) (s : State), s.periodEnds b = true → (s.bench b).acked = false →
    ∃ t, exec (.benchPeriodEnd b) s = .next t ∧ (t.bench b).state = .running ∧
      (t.bench b).seq = { (s.bench b).seq with
        vector := (s.bench b).seq.main, issued := 0, before := (s.bench b).seq.before + (s.bench b).seq.length
        completed := (s.bench b).seq.completed + 1, start := s.clock.frame, due := s.clock.frame + (s.bench b).seq.divisor
        granted := s.benchCycles, stretch := 0 } ∧
      (t.bench b).stage = Stage.empty ∧ (t.bench b).results = (s.bench b).results ∧
      (t.bench b).status.lateCount = (s.bench b).status.lateCount ∧ t.audio = s.audio ∧ t.clock = s.clock ∧ t.ring = s.ring ∧
      t.tenants = s.tenants) ∧
  (∀ (b : BenchId) (s : State), (s.bench b).state ≠ .fenced → 16 ≤ (s.bench b).shake.fails →
    exec (.benchPeriodEnd b) s = .next s)

/-- A START edge (low and then high, or in its band, for 1 µs or longer) on a standalone part sets the start two strobes later, where the
ARMED ON_START benches are released; a master names ring frame n + 8; a member ignores its pin. START in its band, or high, before makes
no edge. The pending plan is loaded once a strobe after its request finds every counted bench at
a period start. A withheld stretch cycle of the issue window is counted and grants no step. -/
def Obligations.StartPlanStretch : Prop :=
  (∀ (p q : PinInput) (low high : Nat) (s : State), s.running = true → s.clock.strobed = true →
    (10 * p.mv.getD 0 ≤ 3 * p.vddIo → 3 * q.vddIo < 10 * q.mv.getD 0 → 1000 ≤ low → 1000 ≤ high →
      (s.isStandalone = true → ∃ t, exec (.startEdge p low q high) s = .next t ∧ t = { s with
        audio := t.audio, clock := { s.clock with starts := (s.clock.frame + 2) :: s.clock.starts } }) ∧
      (s.isMaster = true → s.ring.startPending = false → ∃ t, exec (.startEdge p low q high) s = .next t ∧
        t = { s with audio := t.audio, ring := { s.ring with startPending := true, startFrame := some (s.clock.frame + 8) } }) ∧
      (s.isMember = true → exec (.startEdge p low q high) s = .next s)) ∧
    (3 * p.vddIo < 10 * p.mv.getD 0 ∨ 10 * q.mv.getD 0 ≤ 3 * q.vddIo ∨ low < 200 ∨ high < 200 →
      exec (.startEdge p low q high) s = .next s)) ∧
  (∀ (b : BenchId) (s : State), s.running = true → s.clock.strobed = true → s.isStandalone = true → (s.bench b).state = .armed →
    s.releaseCond b = some .onStart → s.clock.frame ∈ s.clock.starts → s.align % (s.bench b).seq.divisor = 0 →
    ∃ t, exec (.benchRelease b) s = .next t ∧ (t.bench b).state = .running) ∧
  (∀ (s : State) (p : PendingPlan), s.running = true → s.clock.strobed = true → s.clock.pending = some p → p.e + 1 ≤ s.clock.frame →
    ((∀ b ∈ s.counted, (s.bench b).seq.start = s.clock.frame) →
      ∃ t, exec .planSwitch s = .next t ∧ t = { s with benches := t.benches, clock := { s.clock with plan := p.word, pending := none } } ∧
        ∀ b, t.bench b = if (s.bench b).active = true
          then { s.bench b with seq := { (s.bench b).seq with granted := (s.bench b).seq.granted - s.benchCycles + t.benchCycles } }
          else s.bench b) ∧
    ((∃ b ∈ s.counted, (s.bench b).seq.start ≠ s.clock.frame) → exec .planSwitch s = .next s)) ∧
  (∀ (b : BenchId) (mv cycle : Nat) (s : State), cycle < 7680 →
    (mv < 750 → s.running = true → (s.bench b).active = true → s.inWindow b cycle = true →
      (s.bench b).seq.toggleAt cycle = true →
      exec (.stretchCycle b mv cycle) s =
        .next (s.modBench b (fun x => { x with seq := { x.seq with stretch := x.seq.stretch + 1 } }))) ∧
    (760 ≤ mv → exec (.stretchCycle b mv cycle) s = .next s))

/-! ### Fences and wedges -/

/-- Sixteen consecutive failed handshakes fence a bench: it stops in FENCED, its queued reads and remote writes are discarded, a waiting commit
is abandoned, a new rule epoch begins, the FAULT_N pattern shows, its owner gets BENCH_FENCED (event 1), a FENCE entry of its index is
queued; other benches stay as they are. Below sixteen, or while a lower bench is still to be fenced at this strobe (the entries go in
ascending bench, log 8), nothing happens. -/
def Obligations.BenchFences : Prop :=
  ∀ (b : BenchId) (s : State), s.running = true → s.clock.strobed = true → (s.bench b).state ≠ .fenced →
    ((s.bench b).shake.fails < 16 → exec (.benchFence b) s = .next s) ∧
    ((∃ o : BenchId, o.val < b.val ∧ (s.bench o).state ≠ .fenced ∧ 16 ≤ (s.bench o).shake.fails) → exec (.benchFence b) s = .next s) ∧
    (16 ≤ (s.bench b).shake.fails → (∀ o : BenchId, o.val < b.val → (s.bench o).state = .fenced ∨ (s.bench o).shake.fails < 16) →
      ∃ (t u : State) (p : List Byte), exec (.benchFence b) s = .next t ∧ t = u.logPart 0x0f p ∧ u.wb = s.wb ∧ p.length = 23 ∧
        p.head? = some (BitVec.ofNat 8 b.val) ∧
        (t.bench b).state = .fenced ∧ (t.bench b).reads = [] ∧ (t.bench b).coefs.waits = false ∧
        vget t.ring.rwrQ b.val [] = [] ∧ t.faults.epoch = s.faults.epoch + 1 ∧ t.unitFault = true ∧
        (∀ c, c ≠ b → t.bench c = s.bench c) ∧
        (∀ c ∈ t.channels, c.isTo b = true → c.full = false) ∧
        t.pit = s.pit ∧ t.clock = s.clock ∧ t.straps = s.straps ∧ t.otp = s.otp ∧
        (∀ x, s.owner b = some x → s.present x = true → (s.tenant x).held = false → (t.tenant x).events.getLsbD 1 = true))

/-- Sixteen consecutive failed handshakes wedge a shared island (watchdog 1), sixteen frames in which a ready requester gets no access
wedge the pit (watchdog 2), a commit of 2.0 ms or without an answer wedges the weighbridge (watchdog 3). The island is marked, no other is, and a WEDGE entry of its
code and watchdog is asked for; the weighbridge leaves a wedge note instead. A wedged pit has no access left to serve; a wedged ring no lock; a wedged port no
frame and no tag; a wedged audio island holds its outputs low and delivers 0, and starts no port; a wedged sense island has no
excitation on any configured channel. At one strobe the islands go in ascending code (log 8). The flags of the wedge note count what is declared at this strobe, a
sixteenth failure here (log 25); watchdog 3 judges the commit at the head of the queues (log 26); where the wedge does not cut the writer in
that commit, the NV memory stays as it is (log 26). -/
def Obligations.IslandWedges : Prop :=
  ∀ (i : SharedIsland) (w : Nat) (cut : CommitCut) (c : Instr) (s : State),
    (c = .islandWedge i cut ∧ w = 1 ∧ s.running = true ∧ s.clock.strobed = true ∧ s.isWedged i.code = false ∧
        16 ≤ (vget s.faults.shake (i.code - 1) ⟨0, 0, true⟩).fails ∧
        (∀ k, 1 ≤ k → k < i.code → s.isWedged k = true ∨ (vget s.faults.shake (k - 1) ⟨0, 0, true⟩).fails < 16) ∧
        (1 < i.code → s.isWedged 1 = true ∨ s.faults.pitStall < 16) ∨
      c = .pitProgressWedge ∧ i = .pit ∧ w = 2 ∧ s.running = true ∧ s.clock.strobed = true ∧ s.isWedged 1 = false ∧
        16 ≤ s.faults.pitStall ∨
      (∃ us ans, c = .nvWriterWedge us ans cut ∧ i = .weighbridge ∧ w = 3 ∧ s.logLive = true ∧ s.nextQueued.isSome = true ∧
        (2000 ≤ us ∨ ans = false))) →
    ∃ (t u : State) (p : List Byte), exec c s = .next t ∧ t = u.logPart 0x10 p ∧ p.length = 19 ∧
      p.take 2 = [BitVec.ofNat 8 i.code, BitVec.ofNat 8 w] ∧
      t.isWedged i.code = true ∧ (∀ k, 1 ≤ k → k ≠ i.code → t.isWedged k = s.isWedged k) ∧ t.unitFault = true ∧
      (i = .weighbridge → t.faults.note = some
          ⟨w, s.localFrame, s.wb.nv.powerCycle, s.faults.wedged.toList.any id || s.otherWedge 9,
            s.benches.toList.any (fun b => decide (b.state = .fenced)) || s.fenceNow⟩ ∧
        t.wb.witnessQ = [] ∧ t.wb.systemQ = [] ∧ t.wb.service = none ∧ (cut = .none → t.wb.nv = s.wb.nv)) ∧
      (i ≠ .weighbridge → t.faults.note = s.faults.note) ∧
      (i = .pit → ∀ b, (t.bench b).reads = [] ∧ (t.bench b).writes = []) ∧
      (i = .pit → ∀ x, (t.tenant x).port.jobs = []) ∧
      (i = .ring → t.ring.locked = false) ∧
      (∀ x, i = .port x → (t.tenant x).port.jobs = [] ∧ (t.tenant x).port.inFlight = none ∧
        ∀ k : Fin 8, (t.tenant x).port.tags[k] = HostTag.init) ∧
      (i = .audio → ∀ p : SapId, (t.sap p).running = false ∧ (t.sap p).startDue = none ∧ (t.sap p).entry = (s.sap p).entry ∧
        ∀ k : Fin 16, (t.sap p).slots[k].content = [0, 0] ∧ (t.sap p).slots[k].pub = [] ∧ (t.sap p).delivered[k] = [0, 0]) ∧
      (i = .sense → ∀ ch : SenseId, t.chan ch = if (s.chan ch).cfg.isSome = true then { s.chan ch with state := .excOff, sample := 0 }
        else s.chan ch) ∧
      (i ≠ .audio → i ≠ .ring → t.audio = s.audio) ∧ (i ≠ .sense → t.sense = s.sense) ∧
      t.pit.mem = s.pit.mem ∧ t.clock = s.clock ∧ t.straps = s.straps ∧ t.otp = s.otp

/-! ### The pit -/

/-- The state in which a slot of the pit schedule is used. -/
def Sys2Proof.Machine.State.inSlot (s : State) (slot : Nat) : State :=
  { s with pit := { s.pit with nextSlot := slot + 1 }, faults := { s.faults with pitServed := true } }

/-- The pit memory after a full word was written. -/
def Sys2Proof.Machine.State.wordWritten (s : State) (a : Nat) (v : Word) : State :=
  { s with pit := { s.pit with
    mem := Sparse.write none s.pit.mem a (some (pitCode v)), scrub := s.pit.scrub.filter (fun x => decide (x.1 ≠ a)) } }

/-- The state after a port's slot that is done with a word: the frame goes on to its next word, or ends, which returns its credit or makes its
tag READY. -/
def Sys2Proof.Machine.State.wordOver (s : State) (x : TenantId) (j : PortJob) (rest : List PortJob) (more : List Word) (v : Word)
    (code : Byte) : State :=
  s.modPort x (fun p =>
    if more ≠ [] then { p with jobs := { j with
      left := more, offset := j.offset + 1, merge := none, got := j.got ++ [v], code := code } :: rest }
    else
      match j.kind with
      | .read tag => { p with
          jobs := rest, tags := vmod p.tags tag (fun g => { g with state := .ready, data := j.got ++ [v], code := code }) }
      | _ => { p with jobs := rest, credits := if j.credit then min 8 (p.credits + 1) else p.credits })

/-- The state after a host word that failed late: LATE_WRITE_FAIL, and status word 5 for the first failure of its frame. -/
def Sys2Proof.Machine.State.lateWord (s : State) (x : TenantId) (j : PortJob) (code : Byte) : State :=
  (s.modPort x (fun p => if j.code = 0 then { p with
    lateCode := code, lateCount := if p.lateCount = 0xff then 0xff else p.lateCount + 1, lateSeq := j.seq } else p)).raise x 12

/-- The state after a read of a written word with a corrected error: PIT_ECC_CORR for the tenant, and the word in the scrub queue of 8. -/
def Sys2Proof.Machine.State.correctedWord (s : State) (x : TenantId) (a : Nat) (v : Word) : State :=
  ({ s with pit := { s.pit with scrub := if s.pit.scrub.length < 8 then s.pit.scrub ++ [(a, v)] else s.pit.scrub } } : State).raise x 10

/-- A slot of the frame goes to its owner when that has a request ready. A bench's read fills its tag with the word; a bench's write
stores it, or fails with the failure record and LATE_WRITE_FAIL where its window no longer lets it; a port's full-word WRITE stores
the next word of its frame, its READ collects it, and the frame's end returns the credit or makes the tag READY; a partial WRITE word takes
two slots, its read and its masked write; a word of a LOAD is stored while its load stands; a latched remote
write is stored. A PRD behind an earlier write of its bench to its word performs that and reads it. A corrected word raises PIT_ECC_CORR
(event 10) and is queued for the scrub, an uncorrectable one raises PIT_ECC_FATAL (event 11) with the outcome of Table PIT-4. The system requester
reads the next staged word for the verifier or the installer, else writes back the first corrected word. With no request ready the slot passes; a slot that the frame has passed changes nothing (log 2). A spare slot, and one whose owner
has no request ready, serves the port that holds the spare grant; with no grant it serves the ready requester of the highest priority, of several the
first at or after the pointer, and the pointer moves on; a port that wins it with its frame not yet done holds the grant. -/
def Obligations.PitAccessesAndSpares : Prop :=
  (∀ (slot : Fin 7680) (ecc : EccRead) (s : State) (o : Nat), o = slotOwner (s.code 5).toNat slot.val →
    ((s.running = false ∨ s.isWedged 1 = true ∨ s.clock.stepped = .stopped ∨ slot.val < s.pit.nextSlot) →
      exec (.pitAccess slot ecc) s = .next s) ∧
    (s.running = true → s.isWedged 1 = false → s.clock.stepped ≠ .stopped → s.pit.nextSlot ≤ slot.val →
      ((∀ r, r < 14 → s.ready r = false) →
        exec (.pitAccess slot ecc) s = .next { s with pit := { s.pit with nextSlot := slot.val + 1 } }) ∧
      (∀ (b : BenchId) (q : BenchRequest) (rest : List BenchRequest), o = b.val → (s.bench b).reads = q :: rest →
        (∀ w ∈ (s.bench b).writes, w.precedes q = false) →
        (q.revoked = true ∨ s.stillPasses b.val q.window rightRead q.base q.length = false →
          exec (.pitAccess slot ecc) s = .next (((s.inSlot slot.val).modBench b (fun x => { x with
            reads := rest
            tags := vmod x.tags q.tag (fun g => { g with data := 0, valid := false })
            tagSeen := setBit4 x.tagSeen q.tag false })).raiseOwner b 9)) ∧
        (q.revoked = false → s.stillPasses b.val q.window rightRead q.base q.length = true → (ecc = .clean ∨ Sparse.read none s.pit.mem (q.base + q.offset) = none) →
        exec (.pitAccess slot ecc) s = .next ((s.inSlot slot.val).modBench b (fun x => { x with
          reads := rest
          tags := vmod x.tags q.tag (fun g => { g with data := s.pitWord (q.base + q.offset), valid := true })
          tagSeen := setBit4 x.tagSeen q.tag true }))) ∧
        (q.revoked = false → s.stillPasses b.val q.window rightRead q.base q.length = true →
          (Sparse.read none s.pit.mem (q.base + q.offset)).isSome = true → ∀ x : TenantId, s.owner b = some x →
          (ecc = .corrected → exec (.pitAccess slot ecc) s =
            .next (((s.inSlot slot.val).correctedWord x (q.base + q.offset) (s.pitWord (q.base + q.offset))).modBench b (fun y => { y with
              reads := rest
              tags := vmod y.tags q.tag (fun g => { g with data := s.pitWord (q.base + q.offset), valid := true })
              tagSeen := setBit4 y.tagSeen q.tag true }))) ∧
          (ecc = .uncorrectable → exec (.pitAccess slot ecc) s = .next (((s.inSlot slot.val).raise x 11).modBench b (fun y => { y with
            reads := rest
            tags := vmod y.tags q.tag (fun g => { g with data := 0, valid := false })
            tagSeen := setBit4 y.tagSeen q.tag false }))))) ∧
      (∀ (b : BenchId) (q w : BenchRequest) (rest more : List BenchRequest), o = b.val → (s.bench b).reads = q :: rest →
        (s.bench b).writes = w :: more → w.precedes q = true → (∀ z ∈ more, z.precedes q = false) →
        (w.revoked = false → s.stillPasses b.val w.window rightWrite w.base w.length = true → q.revoked = false →
          s.stillPasses b.val q.window rightRead q.base q.length = true → Sparse.wf none s.pit.mem = true →
          exec (.pitAccess slot ecc) s =
            .next (((s.inSlot slot.val).wordWritten (w.base + w.offset) w.data).modBench b (fun y => { y with
              reads := rest, writes := more
              tags := vmod y.tags q.tag (fun g => { g with data := w.data, valid := true })
              tagSeen := setBit4 y.tagSeen q.tag true }))) ∧
        (w.stale = false → w.revoked = true ∨ s.stillPasses b.val w.window rightWrite w.base w.length = false →
          exec (.pitAccess slot ecc) s = .next ((((s.inSlot slot.val).modBench b (fun y =>
            ({ y with
              reads := rest, writes := more
              tags := vmod y.tags q.tag (fun g => { g with data := 0, valid := false })
              tagSeen := setBit4 y.tagSeen q.tag false }).recordNow 0x1a 1 w.addr s.clock.frame)).raiseOwner b 12).raiseOwner b 9))) ∧
      (∀ (b : BenchId) (q : BenchRequest) (rest : List BenchRequest), o = b.val → (s.bench b).reads = [] →
        (s.bench b).writes = q :: rest →
        (q.revoked = false ∧ s.stillPasses b.val q.window rightWrite q.base q.length = true →
          exec (.pitAccess slot ecc) s =
            .next (((s.inSlot slot.val).wordWritten (q.base + q.offset) q.data).modBench b (fun x => { x with writes := rest }))) ∧
        (q.stale = false → (q.revoked = true ∨ s.stillPasses b.val q.window rightWrite q.base q.length = false) →
          exec (.pitAccess slot ecc) s = .next (((s.inSlot slot.val).modBench b (fun x =>
            ({ x with writes := rest }).recordNow 0x1a 1 q.addr s.clock.frame)).raiseOwner b 12))) ∧
      (∀ (x : TenantId) (j : PortJob) (rest : List PortJob), o = 8 + x.val → s.pit.grant = none → (s.tenant x).port.jobs = j :: rest →
        j.stale = false →
        (j.kind = .write → j.mask = 0xf#4 → s.stillPasses (8 + x.val) j.window rightWrite j.base j.length = true →
          ∀ v more, j.left = v :: more →
          exec (.pitAccess slot ecc) s =
            .next (((s.inSlot slot.val).wordWritten (j.base + j.offset) v).wordOver x j rest more v j.code)) ∧
        (j.kind = .write → j.mask ≠ 0xf#4 → s.stillPasses (8 + x.val) j.window rightWrite j.base j.length = true →
          ∀ v more a, j.left = v :: more → a = j.base + j.offset →
          (∀ m, j.merge = some m → exec (.pitAccess slot ecc) s = .next (((s.inSlot slot.val).wordWritten a
            ((v &&& laneBits j.mask) ||| (m &&& ~~~laneBits j.mask))).wordOver x j rest more
              ((v &&& laneBits j.mask) ||| (m &&& ~~~laneBits j.mask)) j.code)) ∧
          (j.merge = none → (ecc = .clean ∨ Sparse.read none s.pit.mem a = none) → exec (.pitAccess slot ecc) s =
            .next ((s.inSlot slot.val).modPort x (fun p => { p with jobs := { j with merge := some (s.pitWord a) } :: rest }))) ∧
          (j.merge = none → (Sparse.read none s.pit.mem a).isSome = true →
            (ecc = .corrected → exec (.pitAccess slot ecc) s = .next (((s.inSlot slot.val).correctedWord x a (s.pitWord a)).modPort x
              (fun p => { p with jobs := { j with merge := some (s.pitWord a) } :: rest }))) ∧
            (ecc = .uncorrectable → exec (.pitAccess slot ecc) s = .next ((((s.inSlot slot.val).raise x 11).lateWord x j 0x1b).wordOver
              x j rest more 0 (if j.code = 0 then 0x1b else j.code))))) ∧
        (j.kind = .write → s.stillPasses (8 + x.val) j.window rightWrite j.base j.length = false → ∀ v more, j.left = v :: more →
          exec (.pitAccess slot ecc) s =
            .next (((s.inSlot slot.val).lateWord x j 0x1a).wordOver x j rest more 0 (if j.code = 0 then 0x1a else j.code))) ∧
        (∀ g, j.kind = .load g → ∀ v more, j.left = v :: more → exec (.pitAccess slot ecc) s =
          .next ((if s.staging.generation = g then (s.inSlot slot.val).wordWritten (j.base + j.offset) v
            else s.inSlot slot.val).wordOver x j rest more v j.code)) ∧
        (∀ tag, j.kind = .read tag → s.stillPasses (8 + x.val) j.window rightRead j.base j.length = true →
          (ecc = .clean ∨ Sparse.read none s.pit.mem (j.base + j.offset) = none) →
          ∀ v w more, j.left = w :: more → v = s.pitWord (j.base + j.offset) &&& laneBits j.mask →
          exec (.pitAccess slot ecc) s = .next ((s.inSlot slot.val).wordOver x j rest more v j.code)) ∧
        (∀ tag, j.kind = .read tag → s.stillPasses (8 + x.val) j.window rightRead j.base j.length = true →
          (Sparse.read none s.pit.mem (j.base + j.offset)).isSome = true → ∀ w more, j.left = w :: more →
          (ecc = .corrected → exec (.pitAccess slot ecc) s = .next (((s.inSlot slot.val).correctedWord x (j.base + j.offset)
            (s.pitWord (j.base + j.offset))).wordOver x j rest more (s.pitWord (j.base + j.offset) &&& laneBits j.mask) j.code)) ∧
          (ecc = .uncorrectable → exec (.pitAccess slot ecc) s =
            .next (((s.inSlot slot.val).raise x 11).wordOver x j rest more 0 (if j.code = 0 then 0x1b else j.code)))) ∧
        (∀ tag, j.kind = .read tag → s.stillPasses (8 + x.val) j.window rightRead j.base j.length = false → ∀ w more, j.left = w :: more →
          exec (.pitAccess slot ecc) s =
            .next ((s.inSlot slot.val).wordOver x j rest more 0 (if j.code = 0 then 0x1a else j.code)))) ∧
      (o = 13 → ∀ (k : Nat) (dest : Option BenchId), s.systemRead = some (k, dest) →
        ((ecc = .clean ∨ Sparse.read none s.pit.mem (stagingBase + k) = none) → exec (.pitAccess slot ecc) s = .next { s.inSlot slot.val with
          staging := { s.staging with nextRead := s.staging.nextRead + 1, misread := Sparse.write none s.staging.misread k none } }) ∧
        ((Sparse.read none s.pit.mem (stagingBase + k)).isSome = true → ∀ x, s.staging.holder = some x →
          (ecc = .corrected → exec (.pitAccess slot ecc) s =
            .next { (s.inSlot slot.val).correctedWord x (stagingBase + k) (s.pitWord (stagingBase + k)) with
              staging := { s.staging with nextRead := s.staging.nextRead + 1, misread := Sparse.write none s.staging.misread k none } }) ∧
          (ecc = .uncorrectable → exec (.pitAccess slot ecc) s = .next { (s.inSlot slot.val).raise x 11 with
            staging :=
              match dest with
              | none => { s.staging with nextRead := s.staging.nextRead + 1, bad := some k }
              | some b => { s.staging with
                  nextRead := s.staging.nextRead + 1, spoiled := s.staging.spoiled ||| (1#8 <<< b.val) } }))) ∧
      (o = 13 → s.systemRead = none → ∀ (a : Nat) (v : Word) (rest : List (Nat × Word)), s.pit.scrub = (a, v) :: rest →
        exec (.pitAccess slot ecc) s = .next { s.inSlot slot.val with pit := { s.pit with
          nextSlot := slot.val + 1, mem := Sparse.write none s.pit.mem a (some (pitCode v))
          scrub := rest.filter (fun z => decide (z.1 ≠ a)) } }) ∧
      (∀ (k : Nat) (w : LatchedWrite), o = 12 → firstLatch 0 s.ring.latches.toList = some (k, w) →
        s.inboundPasses w.window w.source w.base w.length = true →
        exec (.pitAccess slot ecc) s = .next (((s.inSlot slot.val).wordWritten (w.base + w.offset) w.data).modRing (fun r =>
          { r with latches := vmod r.latches k (fun _ => none) }))) ∧
      (o < 14 → s.ready o = true → ∃ u : State, u = ({ s with pit := { s.pit with nextSlot := slot.val + 1 } } : State).serve o ecc ∧
        exec (.pitAccess slot ecc) s = .next { u with faults := { u.faults with pitServed := true } }) ∧
      (14 ≤ o ∨ s.ready o = false →
        (∀ x : TenantId, s.pit.grant = some x →
          (s.ready (8 + x.val) = true → ∃ u : State,
            u = ({ s with pit := { s.pit with nextSlot := slot.val + 1 } } : State).serve (8 + x.val) ecc ∧
            exec (.pitAccess slot ecc) s = .next { u with faults := { u.faults with pitServed := true } }) ∧
          (s.ready (8 + x.val) = false → exec (.pitAccess slot ecc) s = .next { s with pit := { s.pit with nextSlot := slot.val + 1 } })) ∧
        (s.pit.grant = none → ∀ r, s.spareWinner = some r → ∃ u : State,
          u = ({ s with pit := { s.pit with nextSlot := slot.val + 1, pointer := (r + 1) % 14 } } : State).serve r ecc ∧
          ((∀ (x : TenantId) j k, r = 8 + x.val → (s.tenant x).port.jobs.head? = some j → (u.tenant x).port.jobs.head? = some k → k.id ≠ j.id) →
            exec (.pitAccess slot ecc) s = .next { u with faults := { u.faults with pitServed := true } }) ∧
          (∀ (x : TenantId) j k, r = 8 + x.val → (s.tenant x).port.jobs.head? = some j → (u.tenant x).port.jobs.head? = some k → k.id = j.id →
            exec (.pitAccess slot ecc) s = .next { u with
              pit := { u.pit with grant := some x }, faults := { u.faults with pitServed := true } }))))) ∧
  (∀ (s : State),
    (∀ r, s.spareWinner = some r → r < 14 ∧ s.ready r = true ∧ ∀ q, q < 14 → s.ready q = true → s.priority q ≤ s.priority r ∧
      (s.priority q = s.priority r → (r + 14 - s.pit.pointer % 14) % 14 ≤ (q + 14 - s.pit.pointer % 14) % 14)) ∧
    (s.spareWinner = none → ∀ q, q < 14 → s.ready q = false) ∧
    (∀ b : BenchId, s.priority b.val = (s.bench b).prio.toNat) ∧ (∀ x : TenantId, s.priority (8 + x.val) = 4) ∧
    s.priority 12 = 6 ∧ s.priority 13 = 5)


/-! ### The weighbridge -/

/-- The state in which a tag is READY with its data and its completion code. -/
def Sys2Proof.Machine.State.tagReady (s : State) (x : TenantId) (tag : Nat) (data : List Word) (code : Byte)
    (marks : SeqPair × SeqPair) : State :=
  s.modPort x (fun p => { p with tags := vmod p.tags tag (fun g =>
    { g with state := .ready, data := data, code := code, marks := marks }) })

/-- Fields of the tag data of LOG HEAD for one region, from word `k` on, and its eras in word `e` (Table WBR-7). -/
def Sys2Proof.Machine.Nv.headShows (n : Nv) (r : Region) (ws : List Word) (k e : Nat) : Prop :=
  ws.getD k 0 = (n.region r).newest.seq ∧ ws.getD (k + 1) 0 = (n.oldest r).seq ∧
  ws.getD (k + 2) 0 = BitVec.ofNat 32 (n.entries r).length ∧ ws.getD (k + 3) 0 = (n.region r).wraps ∧
  ws.getD (k + 4) 0 = (n.region r).mark.seq ∧ ws.getD e 0 = (n.region r).newest.era ++ (n.oldest r).era

/-- The weighbridge takes the oldest request of the next tenant with its snapshot when it serves none, and when the request is done its tag
is READY: a copied snapshot, a 16-word signature behind the signed words (its secret, in 1 to n - 1, is kept as drawn), the slots or the floor as provisioned, the self-test result.
The signature is the P-256 one of FIPS 186-5 over the words' bytes under the device private key: r is the x coordinate of the secret's multiple of
the base point, and s times the secret is the hash plus r times the key, modulo n. HEAD, ENTRIES, EXPORT and ATTEST hold the fields of
Tables WBR-7 to WBR-9 as the state has them at the start of service. -/
def Obligations.WeighbridgeServes : Prop :=
  (∀ (bad : List (Fin 4096 × Vector Byte 64)) (s : State), s.logLive = true → s.wb.service = none →
    (s.nextRequest = none → exec (.weighbridgeServiceStart bad) s = .next s) ∧
    (∀ x tag q, s.nextRequest = some (x, tag, q) → exec (.weighbridgeServiceStart bad) s = .next { s with wb := { s.wb with
      requests := vmod s.wb.requests x.val (fun l => l.drop 1)
      service := some ⟨x, tag, q, (s.snapshot x q (bad.map (fun e => (e.1.val, e.2.toList)))).1,
        (s.snapshot x q (bad.map (fun e => (e.1.val, e.2.toList)))).2⟩
      turn := x.val + 1 } })) ∧
  (∀ (st : BitVec 4) (us : Word) (s : State), s.wb.service = none → exec (.weighbridgeRequestDone st us) s = .next s) ∧
  (∀ (st : BitVec 4) (us : Word) (s u : State) (v : WbService), s.wb.service = some v → u = { s with wb := { s.wb with service := none } } →
    ((v.request = .head ∨ (∃ p k, v.request = .entries p k) ∨ v.request = .identify) →
      exec (.weighbridgeRequestDone st us) s = .next (u.tagReady v.tenant v.tag v.words 0 v.marks)) ∧
    (v.request = .selftest →
      exec (.weighbridgeRequestDone st us) s = .next (u.tagReady v.tenant v.tag [st.setWidth 32, us] 0 v.marks)) ∧
    (((∃ n, v.request = .attest n) ∨ ∃ p k n, v.request = .exportLog p k n) →
      ∃ (sig : List Word) (k : Nat), sig.length = 16 ∧ 1 ≤ k ∧ k < p256N ∧
        (∀ kx ky, p256Mul k (some p256G) = some (kx, ky) → ∀ r z, r = beNat (wordsToBytes (sig.take 8)) → z = beNat (wordsToBytes (sig.drop 8)) →
          r = kx % p256N ∧ z < p256N ∧ z * k % p256N = (beNat (sha256 (wordsToBytes v.words)) + r * devicePrivate) % p256N) ∧ exec (.weighbridgeRequestDone st us) s =
        .next (({ u with freeIdx := s.freeIdx + 1, drawn := k :: s.drawn } : State).tagReady v.tenant v.tag (v.words ++ sig) 0 v.marks)) ∧
    (∀ i hash, v.request = .slot i hash →
      ((vget s.otp.keys i none).isSome = true → exec (.weighbridgeRequestDone st us) s =
        .next (u.tagReady v.tenant v.tag [BitVec.ofNat 32 s.otp.provisioned] 0x19 v.marks)) ∧
      ((vget s.otp.keys i none).isSome = false → (∀ w ∈ hash, w = 0) → exec (.weighbridgeRequestDone st us) s =
        .next (u.tagReady v.tenant v.tag [BitVec.ofNat 32 s.otp.provisioned] 0x02 v.marks)) ∧
      ((vget s.otp.keys i none).isSome = false → (∃ w ∈ hash, w ≠ 0) →
        ∀ o, o = { s.otp with keys := vmod s.otp.keys i (fun _ => some (wordsToBytes hash)) } →
        exec (.weighbridgeRequestDone st us) s = .next ((({ u with otp := o } : State).logPart 0x18
          ([1, BitVec.ofNat 8 v.tenant.val, BitVec.ofNat 8 i, 0] ++ (wordsToBytes hash).take 16)).tagReady v.tenant v.tag
            [BitVec.ofNat 32 o.provisioned] 0 v.marks))) ∧
    (∀ x w, v.request = .floor x w → ∀ f, f = (if (vget s.wb.nv.floors x.val 0).toNat < w.toNat then w else vget s.wb.nv.floors x.val 0) →
      exec (.weighbridgeRequestDone st us) s = .next ((({ u with wb := { u.wb with nv := s.wb.nv.update { s.wb.nv.block with
        floors := vmod s.wb.nv.floors x.val (fun _ => f) } } } : State).logPart 0x18
          ([2, BitVec.ofNat 8 v.tenant.val, BitVec.ofNat 8 x.val, 0] ++ beBytes 4 f.toNat)).tagReady v.tenant v.tag [f] 0 v.marks))) ∧
  (∀ (x : TenantId) (bad : List (Nat × List Byte)) (s : State) (n : Nv), n = s.wb.nv →
    (∀ ws, ws = (s.snapshot x .head bad).1 → n.newest.2.length = 32 → ws.length = 26 ∧ ws.getD 0 0 = 0x01000000#32 ∧
      ws.getD 1 0 = n.newest.1.seq ∧ ws.getD 2 0 = n.next.seq ∧ wordsToBytes ((ws.drop 3).take 8) = n.newest.2 ∧
      n.headShows .prot ws 11 23 ∧ n.headShows .gen ws 16 24 ∧ ws.getD 21 0 = n.lost ∧ ws.getD 22 0 = n.next.era ++ n.newest.1.era ∧
      ws.getD 25 0 = n.prot.mark.era ++ n.gen.mark.era) ∧
    (∀ (p : SeqPair) (k : Nat) (nonce : List Word) (ws : List Word) (xs : List (Nat × LogSlot)), k ≤ 16 → xs = n.run k p →
      ws = (s.snapshot x (.entries p k) bad).1 → (∀ y ∈ n.slots, y.2.bytes.length = 64) →
      ws.length = 3 + 16 * xs.length ∧ xs.length ≤ k ∧
      (∀ w, w = ws.getD 0 0 → w.toNat / 2 ^ 24 = 1 ∧ w.toNat / 2 ^ 16 % 2 ^ 8 = xs.length ∧ w.getLsbD 9 = decide (xs.length < k) ∧
        w.getLsbD 8 = s.straps.devel ∧ w.toNat % 2 ^ 8 = 0) ∧
      ws.getD 1 0 = p.seq ∧ (ws.getD 2 0).extractLsb' 16 16 = p.era ∧
      (∀ i y, xs[i]? = some y → y ∈ n.slots ∧ y.2.status = .valid ∧ y.2.pair = Nat.repeat SeqPair.next i p ∧
        (ws.getD 2 0).getLsbD i = bad.any (fun z => decide (z.1 = y.1)) ∧
        wordsToBytes ((ws.drop (3 + 16 * i)).take 16) =
          match bad.find? (fun z => decide (z.1 = y.1)) with | none => y.2.bytes | some z => padTo 0 64 z.2) ∧
      (xs.length < k → n.find (Nat.repeat SeqPair.next xs.length p) = none) ∧
      (s.snapshot x (.exportLog p k nonce) bad).1 =
        ws ++ padTo 0 8 nonce ++ deviceKeyId ++ counterWords s.localFrame ++ [n.powerCycle]) ∧
    (∀ nonce ws, ws = (s.snapshot x (.attest nonce) bad).1 → n.newest.2.length = 32 → s.straps.snapshot.length = 28 →
      (∀ y i, (s.tenant y).image = some i → i.digest.length = 32) →
      ws.length = 104 ∧ ws.getD 0 0 = BitVec.ofNat 32 (0x01b00000 + x.val * 256) ∧
      ws.getD 1 0 ++ ws.getD 2 0 = Config.partId ∧ (ws.drop 3).take 8 = deviceKeyId ∧
      wordsToBytes ((ws.drop 11).take 16) = deviceKeyBytes ∧ wordsToBytes ((ws.drop 27).take 7) = s.straps.snapshot ∧
      (∀ w, w = ws.getD 34 0 → w.getLsbD 31 = decide (s.otp.lock ≠ 0) ∧ w.getLsbD 30 = s.straps.devel ∧
        w.getLsbD 29 = s.provisioningOpen ∧ w.getLsbD 28 = false ∧ (∀ i : Fin 4, w.getLsbD (24 + i.val) = (s.otp.keys[i]).isSome) ∧
        w.toNat / 2 ^ 20 % 16 = s.power.state.code ∧ w.toNat / 2 ^ 17 % 8 = 0 ∧ w.getLsbD 16 = (s.family441 && !s.codeless 1) ∧
        w.toNat / 2 ^ 12 % 16 = min 15 (n.newest.1.era.toNat - n.prot.newest.era.toNat) ∧
        w.getLsbD 11 = (s.running && s.clock.plan.getLsbD 12) ∧
        w.toNat / 2 ^ 8 % 8 = (if s.running = true then s.clock.plan.toNat / 2 ^ 13 % 8 else 0) ∧
        ∀ y : TenantId, w.getLsbD (4 + y.val) = s.present y ∧ w.getLsbD y.val = (s.tenant y).image.isSome) ∧
      (ws.getD 35 0).extractLsb' 16 16 = n.newest.1.era ∧
      (∀ ch : SenseId, (ws.getD 35 0).getLsbD ch.val = (s.chan ch).cal.isSome) ∧
      (ws.getD 36 0).toNat = s.localFrame / 2 ^ 32 % 2 ^ 32 ∧ (ws.getD 37 0).toNat = s.localFrame % 2 ^ 32 ∧
      (ws.getD 38 0).toNat = s.ringFrame / 2 ^ 32 % 2 ^ 32 ∧ (ws.getD 39 0).toNat = s.ringFrame % 2 ^ 32 ∧
      ws.getD 40 0 = n.powerCycle ∧ ws.getD 41 0 = s.ring.todSeconds ∧ ws.getD 42 0 = s.todWord ∧ ws.getD 43 0 = s.ring.todEpoch ∧
      ws.getD 44 0 = s.ring.epoch ∧ ws.getD 45 0 = n.newest.1.seq ∧ wordsToBytes ((ws.drop 46).take 8) = n.newest.2 ∧
      ws.getD 54 0 = n.prot.newest.seq ∧ ws.getD 55 0 = n.lost ∧
      (∀ y : TenantId, ws.getD (56 + 10 * y.val) 0 = n.floors[y] ∧
        ws.getD (57 + 10 * y.val) 0 = (match (s.tenant y).image with | none => 0 | some i => i.rollback) ∧
        wordsToBytes ((ws.drop (58 + 10 * y.val)).take 8) =
          (match (s.tenant y).image with | none => List.replicate 32 0 | some i => i.digest)) ∧
      (ws.drop 96).take 8 = padTo 0 8 nonce))

/-- LOG_COMMIT commits the queued entry of the least pair: its queue place is free, the next pair follows it, and nothing but the weighbridge
changes. At the end of a budget second LOG_BUDGET_COUNT is asked for when a refusal occurred, and DROPPED_FAILURES when a failure was dropped; that
LOG_BUDGET_COUNT gets its pair before DROPPED_FAILURES is the model's order (DESIGN CHOICE, log 75). -/
def Obligations.LogCommits : Prop :=
  (∀ (s : State), s.logLive = true →
    (s.wb.witnessQ = [] → s.wb.systemQ = [] → exec .logCommit s = .next s) ∧
    (∀ q rest, s.wb.witnessQ = q :: rest → (∀ p, s.wb.systemQ.head? = some p → q.entry.pair.lt p.entry.pair = true) →
      ∃ t, exec .logCommit s = .next t ∧ t = { s with wb := t.wb } ∧ t.wb.witnessQ = rest ∧ t.wb.systemQ = s.wb.systemQ ∧
        t.wb.nv.next = q.entry.pair.next ∧
        (q.ahead = [] → (q.entry.kind ≠ 0x1b ∧ q.entry.kind ≠ 0xc0) → ∀ slot, slot = s.wb.nv.nextSlot q.entry.region →
          ∃ bytes : List Byte, t.wb.nv.slots = Sparse.write LogSlot.blank s.wb.nv.slots slot ⟨.valid, bytes, q.entry.pair.era⟩ ∧
            bytes.take 4 = beBytes 4 q.entry.pair.seq.toNat ∧ (t.wb.nv.region q.entry.region).hash = sha256 bytes ∧
            (t.wb.nv.region q.entry.region).newest = q.entry.pair)) ∧
    (∀ q rest, s.wb.systemQ = q :: rest → (∀ p, s.wb.witnessQ.head? = some p → p.entry.pair.lt q.entry.pair = false) →
      ∃ t, exec .logCommit s = .next t ∧ t = { s with wb := t.wb } ∧ t.wb.witnessQ = s.wb.witnessQ ∧ t.wb.systemQ = rest ∧
        t.wb.nv.next = q.entry.pair.next)) ∧
  (∀ (s : State), s.wb.ended = none → exec .budgetSecondEnd s = .next s) ∧
  (∀ (s u v : State) (e : EndedSecond) (a b : List Byte), s.wb.ended = some e → u = { s with wb := { s.wb with ended := none } } →
    a = beBytes 4 e.index ++ (e.witness.toList ++ e.host.toList).flatMap (fun c => beBytes 2 c.toNat) →
    b = beBytes 4 e.counter.toNat ++ beBytes 4 e.index ++ e.drops.counts.toList.flatMap (fun c => beBytes 2 c.toNat) ++
      beBytes 4 e.drops.map.toNat →
    v = (if (∃ c ∈ e.witness.toList ++ e.host.toList, c ≠ 0) then u.logPart 0xc2 a else u) →
    exec .budgetSecondEnd s = .next (if (∃ c ∈ e.drops.counts.toList, c ≠ 0) then v.logPart 0x11 b else v))

/-! ### Images -/

/-- Verification starts once the words of every LOAD frame are performed. A refusal keeps its code in the tenant, raises IMAGE_FAIL (event 4) and
releases the staging area; an image that passes has its hold strobe next and its activation strobe `1 + ⌈length / 256⌉` frames after it, and leaves the
verification code 0 (DEDUCED, log 31). A load left for 65,536 frames is released. -/
def Obligations.ImageVerification : Prop :=
  ∀ (x : TenantId) (s : State), s.staging.holder = some x → s.running = true →
    (s.staging.phase = .complete →
      ((∃ j ∈ (s.tenant x).port.jobs, j.kind = .load s.staging.generation) → exec .verifyStart s = .next s) ∧
      ((∀ j ∈ (s.tenant x).port.jobs, j.kind ≠ .load s.staging.generation) → exec .verifyStart s = .next { s with
        staging := { s.staging with phase := .verifying, nextRead := 0, bad := none, misread := [], spoiled := 0 } })) ∧
    (s.staging.phase = .verifying →
      (s.verdict x = .waits → exec .verifyEnd s = .next s) ∧
      (∀ r, s.verdict x = .refused r → ∃ t, exec .verifyEnd s = .next t ∧ t.staging = s.staging.release ∧
        t = { s with staging := t.staging, tenants := t.tenants, wb := t.wb } ∧ (∀ y, y ≠ x → t.tenant y = s.tenant y) ∧
        (t.tenant x).verifyCode = r.code ∧ (t.tenant x).image = (s.tenant x).image ∧ (t.tenant x).port = (s.tenant x).port ∧
        (s.present x = true → (s.tenant x).held = false → (t.tenant x).events = (s.tenant x).events ||| (1#32 <<< 4))) ∧
      (∀ i, s.verdict x = .passed i → exec .verifyEnd s = .next { (s.modTenant x (fun y => { y with verifyCode := 0 })) with
        staging := { s.staging with
          phase := .passed, image := some i, v := s.clock.frame
          a := s.clock.frame + 1 + (1 + (i.installLength + 255) / 256) } })) ∧
    (s.staging.phase = .loading →
      (s.staging.lastLoad + 65536 < s.clock.frame → exec .stagingTimeout s = .next { s with staging := s.staging.release }) ∧
      (s.clock.frame ≤ s.staging.lastLoad + 65536 → exec .stagingTimeout s = .next s))

/-- At the hold strobe the tenant's RUNNING, LATE and ARMED benches stop; those that the image names are LOADED, and with a pit wedged before it the
installer meets poison in place of every record. At the activation strobe the
image takes effect: a named bench is ARMED (HELD under tenant reset, OFF where the installer met an uncorrectable word), the others are OFF, FENCED ones stay; IMAGE_DONE
(event 3) is raised, the floor rises to a signed image's rollback number unless the part is open or the weighbridge is wedged (a wedged one writes nothing,
log 31), a new rule epoch begins, the staging area is free, the words new to its windows are unwritten, and the part is
OPERATING. -/
def Obligations.ImageStrobes : Prop :=
  ∀ (x : TenantId) (i : Image) (s : State), s.staging.holder = some x → s.running = true → s.clock.strobed = true →
    (s.staging.phase = .passed → s.staging.image = some i → s.staging.v + 1 ≤ s.clock.frame →
      ∃ t, exec .holdStrobe s = .next t ∧
        t.staging = { s.staging with phase := .installing, nextRead := 0, spoiled := t.staging.spoiled } ∧
        (s.isWedged 1 = false → t.staging.spoiled = 0) ∧
        (s.isWedged 1 = true → ∀ (at_ len : Nat) (b : BenchId), (at_, len, b) ∈ i.bodies → 0 < len →
          t.staging.spoiled.getLsbD b.val = true) ∧
        (∀ b, (t.bench b).state = if s.owns x b = false ∨ (s.bench b).state = .fenced then (s.bench b).state
          else if i.names b = true then .loaded
          else if (s.bench b).active = true ∨ (s.bench b).state = .armed then .held else (s.bench b).state) ∧
        (∀ b c, s.owns x b = true → c ∈ t.channels → c.isTo b = true → c.full = false) ∧
        t.clock.pending = (if x = 0 then none else s.clock.pending) ∧
        t.pit = s.pit ∧ t.power = s.power ∧ t.straps = s.straps ∧ t.otp = s.otp ∧ t.wb = s.wb) ∧
    (∀ k, s.staging.phase = .installing → s.staging.image = some k → i = s.installedImage k → s.staging.a ≤ s.clock.frame →
      ∀ tv, ∃ t, exec (.activationStrobe tv) s = .next t ∧
        t.staging = s.staging.release ∧ (t.tenant x).image = some i ∧ (∀ y, y ≠ x → (t.tenant y).image = (s.tenant y).image) ∧
        t.power = { s.power with state := if s.power.state = .awaitImage then .operating else s.power.state } ∧
        t.faults.epoch = s.faults.epoch + 1 ∧
        (∀ b, (t.bench b).state = if s.owns x b = false ∨ (s.bench b).state = .fenced then (s.bench b).state
          else if i.names b = true ∧ s.staging.spoiled.getLsbD b.val = false
          then (if (s.tenant x).held = true then .held else .armed) else .off) ∧
        (s.present x = true → (s.tenant x).held = false → (t.tenant x).events.getLsbD 3 = true) ∧
        (∀ y : Fin 4, t.wb.nv.floors[y] = if y = x ∧ i.unsigned = false ∧ s.straps.devel = false ∧ s.isWedged 9 = false ∧
          s.wb.nv.floors[y].toNat < i.rollback.toNat then i.rollback else s.wb.nv.floors[y]) ∧
        (Sparse.wf none s.pit.mem = true → ∀ a, Sparse.read none t.pit.mem a =
          if cleared (s.tenant x).image i a = true then none else Sparse.read none s.pit.mem a) ∧
        t.straps = s.straps ∧ t.otp = s.otp)

/-! ### Mailbox and commit events -/

/-- Whether `v` is the value in force of a glide at its next step, under LIN (R253) or POLE (R254). -/
def Sys2Proof.Machine.Glide.nextIs (g : Glide) (law : Byte) (v : Int) : Prop :=
  (law.toNat / 64 = 1 → v = g.v0 + roundEven ((g.target - g.v0) * (g.j + 1)) (law.toNat % 16)) ∧
  (law.toNat / 64 = 2 → ∀ e inc, e = g.target - g.value → inc = roundEven e (law.toNat % 16) →
    (inc ≠ 0 → v = g.value + inc) ∧ (inc = 0 → 0 < e → v = g.value + 1) ∧ (inc = 0 → e < 0 → v = g.value - 1) ∧ (e = 0 → v = g.value))

/-- A notice becomes VISIBLE once its sender's earlier writes are done, and its timer is loaded; an acknowledgement's code becomes visible with DONE
once the acknowledger's are; a timer at 0 with its notice still posted sets TIMEOUT and raises MBX_TIMEOUT (event 7), once. At its flip strobe a
commit makes the shadow bank active and both banks equal; at n + 3 it is over, with COMMIT_DONE (event 5). But for the first commit the flip starts
a glide on each index with a LIN or POLE law, from its value in force to the new target, at its first step; any other index reads its
target. At each strobe a glide takes its next step, and the value of that step is in force; it ends where the value is the target, a LIN
glide of 2^k steps at the latest at its last. -/
def Obligations.NoticesAndFlips : Prop :=
  (∀ (id : Byte) (s : State) (c : Channel), s.channel id.toNat = some c →
    (c.full = true → c.visible = false → s.writesDone c.sender c.waitFor = true →
      exec (.noticeVisible id) s = .next (s.modChannel id.toNat (fun c =>
        { c with visible := true, timer := if c.residual = true then 0 else c.timeout.toNat }))) ∧
    (s.writesDone c.sender c.waitFor = false → exec (.noticeVisible id) s = .next s) ∧
    (∀ code bound, c.ack = some (code, bound) → s.writesDone c.receiver bound = true →
      exec (.ackVisible id) s = .next (s.modChannel id.toNat (fun c => { c with done := true, code := code, ack := none }))) ∧
    (∀ code bound, c.ack = some (code, bound) → s.writesDone c.receiver bound = false → exec (.ackVisible id) s = .next s) ∧
    (c.full = true → c.visible = true → c.residual = false → c.timeout ≠ 0 → c.timer = 0 → c.timedOut = false →
      ∀ x, s.endpointTenant c.sender = some x →
      exec (.mbxTimeout id) s = .next ((s.modChannel id.toNat (fun c => { c with timedOut := true })).raise x 7)) ∧
    (c.timer ≠ 0 ∨ c.timedOut = true → exec (.mbxTimeout id) s = .next s)) ∧
  (∀ (x : TenantId) (s : State), s.running = true →
    ∃ t, exec (.commitFlip x) s = .next t ∧ t = { s with benches := t.benches } ∧
      (∀ b, s.owns x b = false ∨ (s.bench b).coefs.flipsAt s.clock.frame = false → t.bench b = s.bench b) ∧
      (∀ b n, s.owns x b = true → (s.bench b).coefs.commit = some ⟨n, false⟩ → n + 2 ≤ s.clock.frame →
        (t.bench b).coefs.active = (s.bench b).coefs.shadow ∧ (t.bench b).coefs.shadow = (s.bench b).coefs.shadow ∧
        (t.bench b).coefs.commit = some ⟨n, true⟩ ∧
        (t.bench b).coefs.first = ((s.bench b).coefs.first && !(s.bench b).active) ∧
        ((s.bench b).coefs.first = true → (t.bench b).coefs.glides = []) ∧
        ((s.bench b).coefs.first = false → Sparse.wf 0 (s.bench b).coefs.laws = true → ∀ (ix : Nat) (law : Byte) (v0 tg : Int),
          law = Sparse.read 0 (s.bench b).coefs.laws ix → v0 = (Sparse.read 0 (s.bench b).coefs.inForce ix).toInt →
          tg = (Sparse.read 0 (s.bench b).coefs.shadow ix).toInt →
          (law.toNat % 16 = 0 ∨ law.toNat / 64 = 0 ∨ v0 = tg → (t.bench b).coefs.glides.filter (fun g => decide (g.ix = ix)) = []) ∧
          (law.toNat % 16 ≠ 0 → law.toNat / 64 = 1 ∨ law.toNat / 64 = 2 → v0 ≠ tg → ∀ v, Glide.nextIs ⟨ix, v0, tg, 0, v0⟩ law v →
            (t.bench b).coefs.glides.filter (fun g => decide (g.ix = ix)) = if v = tg then [] else [⟨ix, v0, tg, 1, v⟩])))) ∧
  (∀ (i : StrobeInputs) (s : State) (b : BenchId) (g : Glide) (law : Byte) (v : Int), s.running = true → s.clock.stepped ≠ .stopped →
    (s.bench b).state ≠ .fenced → (s.bench b).coefs.flipsAt (if s.clock.strobed then s.clock.frame + 1 else 0) = false →
    (s.bench b).coefs.glides.filter (fun h => decide (h.ix = g.ix)) = [g] → law = Sparse.read 0 (s.bench b).coefs.laws g.ix →
    law.toNat / 64 = 1 ∨ law.toNat / 64 = 2 → g.nextIs law v →
    ∃ t, exec (.frameStrobe i) s = .next t ∧ (t.bench b).coefs.active = (s.bench b).coefs.active ∧
      (t.bench b).coefs.glides.filter (fun h => decide (h.ix = g.ix)) = (if v = g.target then [] else [{ g with j := g.j + 1, value := v }]) ∧
      (Sparse.wf 0 (s.bench b).coefs.active = true → (Sparse.read 0 (s.bench b).coefs.active g.ix).toInt = g.target →
        Sparse.read 0 (t.bench b).coefs.inForce g.ix = BitVec.ofInt 32 v)) ∧
  (∀ (g : Glide) (law : Byte) (v : Int), law.toNat / 64 = 1 → g.j + 1 = 2 ^ (law.toNat % 16) → g.nextIs law v → v = g.target) ∧
  (∀ (x : TenantId) (s : State), (∀ b, s.owns x b = true → (s.bench b).coefs.endsAt s.clock.frame = false) →
    exec (.commitDone x) s = .next s) ∧
  (∀ (x : TenantId) (s : State), (∃ b, s.owns x b = true ∧ (s.bench b).coefs.endsAt s.clock.frame = true) →
    ∃ u : State, exec (.commitDone x) s = .next (u.raise x 5) ∧ u = { s with benches := u.benches } ∧
      ∀ b, u.bench b = if s.owns x b = true ∧ (s.bench b).coefs.endsAt s.clock.frame = true
        then { s.bench b with coefs := { (s.bench b).coefs with commit := none } } else s.bench b)

/-! ### Audio ports -/

/-- A named master port starts at the strobe of its start frame, on a member only with ring lock. A follower input port takes a port frame of its own length; its capture point
delivers it, or slips (underrun without one, overrun when an undelivered one was replaced). A follower output port loads the latest publication that
lies its distance before its frame edge, its samples narrowed to the slot's width, 0 where no route feeds; with none since the load before it slips as an
underrun, with more than one as an overrun, and the older are dropped. An output's slip raises its event for the port's tenant at the load, an input's at the strobe that
delivers (O13), and a slip moves the point as Table SAP-5 says. Before the first publication that a load can take it is no slip (R325); a port
that no image names any more stops at its edge; that a bench which publishes nothing for being LATE or held makes one an underrun is log 41 (DEDUCED). A port that follows a lead has no load or capture of its own, but
where the lead is a master (log 62). -/
def Obligations.AudioPortCommands : Prop :=
  (∀ (p : SapId) (cycle : Nat) (s : State), s.portRole p = 4 → (s.sap p).ending = true →
    ∃ t, exec (.followerOutputLoad p cycle) s = .next t ∧ t = { s with audio := t.audio } ∧ (∀ q, q ≠ p → t.sap q = s.sap q) ∧
      (t.sap p).ending = false ∧ ∀ k : Fin 16, (t.sap p).slots[k].content = []) ∧
  ∀ (p : SapId) (s : State) (x : TenantId) (e : PortEntry), s.audioLive = true → (s.sap p).entry = some (x, e) →
    (s.sap p).ending = false →
    (∀ d, roleMaster (s.portRole p) = true → (s.sap p).running = false → (s.sap p).startDue = some d →
      (d ≤ s.clock.frame + 1 → (s.isMember = false ∨ s.ring.locked = true) → exec (.masterPortStart p) s = .next (s.modSap p (fun y =>
        { y with running := true, startDue := if d = s.clock.frame + 1 then some d else none }))) ∧
      (s.clock.frame + 1 < d ∨ s.isMember = true ∧ s.ring.locked = false → exec (.masterPortStart p) s = .next s)) ∧
    (s.drives p = false → exec (.followerCapture p) s = .next s ∧ ∀ cycle, exec (.followerOutputLoad p cycle) s = .next s) ∧
    (∀ bits samples cycle, s.portRole p = 2 →
      (bits ≠ e.bits → exec (.followerFrameComplete p bits samples cycle) s = .next s) ∧
      (bits = e.bits → exec (.followerFrameComplete p bits samples cycle) s = .next (s.modSap p (fun y =>
        { y with overrun := y.overrun || y.holding.isSome, holding := some (samples, s.clock.time + 3 * cycle) })))) ∧
    (s.portRole p = 2 → s.leads p = true →
      ∀ now, now = s.clock.time + 7680 + s.clock.added - 3 * (if (s.sap p).wide = true then 1344 else 64) →
      ∃ t, exec (.followerCapture p) s = .next t ∧ t = { s with audio := t.audio, tenants := t.tenants } ∧
        (((s.sap p).holding = none ∨ ∃ w at_, (s.sap p).holding = some (w, at_) ∧ now < at_) →
          t.sap p = { s.sap p with captured := none, slip := some .underrun, overrun := false, wide := true }) ∧
        (∀ w at_, (s.sap p).holding = some (w, at_) → at_ ≤ now →
          t.sap p = { s.sap p with
            captured := some w, holding := none, overrun := false
            slip := if (s.sap p).overrun = true then some .overrun else none
            wide := if (s.sap p).overrun = true then false else if (s.sap p).wide = false ∧ 2432 < (now - at_) / 3 then true
              else if (s.sap p).wide = true ∧ (now - at_) / 3 < 128 then false else (s.sap p).wide })) ∧
    (∀ cycle, s.portRole p = 4 → s.leads p = true → ∀ now q, now = s.clock.time + 3 * cycle →
      q = 3 * (if (s.sap p).wide = true then 1344 else 64) →
      ∃ t, exec (.followerOutputLoad p cycle) s = .next t ∧ t = { s with audio := t.audio, tenants := t.tenants } ∧
        (t.sap p).pubs = (s.sap p).pubs.filter (fun z => !decide (z.1 + q ≤ now)) ∧
        (∀ z rest, (s.sap p).pubs.filter (fun z => decide (z.1 + q ≤ now)) = z :: rest →
          ∀ (k : Fin 16) (v : Nat → Word), k.val < e.slots → (e.width = 16 ∨ e.width = 24 ∨ e.width = 32) →
          (∀ r, r < e.rate → e.routed k.val (decide (r = 1)) = true → pubAt (pubSlot z.2 k.val) (decide (r = 1)) = some (v r)) →
          (e.align = true ∨ ((s.sap p).slots[k].phase = .live ∧ rest = [])) →
          (t.sap p).slots[k].content =
            (List.range e.rate).map (fun r => if e.routed k.val (decide (r = 1)) = true then narrowSample e.width (v r) else 0)) ∧
        ((∃ k : Fin 16, (s.sap p).slots[k].started ≠ []) ∨
            (∃ z ∈ (s.sap p).pubs, z.1 + q ≤ now ∧ ∃ w ∈ z.2, w.1 < 16) →
          ((∀ z ∈ (s.sap p).pubs, now < z.1 + q) →
            (t.sap p).wide = true ∧ (s.present x = true → (s.tenant x).held = false → (t.tenant x).events.getLsbD 19 = true)) ∧
          (∀ y z rest, (s.sap p).pubs.filter (fun z => decide (z.1 + q ≤ now)) = y :: z :: rest →
            (t.sap p).wide = false ∧ (s.present x = true → (s.tenant x).held = false → (t.tenant x).events.getLsbD 20 = true)) ∧
          (∀ z, (s.sap p).pubs.filter (fun z => decide (z.1 + q ≤ now)) = [z] →
            (t.sap p).wide = if (s.sap p).wide = false ∧ 2432 < (now - z.1) / 3 then true
              else if (s.sap p).wide = true ∧ (now - z.1) / 3 < 128 then false else (s.sap p).wide)) ∧
        ((∀ k : Fin 16, (s.sap p).slots[k].started = []) → (∀ z ∈ (s.sap p).pubs, now < z.1 + q) →
          (t.sap p).wide = (s.sap p).wide ∧ (e.group = 0 → e.align = true → t.tenants = s.tenants)))

/-! ### Sense channels -/

/-- A limiter trips certainly above the upper ends of its class's current and power ranges and never at or below their lower ends (the threshold in
between is the part's, a free value), and the meter above a threshold of the part's within 90 % to 100 % of its class's energy: each trip leaves the
channel TRIPPED with its sample 0, counts one more trip and raises SENSE_LIMIT (event 22) for the channel's tenant; a window within the
threshold does no more than keep its energy. After 100 ms the channel settles again. Every IEPE channel loses its excitation below 11.0 V for 10 µs, and settle again after 100 ms from 11.2 V to 13.2 V. -/
def Obligations.SenseExcitation : Prop :=
  ∀ (ch : SenseId) (s : State) (k : Nat), k = s.energyClass → s.senseLive = true →
    (∀ ua1 ua2 mv, (s.chan ch).excited = true →
      ((currentTrip k).2 < ua1 ∨ (currentTrip k).2 < ua2 ∨ (powerTrip k).2 < mv * ua1 ∨ (powerTrip k).2 < mv * ua2) →
      ∃ t, exec (.limiterTrip ch ua1 ua2 mv) s = .next t ∧ t.chan ch = { s.chan ch with state := .tripped, sample := 0 } ∧
        (∀ c, c ≠ ch → t.chan c = s.chan c) ∧ t = { s with sense := t.sense, tenants := t.tenants, wb := t.wb } ∧
        t.sense.trips = s.sense.trips + 1 ∧
        ∀ x d, (s.chan ch).cfg = some (x, d) → s.present x = true → (s.tenant x).held = false → (t.tenant x).events.getLsbD 22 = true) ∧
    (∀ ua1 ua2 mv, (ua1 ≤ (currentTrip k).1 ∧ ua2 ≤ (currentTrip k).1 ∧ mv * ua1 ≤ (powerTrip k).1 ∧ mv * ua2 ≤ (powerTrip k).1) →
      exec (.limiterTrip ch ua1 ua2 mv) s = .next s) ∧
    (∀ nj mv ua, ∃ t, exec (.meterWindowEnd ch nj mv ua) s = .next t ∧ (∀ c, c ≠ ch → t.chan c = s.chan c) ∧
      t = { s with sense := t.sense, tenants := t.tenants, wb := t.wb } ∧
      t.chan ch = (if (s.chan ch).excited = true ∧ meterTrip k ch < nj
        then { s.chan ch with energy := BitVec.ofNat 32 nj, state := .tripped, sample := 0 }
        else { s.chan ch with energy := BitVec.ofNat 32 nj }) ∧
      t.sense.trips = (if (s.chan ch).excited = true ∧ meterTrip k ch < nj then s.sense.trips + 1 else s.sense.trips) ∧
      ((s.chan ch).excited = true ∧ meterTrip k ch < nj → ∀ x d, (s.chan ch).cfg = some (x, d) → s.present x = true →
        (s.tenant x).held = false → (t.tenant x).events.getLsbD 22 = true) ∧
      ((s.chan ch).excited = false ∨ nj ≤ meterTrip k ch → t.tenants = s.tenants ∧ t.wb = s.wb)) ∧
    meterNominal k * 9 / 10 ≤ meterTrip k ch ∧ meterTrip k ch ≤ meterNominal k ∧
    (∀ ms, (s.chan ch).state = .tripped →
      (ms < 100 → exec (.tripRetry ch ms) s = .next s) ∧
      (100 ≤ ms → exec (.tripRetry ch ms) s = .next (s.modChan ch (fun c => { c with
        state := if (s.power.vexcOff = true ∨ s.power.vexcLow = true) ∧ c.cfg.any (fun d => d.2.mode == 0) = true then .excOff else .settle
        entered := s.clock.frame, sample := 0, seeded := false })))) ∧
    (∀ mv us, (11000 ≤ mv ∨ us < 10 → exec (.excOff mv us) s = .next s) ∧
      (mv < 11000 → 10 ≤ us → ∃ t, exec (.excOff mv us) s = .next t ∧
        t = { s with power := { s.power with vexcLow := true }, sense := { s.sense with channels := t.sense.channels } } ∧
        ∀ c, t.chan c = if (s.chan c).cfg.any (fun d => d.2.mode == 0) = true
          then { s.chan c with state := .excOff, sample := 0 } else s.chan c)) ∧
    (∀ low high ms, 11200 ≤ low → high ≤ 13200 → 100 ≤ ms → s.power.vexcOff = false →
      ∃ t, exec (.excRestore low high ms) s = .next t ∧
        t = { s with power := { s.power with vexcLow := false }, sense := { s.sense with channels := t.sense.channels } } ∧
        ∀ c, t.chan c = if (s.chan c).state = .excOff
          then { s.chan c with state := .settle, entered := s.clock.frame, sample := 0, seeded := false } else s.chan c)

/-- An open or short condition that holds for 10 ms puts the channel in FAULT, declares it once and raises its event (23 or 24); absent for 100 ms it is cleared and the
channel settles. After its group delay, at a delivery strobe, with nothing declared, a channel enters RUN with its first sample. A qualified pulse edge is counted and
goes to the view at its instant less the nominal comparator delay (its rounding is log 48), a shorter one is a glitch of its 1 ms window, and 16 of them are
reason 1 of a pulse fault; a voltage between the thresholds changes nothing. A pulse fault raises SENSE_PULSE (event 25) once and is cleared after 100 ms. A
SENSE_DIAG entry counts the changes since the one before; a change at the strobe whose entry still waits in the log's queue makes no second one (log 59),
any other within 10 s of it is held, and a held one is written 10 s after the one before. -/
def Obligations.SenseDiagnosis : Prop :=
  ∀ (ch : SenseId) (s : State) (x : TenantId) (d : SenseDecl), s.senseLive = true → (s.chan ch).cfg = some (x, d) →
    (∀ (mv ua : Int) ms o, o = openCond s.energyClass ch d mv ua → (o = true ∨ shortCond ch d mv = true) → (s.chan ch).excited = true → 10 ≤ ms →
      (s.chan ch).openDecl = false → (s.chan ch).shortDecl = false →
      ∃ t, exec (.diagDeclare ch mv ua ms) s = .next t ∧
        t.chan ch = { s.chan ch with state := .fault, sample := 0, openDecl := o, shortDecl := !o } ∧ (∀ c, c ≠ ch → t.chan c = s.chan c) ∧
        t = { s with sense := t.sense, tenants := t.tenants, wb := t.wb } ∧
        (s.present x = true → (s.tenant x).held = false → (t.tenant x).events = (s.tenant x).events ||| (1#32 <<< (if o then 23 else 24)))) ∧
    (∀ (mv ua : Int) ms, 100 ≤ ms → (s.chan ch).excited = true → ((s.chan ch).openDecl = true ∨ (s.chan ch).shortDecl = true) →
      (if (s.chan ch).openDecl = true then openCond s.energyClass ch d mv ua else shortCond ch d mv) = false →
      ∃ t, exec (.diagClear ch mv ua ms) s = .next t ∧ (∀ c, c ≠ ch → t.chan c = s.chan c) ∧ t = { s with sense := t.sense, wb := t.wb } ∧
        (t.chan ch).openDecl = false ∧ (t.chan ch).shortDecl = false ∧
        (t.chan ch).state = (if (s.chan ch).state = .fault then .settle else (s.chan ch).state) ∧
        (∀ f, s.sense.diagAt = some f → s.clock.frame < f + 10 * s.ff →
          (f = s.clock.frame → s.wb.systemQ.any s.diagQueued = true →
            t.sense.diagHeld = none ∧ t.sense.diagMap = 0 ∧ t.wb.systemQ.length = s.wb.systemQ.length ∧ t.sense.diagWritten.1.getLsbD ch.val = true) ∧
          (f ≠ s.clock.frame → t.wb = s.wb ∧ t.sense.diagMap = s.sense.diagMap ||| (1#16 <<< ch.val) ∧
            ∃ c, t.sense.diagHeld = some c ∧ c.channel = ch ∧ c.what = (if (s.chan ch).openDecl = true then 0x81 else 0x82) ∧ c.mv = mv))) ∧
    ((s.chan ch).state = .settle → (s.chan ch).openDecl = false → (s.chan ch).shortDecl = false →
      ((s.chan ch).entered + (16 + 24 * (d.divisor - 1)) ≤ s.clock.frame → s.align % d.divisor = 0 →
        exec (.settleComplete ch) s = .next (s.modChan ch (fun c =>
          { c with state := .run, sample := c.offer, deliveredAt := some s.clock.frame }))) ∧
      (s.clock.frame < (s.chan ch).entered + (16 + 24 * (d.divisor - 1)) → exec (.settleComplete ch) s = .next s)) ∧
    (∀ mv ts ns window, d.mode = 3 →
      (d.vHi + (d.vHi / 50 + 20) < mv → comparatorLevel ch d mv = some true) ∧
      (mv ≤ d.vHi - (d.vHi / 50 + 20) → mv < d.vLo - (d.vLo / 50 + 20) → comparatorLevel ch d mv = some false) ∧
      (comparatorLevel ch d mv = none ∨ comparatorLevel ch d mv = some (s.chan ch).high → exec (.pulseEdgeQualify ch mv ts ns window) s = .next s) ∧
      (∀ rising, comparatorLevel ch d mv = some rising → (s.chan ch).high ≠ rising →
        (ns < s.filterNs → exec (.pulseEdgeQualify ch mv ts ns window) s =
          .next (s.modChan ch (fun c => { c with
            high := rising, glitches := c.glitches + 1, burst := (window, if c.burst.1 = window then c.burst.2 + 1 else 1) }))) ∧
        (s.filterNs ≤ ns → rising = d.falling → exec (.pulseEdgeQualify ch mv ts ns window) s =
          .next (s.modChan ch (fun c => { c with high := rising }))) ∧
        (s.filterNs ≤ ns → rising ≠ d.falling → exec (.pulseEdgeQualify ch mv ts ns window) s =
          .next (s.modChan ch (fun c => { c with
            high := rising, edges := c.edges + 1
            waiting := c.waiting ++ [(ts - (if s.family441 = true then 51 else 55), s.edgeDue ts)] }))))) ∧
    ((16 ≤ (s.chan ch).burst.2 ↔ pulseReason ch (s.chan ch) d 1 (s.chan ch).burst.1 0 = true) ∧
      (∀ ms (mv : Int), 10 ≤ ms → (12000 < mv ∨ mv < -300) → pulseReason ch (s.chan ch) d 3 ms mv = true) ∧
      (∀ ms (mv : Int), 10 ≤ ms → (comparatorLevel ch d mv = none ↔ pulseReason ch (s.chan ch) d 2 ms mv = true))) ∧
    (∀ reason measure (mv : Int), d.mode = 3 → (s.chan ch).excited = true → (s.chan ch).pulseFault = 0 → pulseReason ch (s.chan ch) d reason measure mv = true →
      ∃ t, exec (.pulseFaultDeclare ch reason measure mv) s = .next t ∧ t.chan ch = { s.chan ch with pulseFault := reason } ∧
        (∀ c, c ≠ ch → t.chan c = s.chan c) ∧ t = { s with sense := t.sense, tenants := t.tenants, wb := t.wb } ∧
        (s.present x = true → (s.tenant x).held = false → (t.tenant x).events = (s.tenant x).events ||| (1#32 <<< 25))) ∧
    (∀ (mv : Int) ms, (s.chan ch).excited = true → (s.chan ch).pulseFault ≠ 0 → 100 ≤ ms →
      ∃ t, exec (.pulseFaultClear ch mv ms) s = .next t ∧ t.chan ch = { s.chan ch with pulseFault := 0 } ∧
        (∀ c, c ≠ ch → t.chan c = s.chan c) ∧ t = { s with sense := t.sense, wb := t.wb }) ∧
    (∀ c f, s.sense.diagHeld = some c → s.sense.diagAt = some f →
      (f + 10 * s.ff ≤ s.clock.frame → s.logTakes = true → ∃ u p, exec .senseDiagHeld s = .next { (s.logPart 0xc1 p) with sense := u } ∧
        u = { s.sense with
          diagAt := some s.clock.frame, diagMap := 0, diagCount := 0, diagHeld := none, diagWritten := (s.sense.diagMap, s.sense.diagCount) }) ∧
      (s.clock.frame < f + 10 * s.ff → exec .senseDiagHeld s = .next s))

/-! ### The haul ring -/

/-- A lane goes down after 8 silent characters or 16 errors, and up after 2 laps or 1,024 idle characters; a link is marked down at this end too where the
other end signals K28.7, until idle or laps come without it (log 67). After two laps off phase a part, the master like any other, steps its phase by less than
a frame: the stray laps are forgotten, each sense channel in RUN misses one delivery, each running master port gaps, and the strobes that follow come by so
much later. The TOD of a mark or of the header is applied at its frame; a difference from the predicted TOD is a step, which advances the TOD epoch and
raises TOD_STEP_BACK (event 17) or TOD_STEP_FORWARD (event 18) for each tenant that runs, forward at the first mark. -/
def Obligations.RingLanesAndTime : Prop :=
  (∀ (silent errors laps idle : Nat) (k287 : Bool) (s : State), s.isStandalone = false → s.power.state ≠ .por →
    (8 ≤ silent ∨ 16 ≤ errors →
      exec (.laneDown ⟨.up, k287⟩ silent errors) s = .next { s with ring := { s.ring with laneUp := false, severedUp := s.ring.severedUp || k287 } } ∧
      exec (.laneDown ⟨.down, k287⟩ silent errors) s = .next { s with
        ring := { s.ring with laneDown := false, severedDown := s.ring.severedDown || k287 } }) ∧
    (silent < 8 → errors < 16 →
      (∀ l, exec (.laneDown ⟨l, false⟩ silent errors) s = .next s) ∧
      exec (.laneDown ⟨.up, true⟩ silent errors) s = .next { s with ring := { s.ring with severedUp := true } } ∧
      exec (.laneDown ⟨.down, true⟩ silent errors) s = .next { s with ring := { s.ring with severedDown := true } }) ∧
    (2 ≤ laps ∨ 1024 ≤ idle →
      exec (.laneUp ⟨.up, k287⟩ laps idle) s = .next { s with ring := { s.ring with laneUp := true, severedUp := s.ring.severedUp && k287 } } ∧
      exec (.laneUp ⟨.down, k287⟩ laps idle) s = .next { s with
        ring := { s.ring with laneDown := true, severedDown := s.ring.severedDown && k287 } }) ∧
    (laps < 2 → idle < 1024 → ∀ l, exec (.laneUp ⟨l, k287⟩ laps idle) s = .next s)) ∧
  (∀ (s : State),
    (∀ cycles, s.ringLive = true → 2 ≤ s.ring.strayLaps → cycles < 7680 →
      ∃ t, exec (.phaseStep cycles) s = .next t ∧
        t = { s with
          audio := t.audio, clock := { s.clock with added := s.clock.added + cycles }
          ring := { s.ring with strayLaps := 0, strobeError := 0, skipDelivery := t.ring.skipDelivery } } ∧
        (∀ ch : SenseId, t.ring.skipDelivery.getLsbD ch.val = decide ((s.chan ch).state = .run)) ∧
        ∀ p, t.sap p = if roleMaster (s.portRole p) = true ∧ (s.sap p).running = true then { s.sap p with gap := true } else s.sap p) ∧
    (∀ cycles, s.ring.strayLaps < 2 → exec (.phaseStep cycles) s = .next s) ∧
    (s.running = true → s.clock.strobed = true →
      (s.todDue = none → exec .todMarkApply s = .next s) ∧
      (∀ k, s.todDue = some k → ∃ t, exec .todMarkApply s = .next t ∧ t = { s with ring := t.ring, tenants := t.tenants, wb := t.wb } ∧
        t.ring.todSeconds = k.seconds ∧ t.ring.todFrame = k.frame ∧ t.ring.todMarked = true ∧
        t.ring.mark = (if s.isMember = true then s.ring.mark else none) ∧
        t.ring.todEpoch = (if s.ring.todMarked = true ∧ s.ring.todSeconds = k.seconds ∧ s.ring.todFrame = k.frame
          then s.ring.todEpoch else s.ring.todEpoch + 1) ∧
        ∀ x, s.present x = true → (s.tenant x).held = false → (t.tenant x).events = (s.tenant x).events |||
          (if s.ring.todMarked = true ∧ s.ring.todSeconds = k.seconds ∧ s.ring.todFrame = k.frame then 0#32
           else if s.ring.todMarked = true ∧ (k.seconds.toNat < s.ring.todSeconds.toNat ∨
             k.seconds = s.ring.todSeconds ∧ k.frame.toNat < s.ring.todFrame.toNat) then 1#32 <<< 17
           else 1#32 <<< 18))))

/-- The master's roll call: it starts on a valid idle (or after 500 ms where fold is enabled; every 1,000 ms after a loss), two equal collection laps
end the collection, then the assignment is sent and RUN set; a second master (an entry of the table with bit 30, or a foreign lap marker) sets CONFLICT and a
rotation beyond the limit ends the attempt. That the table's first entry is the master's own and left out of that test, and that an attempt that ended is
tried again, is log 35; that the retry after a loss too needs a valid idle or fold enabled is log 68. A member builds its map from the assignment table, its
own entry being the one at the position that it remembers, and stays an end of a break if it is one. A break is folded by its ends, X where the down link is
broken and Y where the up link is, and by the master while the rotation keeps the limit: FOLDED carries the ring ID of X, and the parts at the places in home
order between the ends are cut off (how the ends are named is log 35). A part strapped with fold disabled does not turn, and the next one inward does in its place. -/
def Obligations.RingRollCall : Prop :=
  ∀ (s : State), s.ringLive = true →
    (∀ idleSeen ms, s.isMaster = true → (s.ring.roll = .idle ∨ s.ring.roll = .run ∧ s.ring.locked = false ∧ s.ring.retry = true) →
      (s.ring.retry = true ∧ 1000 ≤ ms ∧ (idleSeen = true ∨ s.foldEnabled = true) ∨
        s.ring.retry = false ∧ (idleSeen = true ∨ s.foldEnabled = true ∧ 500 ≤ ms)) →
      exec (.rollcallStart idleSeen ms) s = .next { s with ring := { s.ring with
        roll := .collect, startedFolded := !idleSeen, collected := none, validLaps := 0, turning := none, cutOff := [] } }) ∧
    (∀ (table : List Word) rotation, s.isMaster = true → s.ring.roll = .collect → s.ring.conflict = false →
      ((∀ w ∈ table.drop 1, w.getLsbD 30 = false) → rotation ≤ s.rotationLimit →
        exec (.collectionLap table rotation false) s = .next { s with
          ring := if s.ring.collected = some table then { s.ring with rotation := rotation, roll := .assign }
            else { s.ring with rotation := rotation, collected := some table } }) ∧
      ((∀ w ∈ table.drop 1, w.getLsbD 30 = false) → s.rotationLimit < rotation →
        ∃ t, exec (.collectionLap table rotation false) s = .next t ∧ t.ring.roll = .idle ∧ t.ring.retry = true ∧
          t = { s with ring := t.ring, wb := t.wb }) ∧
      (∀ foreign, foreign = true ∨ (∃ w ∈ table.drop 1, w.getLsbD 30 = true) →
        ∃ t, exec (.collectionLap table rotation foreign) s = .next t ∧ t.ring.conflict = true ∧ t.ring.events.getLsbD 16 = true ∧
          t.ring.roll = .collect ∧ t = { s with ring := t.ring, wb := t.wb })) ∧
    (∀ table c, s.isMaster = true → s.ring.roll = .assign → s.ring.collected = some c →
      ∃ t, exec (.assignmentLap table) s = .next t ∧ t.ring.roll = .run ∧ t.ring.table = assignment c ∧
        t.ring.folded = s.ring.startedFolded ∧ t = { s with ring := t.ring, wb := t.wb }) ∧
    (∀ table : List Word, s.isMaster = false →
      ∃ t, exec (.assignmentLap table) s = .next t ∧ t.ring.table = table ∧ t.ring.turning = s.ring.turning ∧ t = { s with ring := t.ring, wb := t.wb } ∧
        ∀ k w, s.ring.position = some k → table[k - 36]? = some w →
          t.ring.beta = (w.extractLsb' 7 7).toNat ∧
          (t.ring.refused = true ↔ (s.code 2 ≠ 7#4 ∧ w.getLsbD 21 = true))) ∧
    (∀ (x y : BitVec 6) rotation idle, s.isMaster = true → s.ring.roll = .run →
      (rotation ≤ s.rotationLimit → s.foldEnabled = true → ∃ t, exec (.fold x y rotation idle) s = .next t ∧ t.ring.folded = true ∧
        t.ring.fold.toNat = s.ring.idAt x.toNat ∧ t.ring.roll = .run ∧ t.ring.turning = (if x = 0 then some .near else none) ∧
        (∀ k, k ∈ t.ring.cutOff ↔ x.toNat < k ∧ k < s.ring.table.length ∧ (k < y.toNat ∨ y = 0)) ∧
        t = { s with ring := t.ring, wb := t.wb }) ∧
      (s.rotationLimit < rotation ∨ s.foldEnabled = false → ∃ t, exec (.fold x y rotation idle) s = .next t ∧ t.ring.roll = .idle ∧
        t.ring.retry = true ∧ t = { s with ring := t.ring, wb := t.wb })) ∧
    (∀ (x y : BitVec 6) rotation idle, s.isMaster = false →
      (s.foldEnabled = false → exec (.fold x y rotation idle) s = .next s) ∧
      (s.foldEnabled = true → s.ring.turning = none →
        ((s.ring.linkWhole .down = false ∨ idle = some .down) → s.ring.linkWhole .up = true → idle ≠ some .up →
          exec (.fold x y rotation idle) s = .next { s with
            ring := { s.ring with turning := some .near, events := s.ring.events ||| (1#32 <<< 15) } }) ∧
        ((s.ring.linkWhole .up = false ∨ idle = some .up) → s.ring.linkWhole .down = true → idle ≠ some .down →
          exec (.fold x y rotation idle) s = .next { s with
            ring := { s.ring with
              turning := some .far, refLink := if s.ring.locked = true then some .down else s.ring.refLink
              events := s.ring.events ||| (1#32 <<< 15) } }) ∧
        (s.ring.linkWhole .up = true → s.ring.linkWhole .down = true → idle = none → exec (.fold x y rotation idle) s = .next s) ∧
        (s.ring.linkWhole .up = false → s.ring.linkWhole .down = false → exec (.fold x y rotation idle) s = .next s)))

/-- A valid header at a member's home visit is counted and gives the ring frame counter and the status; a lap without one counts as missed. Whatever
its header, the position of another part's cell in a lap of RUN goes into its buffer: its value, absence, or a miss that keeps the value, the second in a row
making the cell absent. Its message slots are handled with ring lock or without it: a WRITE to this part is replied to. A lap on the other link is relayed as
it is. An end of a break that is whole again turns no more from the first lap of a new roll call on. A member whose last 4 laps were valid in RUN, with its strobe within 40 ns, gains lock and
RING_LOCK (event 13), its reference from the link of its home visit; it loses it after 16 missed laps, more than 16 laps of holdover, RUN cleared, or a
strobe off by more than 40 ns (that R379's condition also ends lock is log 57), with RING_LOSS (event 14), every cell absent, its RWR requests failed (their
slots are still read at the next home visit) and no start that waits. -/
def Obligations.RingLapsAndLock : Prop :=
  ∀ (s : State), s.ringLive = true →
    (∀ link l, s.unturn link l = if s.isMember = true ∧ link = .up ∧ validHeader l = true ∧ l.h3.getLsbD 12 = true ∧
        (s.ring.status.getLsbD 4 = false ∨ s.ring.validLaps = 0) ∧
        (s.ring.turning = some .near ∧ s.ring.linkWhole .down = true ∨ s.ring.turning = some .far ∧ s.ring.linkWhole .up = true)
      then { s with ring := { s.ring with turning := none } } else s) ∧
    (∀ link chars l err, l = decodeLap chars → link ≠ (s.unturn link l).homeLink → (s.isMember = true ∨ s.sendsLaps = true) →
      exec (.homeVisit link chars err) s = .next { s.unturn link l with
        ring := { (s.unturn link l).ring with relayed := some (s.clock.frame, chars) } }) ∧
    (∀ link chars l err, l = decodeLap chars → link = (s.unturn link l).homeLink → (s.isMember = true ∨ s.sendsLaps = true) →
      ∃ t, exec (.homeVisit link chars err) s = .next t ∧ t.ring.turning = (s.unturn link l).ring.turning ∧
        ∀ (i : Fin 8) (m : MessageSlot), l.slots[i] = m → m.clean = true → m.kind = 1 → m.addressee = s.ringId → m.replied = false →
          m.w3.extractLsb' 0 8 = m.crc → s.ring.slots[i] = none →
          ∃ (out : Lap) (code : Byte), t.ring.sent = some out ∧ out.slots[i] = m.reply code) ∧
    (∀ link chars l err, l = decodeLap chars → link = (s.unturn link l).homeLink →
      s.isMember = true → s.isMaster = false → validHeader l = true →
      ∃ t, exec (.homeVisit link chars err) s = .next t ∧ t.ring.visited = true ∧ t.ring.validLaps = s.ring.validLaps + 1 ∧
        t.ring.missedLaps = 0 ∧ t.ring.status = l.h3.extractLsb' 8 8 ∧ t.ring.strobeError = err ∧
        t.ring.strayLaps = (if 40 < err.natAbs then s.ring.strayLaps + 1 else 0) ∧ t.ring.header % 2 ^ 32 = l.h1.toNat ∧
        (s.ring.locked = false → t.ring.cells = s.ring.cells) ∧ t.ring.locked = s.ring.locked ∧ t.pit.mem = s.pit.mem) ∧
    (∀ chars l err, l = decodeLap chars → (s.isMember = true ∨ s.sendsLaps = true) → validHeader l = false →
      ∃ t, exec (.homeVisit s.homeLink chars err) s = .next t ∧ t.ring.visited = true ∧ t.ring.validLaps = 0 ∧
        t.ring.missedLaps = s.ring.missedLaps + 1 ∧ t.ring.locked = s.ring.locked ∧
        t.ring.strayLaps = (if s.isMaster = true ∧ 40 < err.natAbs then s.ring.strayLaps + 1 else 0) ∧
        (s.ring.locked = false → t.ring.cells = s.ring.cells)) ∧
    (∀ chars l err, l = decodeLap chars → s.isMember = true → s.isMaster = false → s.ring.locked = true →
      (validHeader l = true ∧ l.h3.getLsbD 15 = true ∧ l.h3.getLsbD 12 = false ∨ validHeader l = false ∧ s.ring.status.getLsbD 7 = true) →
      ∃ t, exec (.homeVisit s.homeLink chars err) s = .next t ∧
        ∀ (c : Fin 128) (i : Fin 92), s.writesCell c.val = false →
          (physicalMap s.ring.table).filter (fun p => decide (p.1 = c.val) || decide (p.2 = 36 + i.val)) = [(c.val, 36 + i.val)] →
          (∀ w, l.cells[i] = .value w → t.ring.cells[c] = ⟨w, 0, false⟩) ∧
          (l.cells[i] = .absent → t.ring.cells[c] = ⟨0, 0, true⟩) ∧
          (l.cells[i] = .error → t.ring.cells[c] = { s.ring.cells[c] with
            misses := s.ring.cells[c].misses + 1, absent := s.ring.cells[c].absent || decide (1 ≤ s.ring.cells[c].misses) })) ∧
    (s.isMember = true → s.isMaster = false → s.ring.locked = false →
      ((s.clock.locked = true ∧ s.clock.holdover = false ∧ 4 ≤ s.ring.validLaps ∧ s.ring.status.getLsbD 7 = true ∧
          s.ring.strobeError.natAbs ≤ 40) →
        ∃ t, exec .ringLockGain s = .next t ∧ t.ring.locked = true ∧ t.ring.lockedAt = s.ring.counter ∧ t.ring.refLink = some s.homeLink ∧
          t.ring.epoch = (if s.ring.everLocked = true ∧ s.ring.counter < s.ring.lastCounter then s.ring.epoch + 1 else s.ring.epoch) ∧
          t.ring.cells = s.ring.cells ∧
          ∀ x, s.present x = true → (s.tenant x).held = false → (t.tenant x).events = (s.tenant x).events ||| (1#32 <<< 13)) ∧
      ((s.clock.locked = false ∨ s.ring.validLaps < 4 ∨ s.ring.status.getLsbD 7 = false ∨ 40 < s.ring.strobeError.natAbs) →
        exec .ringLockGain s = .next s)) ∧
    (∀ cause : Fin 4, s.ring.locked = true →
      ((s.isMember = true ∧ s.isMaster = false ∧ (cause.val = 0 ∧ 16 ≤ s.ring.missedLaps ∨ cause.val = 1 ∧ 16 < s.ring.holdoverLaps ∨
          cause.val = 2 ∧ 0 < s.ring.validLaps ∧ s.ring.status.getLsbD 7 = false ∨
          cause.val = 3 ∧ 0 < s.ring.validLaps ∧ 40 < s.ring.strobeError.natAbs)) →
        ∃ t, exec (.ringLoss cause) s = .next t ∧ t.ring.locked = false ∧ (∀ c : Fin 128, t.ring.cells[c].absent = true) ∧
          (∀ b : BenchId, vget t.ring.rwrQ b.val [] = []) ∧ (∀ i : Fin 8, t.ring.slots[i] = (s.ring.slots[i]).map SentMessage.atLoss) ∧
          t.ring.lastCounter = s.ring.counter ∧
          (∀ p, (s.sap p).running = false → (t.sap p).startDue = none) ∧
          ∀ x, s.present x = true → (s.tenant x).held = false → (t.tenant x).events.getLsbD 14 = true) ∧
      (s.isMember = true → s.isMaster = false → s.ring.missedLaps < 16 → cause.val = 0 → exec (.ringLoss cause) s = .next s))

/-! ### The test access port -/

/-- A TAP command changes the TAP alone. IDCODE gives 0x106485AF; TAP reset selects IDCODE and leaves the data registers (log 36); SAMPLE/PRELOAD captures the
pins and takes the update stage; EXTEST does so in POR and is a bypass outside it; CLAMP, HIGHZ and BYPASS scan the bypass register, BYPASS under any code
that is not listed; EXTEST, CLAMP and HIGHZ hold the part in POR. BENCH_DBG scans the debug register where DEVEL was sampled high, and is a bypass elsewhere: the
bench and the selector of the scan before give the data, the words that a STAT at that moment would give for selectors 0 to 23 and 32 to 35, the debug latches for 64 to 95, else 0. That
the last bit shifted in is the register's highest is log 36. -/
def Obligations.TapCommands : Prop :=
  ∀ (s : State) (n : BitVec 5), n = (if s.power.state = .por then 5 else 1) →
    (∀ by_, exec (.tapReset by_) s = .next { s with tap := { s.tap with ir := 2 } }) ∧
    exec .idcode s = .next { s with tap := { s.tap with ir := 2, irCapture := n, idcode := 0x106485af } } ∧
    (∀ shift pins, exec (.samplePreload shift pins) s =
      .next { s with tap := { s.tap with ir := 1, irCapture := n, boundary := pins, update := shift } }) ∧
    (∀ shift pins, exec (.extest shift pins) s = .next { s with
      tap := if s.power.state = .por then { s.tap with ir := 0, irCapture := n, boundary := pins, update := shift, blocked := true }
        else { s.tap with ir := 0, irCapture := n, bypass := shift.getLsbD 0 } }) ∧
    (∀ tdi, exec (.tapClamp tdi) s = .next { s with tap := { s.tap with
      ir := 4, irCapture := n, bypass := tdi, blocked := s.tap.blocked || decide (s.power.state = .por) } }) ∧
    (∀ tdi, exec (.highz tdi) s = .next { s with tap := { s.tap with
      ir := 5, irCapture := n, bypass := tdi, blocked := s.tap.blocked || decide (s.power.state = .por) } }) ∧
    (∀ (code : BitVec 5) tdi, code ≠ 0 → code ≠ 1 → code ≠ 2 → code ≠ 4 → code ≠ 5 → code ≠ 8 →
      exec (.bypass code tdi) s = .next { s with tap := { s.tap with ir := code, irCapture := n, bypass := tdi } }) ∧
    (∀ shift, s.straps.devel = false → exec (.benchDbg shift) s =
      .next { s with tap := { s.tap with ir := 8, irCapture := n, bypass := shift.getLsbD 41 } }) ∧
    (∀ shift, s.straps.devel = true → ∃ w : Word, exec (.benchDbg shift) s =
        .next { s with tap := { s.tap with ir := 8, irCapture := n, debug := shift.extractLsb' 32 10 ++ w } } ∧
      ∀ (b : BenchId) (k : Nat), ((s.tap.debug).extractLsb' 39 3).toNat = b.val → ((s.tap.debug).extractLsb' 32 7).toNat = k →
        (∀ i : Fin 32, k = 64 + i.val → w = (s.bench b).debug[i]) ∧
        (k < 24 ∨ 32 ≤ k ∧ k < 36 → w = (s.modBench b Bench.now).statWord b k) ∧
        (24 ≤ k ∧ k < 32 ∨ 36 ≤ k ∧ k < 64 ∨ 96 ≤ k → w = 0))

/-! ### The whole part -/

/-- The copy of the counter block in force is complete, and the other one is incomplete or older. -/
def Sys2Proof.Machine.Nv.settled (n : Nv) : Prop :=
  n.current.valid = true ∧ (n.other.valid = false ∨ n.other.updates < n.current.updates)

/-- A fuse and a floor are for good: whatever the command, a programmed authority slot keeps its hash, a set lock stays, and no rollback floor falls. The
copy of the counter block in force is settled at reset, and every command keeps it so, a cut one too; where it were not, the opening of the log could take
an older copy with lower floors. -/
def Obligations.FusesAndFloorsStay : Prop :=
  State.reset.wb.nv.settled ∧ ∀ (c : Instr) (s t : State), s.wb.nv.settled → exec c s = .next t → t.wb.nv.settled ∧
    (∀ (i : Fin 4) (h : List Byte), s.otp.keys[i] = some h → t.otp.keys[i] = some h) ∧
    (s.otp.lock = 7 → t.otp.lock = 7) ∧
    (∀ x : TenantId, (vget s.wb.nv.floors x.val 0).toNat ≤ (vget t.wb.nv.floors x.val 0).toNat)

/-- The commands that reset the whole part. -/
def Sys2Proof.Instr.isReset (c : Instr) : Bool :=
  match c with
  | .supplyReset _ _ _ _ => true
  | .resetNLow _ _ _ => true
  | _ => false

/-- Once the straps are decoded, only a full reset changes the codes, the record or DEVEL as sampled; only a frame strobe or a full reset changes the frame
counter; only LOCK and a weighbridge request program OTP; and a pit word is changed only by a pit access, an activation or a full reset. -/
def Obligations.OnlyTheseChange : Prop :=
  ∀ (c : Instr) (s t : State), exec c s = .next t → c.isReset = false →
    (s.power.state ≠ .por → s.power.state ≠ .strap →
      t.straps.codes = s.straps.codes ∧ t.straps.devel = s.straps.devel ∧ t.straps.snapshot = s.straps.snapshot ∧
      t.straps.faults = s.straps.faults) ∧
    ((∀ i, c ≠ .frameStrobe i) → t.clock.frame = s.clock.frame ∧ t.clock.strobed = s.clock.strobed) ∧
    ((∀ x f, c ≠ .lock x f) → (∀ a b, c ≠ .weighbridgeRequestDone a b) → t.otp = s.otp) ∧
    ((∀ a b, c ≠ .pitAccess a b) → (∀ v, c ≠ .activationStrobe v) → t.pit.mem = s.pit.mem)

/-- Every step keeps the canonical form of the pit, the coefficient banks and the delay memories, and the limit of 8 credits, from every state that has them. -/
def Obligations.MemoriesStayCanonical : Prop :=
  ∀ (s t : State), s.memoriesWf → step s = .next t → t.memoriesWf
end

