-- ==== Sys2Proof/Laws/Counters.lean ====
section
/-! SUPPORT. Sys2Proof/Laws/Counters.lean: the copies of the counter block, the words of the pit with their check bits, and the
narrowing of an audio sample. -/
namespace Sys2Proof.Machine

/-! ### The counter block (R405) -/

/-- A copy as it is written is complete. -/
theorem CounterBlock.copy_valid (c : CounterBlock) (k : Nat) : (c.copy k).valid = true := by
  simp [CounterCopy.valid, CounterBlock.copy]

@[simp] theorem Nv.update_slots (n : Nv) (c : CounterBlock) : (n.update c).slots = n.slots := rfl

@[simp] theorem Nv.update_block (n : Nv) (c : CounterBlock) : (n.update c).block = c := rfl

@[simp] theorem Nv.update_other (n : Nv) (c : CounterBlock) : (n.update c).other = n.current := rfl

@[simp] theorem Nv.update_updates (n : Nv) (c : CounterBlock) : (n.update c).current.updates = n.current.updates + 1 := rfl

/-- The copy that an update puts in force is complete. -/
theorem Nv.update_valid (n : Nv) (c : CounterBlock) : (n.update c).current.valid = true := c.copy_valid _

@[simp] theorem Nv.cutUpdate_slots (n : Nv) (c : CounterBlock) : (n.cutUpdate c).slots = n.slots := rfl

@[simp] theorem Nv.cutUpdate_current (n : Nv) (c : CounterBlock) : (n.cutUpdate c).current = n.current := rfl

/-- The copy that was being written when the writer was cut is incomplete. -/
theorem Nv.cutUpdate_invalid (n : Nv) (c : CounterBlock) : (n.cutUpdate c).other.valid = false := by
  apply decide_eq_false
  intro h
  have e := congrArg (fun (x : Word) => x.getLsbD 0) h
  simp [Nv.cutUpdate, CounterBlock.copy] at e

/-- The opening of the log keeps a copy in force that is complete and newer than the other complete one. -/
theorem Nv.choose_settled (n : Nv) (h : n.current.valid = true) (k : n.other.valid = false ∨ n.other.updates < n.current.updates) :
    n.choose = n := by
  unfold Nv.choose
  split
  · rename_i g
    rcases g with ⟨a, b | c⟩
    · rw [h] at b; cases b
    · rcases k with k | k
      · rw [k] at a; cases a
      · omega
  · rfl

/-! ### Pit words (R264) -/

/-- The data of a stored word is what was written. -/
@[simp] theorem pitData_pitCode (v : Word) : pitData (pitCode v) = v := by
  unfold pitData pitCode
  ext i hi
  rw [BitVec.getElem_extractLsb', Nat.zero_add, BitVec.getLsbD_append, if_pos hi, BitVec.getLsbD_eq_getElem hi]

/-! ### Audio samples (R318) -/

/-- A multiple of 2^n is rounded to its quotient. -/
theorem roundEven_mul (q : Int) (n : Nat) : roundEven (q * (2 ^ n : Nat)) n = q := by
  have p : (0 : Int) < ((2 ^ n : Nat) : Int) := Int.natCast_pos.mpr (Nat.two_pow_pos n)
  rw [roundEven, Int.mul_ediv_cancel _ (Int.ne_of_gt p), Int.mul_emod_left]
  exact if_pos p

end Sys2Proof.Machine
end

