-- ==== Sys2Proof/Laws/Ecdsa.lean ====
section
/-! SUPPORT. Sys2Proof/Laws/Ecdsa.lean: the order of P-256 is prime, so that `invMod` inverts every secret of a signature (R424). -/
namespace Sys2Proof.Machine

/-- What `powMod` computes for an exponent of at most `fuel` bits. -/
theorem powMod_cast (m fuel : Nat) : ∀ b e acc : Nat, e < 2 ^ fuel →
    ((powMod m fuel b e acc : Nat) : ZMod m) = (acc : ZMod m) * (b : ZMod m) ^ e := by
  induction fuel with
  | zero => intro b e acc h; obtain rfl : e = 0 := by simpa using h
            simp [powMod]
  | succ n ih =>
    intro b e acc h
    have hlt : e / 2 < 2 ^ n := by rw [pow_succ] at h; omega
    have hb : ((b * b % m : Nat) : ZMod m) = (b : ZMod m) ^ 2 := by rw [ZMod.natCast_mod]; push_cast; ring
    rw [powMod, ih _ _ _ hlt, hb, ← pow_mul]
    split
    · next hp =>
      have : e = 2 * (e / 2) + 1 := by omega
      rw [ZMod.natCast_mod]
      conv_rhs => rw [this, pow_succ]
      push_cast; ring
    · next hp =>
      have : e = 2 * (e / 2) := by omega
      conv_rhs => rw [this]

/-- A Pratt certificate: `a` generates the units modulo `p`, whose number `p - 1` has the prime factors `qs`. -/
theorem prime_of_generator (p a fuel : Nat) (qs : List Nat) (hp : 1 < p) (hf : p - 1 < 2 ^ fuel) (hqs : ∀ q ∈ qs, q.Prime)
    (hprod : qs.prod = p - 1) (hone : powMod p fuel a (p - 1) 1 % p = 1)
    (hne : ∀ q ∈ qs, powMod p fuel a ((p - 1) / q) 1 % p ≠ 1) : p.Prime := by
  have key : ∀ e, e < 2 ^ fuel → ((a : ZMod p) ^ e = 1 ↔ powMod p fuel a e 1 % p = 1) := by
    intro e he
    have h := powMod_cast p fuel a e 1 he
    rw [Nat.cast_one, one_mul] at h
    rw [← h, show (1 : ZMod p) = ((1 : Nat) : ZMod p) from Nat.cast_one.symm, ZMod.natCast_eq_natCast_iff', Nat.mod_eq_of_lt hp]
  refine lucas_primality p (a : ZMod p) ((key _ hf).2 hone) ?_
  intro q hq hd
  have hmem : q ∈ qs := by
    rw [← hprod] at hd
    obtain ⟨r, hr, hqr⟩ := (Prime.dvd_prod_iff hq.prime).1 hd
    rwa [(Nat.prime_dvd_prime_iff_eq hq (hqs r hr)).1 hqr]
  intro h
  exact hne q hmem ((key _ (lt_of_le_of_lt (Nat.div_le_self _ _) hf)).1 h)

theorem prime_191039911 : Nat.Prime 191039911 :=
  prime_of_generator _ 3 28 [2, 3, 5, 41, 155317] (by decide) (by decide) (by norm_num) (by norm_num) (by decide +kernel) (by decide +kernel)

theorem prime_187019741 : Nat.Prime 187019741 :=
  prime_of_generator _ 2 28 [2, 2, 5, 9350987] (by decide) (by decide) (by norm_num) (by norm_num) (by decide +kernel) (by decide +kernel)

theorem prime_311245691 : Nat.Prime 311245691 :=
  prime_of_generator _ 2 29 [2, 5, 7, 17, 29, 29, 311] (by decide) (by decide) (by norm_num) (by norm_num) (by decide +kernel) (by decide +kernel)

theorem prime_622491383 : Nat.Prime 622491383 :=
  prime_of_generator _ 5 30 [2, 311245691] (by decide) (by decide) (by simp [prime_311245691, Nat.prime_two]) (by norm_num) (by decide +kernel)
    (by decide +kernel)

theorem prime_1002328039319 : Nat.Prime 1002328039319 :=
  prime_of_generator _ 19 40 [2, 126241, 3969899] (by decide) (by decide) (by norm_num) (by norm_num) (by decide +kernel) (by decide +kernel)

theorem prime_208150935158385979 : Nat.Prime 208150935158385979 :=
  prime_of_generator _ 2 58 [2, 3, 11, 43, 127, 3023, 191039911] (by decide) (by decide)
    (by simp only [List.forall_mem_cons, prime_191039911, true_and]; norm_num) (by norm_num) (by decide +kernel) (by decide +kernel)

theorem prime_2624747550333869278416773953 : Nat.Prime 2624747550333869278416773953 :=
  prime_of_generator _ 7 92 [2, 2, 2, 2, 2, 2, 3, 3, 1297, 16879, 208150935158385979] (by decide) (by decide)
    (by simp only [List.forall_mem_cons, prime_208150935158385979]; norm_num) (by norm_num) (by decide +kernel) (by decide +kernel)

/-- The order of P-256 is prime. -/
theorem p256N_prime : Nat.Prime p256N :=
  prime_of_generator _ 7 256 [2, 2, 2, 2, 3, 71, 131, 373, 3407, 17449, 38189, 187019741, 622491383, 1002328039319,
      2624747550333869278416773953] (by decide) (by decide)
    (by simp only [List.forall_mem_cons, prime_187019741, prime_622491383, prime_1002328039319, prime_2624747550333869278416773953]; norm_num)
    (by norm_num [p256N]) (by decide +kernel) (by decide +kernel)

/-- The inverse modulo the order of P-256. -/
theorem invMod_mul (k : Nat) (h1 : 1 ≤ k) (hn : k < p256N) : invMod p256N k * k % p256N = 1 := by
  have : Fact (Nat.Prime p256N) := ⟨p256N_prime⟩
  have hc : ((invMod p256N k : Nat) : ZMod p256N) = (k : ZMod p256N) ^ (p256N - 2) := by
    rw [invMod, powMod_cast _ _ _ _ _ (by decide), ZMod.natCast_mod, Nat.cast_one, one_mul]
  have hk : (k : ZMod p256N) ≠ 0 := by
    rw [Ne, ZMod.natCast_eq_zero_iff]
    exact Nat.not_dvd_of_pos_of_lt h1 hn
  have h : ((invMod p256N k * k : Nat) : ZMod p256N) = ((1 : Nat) : ZMod p256N) := by
    rw [Nat.cast_mul, hc, ← pow_succ, show p256N - 2 + 1 = p256N - 1 from by decide, ZMod.pow_card_sub_one_eq_one hk, Nat.cast_one]
  exact ((ZMod.natCast_eq_natCast_iff' _ _ _).1 h).trans (Nat.mod_eq_of_lt (by decide))

end Sys2Proof.Machine
end

