-- ==== Sys2Proof/Laws/State.lean ====
section
/-! SUPPORT. Sys2Proof/Laws/State.lean: what each named update of the state changes and what it leaves, field by field. -/
namespace Sys2Proof.Machine

/-! ### A tenant changed leaves the rest of the state -/

@[simp] theorem State.modTenant_straps (s : State) (t : TenantId) (f : Tenant → Tenant) : (s.modTenant t f).straps = s.straps := rfl
@[simp] theorem State.modTenant_power (s : State) (t : TenantId) (f : Tenant → Tenant) : (s.modTenant t f).power = s.power := rfl
@[simp] theorem State.modTenant_clock (s : State) (t : TenantId) (f : Tenant → Tenant) : (s.modTenant t f).clock = s.clock := rfl
@[simp] theorem State.modTenant_faults (s : State) (t : TenantId) (f : Tenant → Tenant) : (s.modTenant t f).faults = s.faults := rfl
@[simp] theorem State.modTenant_staging (s : State) (t : TenantId) (f : Tenant → Tenant) : (s.modTenant t f).staging = s.staging := rfl
@[simp] theorem State.modTenant_benches (s : State) (t : TenantId) (f : Tenant → Tenant) : (s.modTenant t f).benches = s.benches := rfl
@[simp] theorem State.modTenant_pit (s : State) (t : TenantId) (f : Tenant → Tenant) : (s.modTenant t f).pit = s.pit := rfl
@[simp] theorem State.modTenant_channels (s : State) (t : TenantId) (f : Tenant → Tenant) : (s.modTenant t f).channels = s.channels := rfl
@[simp] theorem State.modTenant_audio (s : State) (t : TenantId) (f : Tenant → Tenant) : (s.modTenant t f).audio = s.audio := rfl
@[simp] theorem State.modTenant_sense (s : State) (t : TenantId) (f : Tenant → Tenant) : (s.modTenant t f).sense = s.sense := rfl
@[simp] theorem State.modTenant_ring (s : State) (t : TenantId) (f : Tenant → Tenant) : (s.modTenant t f).ring = s.ring := rfl
@[simp] theorem State.modTenant_wb (s : State) (t : TenantId) (f : Tenant → Tenant) : (s.modTenant t f).wb = s.wb := rfl
@[simp] theorem State.modTenant_otp (s : State) (t : TenantId) (f : Tenant → Tenant) : (s.modTenant t f).otp = s.otp := rfl
@[simp] theorem State.modTenant_tap (s : State) (t : TenantId) (f : Tenant → Tenant) : (s.modTenant t f).tap = s.tap := rfl
@[simp] theorem State.modTenant_freeIdx (s : State) (t : TenantId) (f : Tenant → Tenant) : (s.modTenant t f).freeIdx = s.freeIdx := rfl
@[simp] theorem State.modTenant_drawn (s : State) (t : TenantId) (f : Tenant → Tenant) : (s.modTenant t f).drawn = s.drawn := rfl
@[simp] theorem State.modTenant_posted (s : State) (t : TenantId) (f : Tenant → Tenant) : (s.modTenant t f).posted = s.posted := rfl

/-! ### A port changed leaves the rest of the state -/

@[simp] theorem State.modPort_straps (s : State) (t : TenantId) (f : Port → Port) : (s.modPort t f).straps = s.straps := rfl
@[simp] theorem State.modPort_power (s : State) (t : TenantId) (f : Port → Port) : (s.modPort t f).power = s.power := rfl
@[simp] theorem State.modPort_clock (s : State) (t : TenantId) (f : Port → Port) : (s.modPort t f).clock = s.clock := rfl
@[simp] theorem State.modPort_faults (s : State) (t : TenantId) (f : Port → Port) : (s.modPort t f).faults = s.faults := rfl
@[simp] theorem State.modPort_staging (s : State) (t : TenantId) (f : Port → Port) : (s.modPort t f).staging = s.staging := rfl
@[simp] theorem State.modPort_benches (s : State) (t : TenantId) (f : Port → Port) : (s.modPort t f).benches = s.benches := rfl
@[simp] theorem State.modPort_pit (s : State) (t : TenantId) (f : Port → Port) : (s.modPort t f).pit = s.pit := rfl
@[simp] theorem State.modPort_channels (s : State) (t : TenantId) (f : Port → Port) : (s.modPort t f).channels = s.channels := rfl
@[simp] theorem State.modPort_audio (s : State) (t : TenantId) (f : Port → Port) : (s.modPort t f).audio = s.audio := rfl
@[simp] theorem State.modPort_sense (s : State) (t : TenantId) (f : Port → Port) : (s.modPort t f).sense = s.sense := rfl
@[simp] theorem State.modPort_ring (s : State) (t : TenantId) (f : Port → Port) : (s.modPort t f).ring = s.ring := rfl
@[simp] theorem State.modPort_wb (s : State) (t : TenantId) (f : Port → Port) : (s.modPort t f).wb = s.wb := rfl
@[simp] theorem State.modPort_otp (s : State) (t : TenantId) (f : Port → Port) : (s.modPort t f).otp = s.otp := rfl
@[simp] theorem State.modPort_tap (s : State) (t : TenantId) (f : Port → Port) : (s.modPort t f).tap = s.tap := rfl
@[simp] theorem State.modPort_freeIdx (s : State) (t : TenantId) (f : Port → Port) : (s.modPort t f).freeIdx = s.freeIdx := rfl
@[simp] theorem State.modPort_drawn (s : State) (t : TenantId) (f : Port → Port) : (s.modPort t f).drawn = s.drawn := rfl
@[simp] theorem State.modPort_posted (s : State) (t : TenantId) (f : Port → Port) : (s.modPort t f).posted = s.posted := rfl

/-! ### A bench changed leaves the rest of the state -/

@[simp] theorem State.modBench_straps (s : State) (b : BenchId) (f : Bench → Bench) : (s.modBench b f).straps = s.straps := rfl
@[simp] theorem State.modBench_power (s : State) (b : BenchId) (f : Bench → Bench) : (s.modBench b f).power = s.power := rfl
@[simp] theorem State.modBench_clock (s : State) (b : BenchId) (f : Bench → Bench) : (s.modBench b f).clock = s.clock := rfl
@[simp] theorem State.modBench_faults (s : State) (b : BenchId) (f : Bench → Bench) : (s.modBench b f).faults = s.faults := rfl
@[simp] theorem State.modBench_tenants (s : State) (b : BenchId) (f : Bench → Bench) : (s.modBench b f).tenants = s.tenants := rfl
@[simp] theorem State.modBench_staging (s : State) (b : BenchId) (f : Bench → Bench) : (s.modBench b f).staging = s.staging := rfl
@[simp] theorem State.modBench_pit (s : State) (b : BenchId) (f : Bench → Bench) : (s.modBench b f).pit = s.pit := rfl
@[simp] theorem State.modBench_channels (s : State) (b : BenchId) (f : Bench → Bench) : (s.modBench b f).channels = s.channels := rfl
@[simp] theorem State.modBench_audio (s : State) (b : BenchId) (f : Bench → Bench) : (s.modBench b f).audio = s.audio := rfl
@[simp] theorem State.modBench_sense (s : State) (b : BenchId) (f : Bench → Bench) : (s.modBench b f).sense = s.sense := rfl
@[simp] theorem State.modBench_ring (s : State) (b : BenchId) (f : Bench → Bench) : (s.modBench b f).ring = s.ring := rfl
@[simp] theorem State.modBench_wb (s : State) (b : BenchId) (f : Bench → Bench) : (s.modBench b f).wb = s.wb := rfl
@[simp] theorem State.modBench_otp (s : State) (b : BenchId) (f : Bench → Bench) : (s.modBench b f).otp = s.otp := rfl
@[simp] theorem State.modBench_tap (s : State) (b : BenchId) (f : Bench → Bench) : (s.modBench b f).tap = s.tap := rfl
@[simp] theorem State.modBench_freeIdx (s : State) (b : BenchId) (f : Bench → Bench) : (s.modBench b f).freeIdx = s.freeIdx := rfl
@[simp] theorem State.modBench_drawn (s : State) (b : BenchId) (f : Bench → Bench) : (s.modBench b f).drawn = s.drawn := rfl
@[simp] theorem State.modBench_posted (s : State) (b : BenchId) (f : Bench → Bench) : (s.modBench b f).posted = s.posted := rfl

/-! ### A channel changed leaves the rest of the state -/

@[simp] theorem State.modChannel_straps (s : State) (id : Nat) (f : Channel → Channel) : (s.modChannel id f).straps = s.straps := rfl
@[simp] theorem State.modChannel_power (s : State) (id : Nat) (f : Channel → Channel) : (s.modChannel id f).power = s.power := rfl
@[simp] theorem State.modChannel_clock (s : State) (id : Nat) (f : Channel → Channel) : (s.modChannel id f).clock = s.clock := rfl
@[simp] theorem State.modChannel_faults (s : State) (id : Nat) (f : Channel → Channel) : (s.modChannel id f).faults = s.faults := rfl
@[simp] theorem State.modChannel_tenants (s : State) (id : Nat) (f : Channel → Channel) : (s.modChannel id f).tenants = s.tenants := rfl
@[simp] theorem State.modChannel_staging (s : State) (id : Nat) (f : Channel → Channel) : (s.modChannel id f).staging = s.staging := rfl
@[simp] theorem State.modChannel_benches (s : State) (id : Nat) (f : Channel → Channel) : (s.modChannel id f).benches = s.benches := rfl
@[simp] theorem State.modChannel_pit (s : State) (id : Nat) (f : Channel → Channel) : (s.modChannel id f).pit = s.pit := rfl
@[simp] theorem State.modChannel_audio (s : State) (id : Nat) (f : Channel → Channel) : (s.modChannel id f).audio = s.audio := rfl
@[simp] theorem State.modChannel_sense (s : State) (id : Nat) (f : Channel → Channel) : (s.modChannel id f).sense = s.sense := rfl
@[simp] theorem State.modChannel_ring (s : State) (id : Nat) (f : Channel → Channel) : (s.modChannel id f).ring = s.ring := rfl
@[simp] theorem State.modChannel_wb (s : State) (id : Nat) (f : Channel → Channel) : (s.modChannel id f).wb = s.wb := rfl
@[simp] theorem State.modChannel_otp (s : State) (id : Nat) (f : Channel → Channel) : (s.modChannel id f).otp = s.otp := rfl
@[simp] theorem State.modChannel_tap (s : State) (id : Nat) (f : Channel → Channel) : (s.modChannel id f).tap = s.tap := rfl
@[simp] theorem State.modChannel_freeIdx (s : State) (id : Nat) (f : Channel → Channel) : (s.modChannel id f).freeIdx = s.freeIdx := rfl
@[simp] theorem State.modChannel_drawn (s : State) (id : Nat) (f : Channel → Channel) : (s.modChannel id f).drawn = s.drawn := rfl
@[simp] theorem State.modChannel_posted (s : State) (id : Nat) (f : Channel → Channel) : (s.modChannel id f).posted = s.posted := rfl

/-! ### An audio port changed leaves the rest of the state -/

@[simp] theorem State.modSap_straps (s : State) (p : SapId) (f : AudioPort → AudioPort) : (s.modSap p f).straps = s.straps := rfl
@[simp] theorem State.modSap_power (s : State) (p : SapId) (f : AudioPort → AudioPort) : (s.modSap p f).power = s.power := rfl
@[simp] theorem State.modSap_clock (s : State) (p : SapId) (f : AudioPort → AudioPort) : (s.modSap p f).clock = s.clock := rfl
@[simp] theorem State.modSap_faults (s : State) (p : SapId) (f : AudioPort → AudioPort) : (s.modSap p f).faults = s.faults := rfl
@[simp] theorem State.modSap_tenants (s : State) (p : SapId) (f : AudioPort → AudioPort) : (s.modSap p f).tenants = s.tenants := rfl
@[simp] theorem State.modSap_staging (s : State) (p : SapId) (f : AudioPort → AudioPort) : (s.modSap p f).staging = s.staging := rfl
@[simp] theorem State.modSap_benches (s : State) (p : SapId) (f : AudioPort → AudioPort) : (s.modSap p f).benches = s.benches := rfl
@[simp] theorem State.modSap_pit (s : State) (p : SapId) (f : AudioPort → AudioPort) : (s.modSap p f).pit = s.pit := rfl
@[simp] theorem State.modSap_channels (s : State) (p : SapId) (f : AudioPort → AudioPort) : (s.modSap p f).channels = s.channels := rfl
@[simp] theorem State.modSap_sense (s : State) (p : SapId) (f : AudioPort → AudioPort) : (s.modSap p f).sense = s.sense := rfl
@[simp] theorem State.modSap_ring (s : State) (p : SapId) (f : AudioPort → AudioPort) : (s.modSap p f).ring = s.ring := rfl
@[simp] theorem State.modSap_wb (s : State) (p : SapId) (f : AudioPort → AudioPort) : (s.modSap p f).wb = s.wb := rfl
@[simp] theorem State.modSap_otp (s : State) (p : SapId) (f : AudioPort → AudioPort) : (s.modSap p f).otp = s.otp := rfl
@[simp] theorem State.modSap_tap (s : State) (p : SapId) (f : AudioPort → AudioPort) : (s.modSap p f).tap = s.tap := rfl
@[simp] theorem State.modSap_freeIdx (s : State) (p : SapId) (f : AudioPort → AudioPort) : (s.modSap p f).freeIdx = s.freeIdx := rfl
@[simp] theorem State.modSap_drawn (s : State) (p : SapId) (f : AudioPort → AudioPort) : (s.modSap p f).drawn = s.drawn := rfl
@[simp] theorem State.modSap_posted (s : State) (p : SapId) (f : AudioPort → AudioPort) : (s.modSap p f).posted = s.posted := rfl

/-! ### A sense channel changed leaves the rest of the state -/

@[simp] theorem State.modChan_straps (s : State) (ch : SenseId) (f : SenseChannel → SenseChannel) : (s.modChan ch f).straps = s.straps := rfl
@[simp] theorem State.modChan_power (s : State) (ch : SenseId) (f : SenseChannel → SenseChannel) : (s.modChan ch f).power = s.power := rfl
@[simp] theorem State.modChan_clock (s : State) (ch : SenseId) (f : SenseChannel → SenseChannel) : (s.modChan ch f).clock = s.clock := rfl
@[simp] theorem State.modChan_faults (s : State) (ch : SenseId) (f : SenseChannel → SenseChannel) : (s.modChan ch f).faults = s.faults := rfl
@[simp] theorem State.modChan_tenants (s : State) (ch : SenseId) (f : SenseChannel → SenseChannel) : (s.modChan ch f).tenants = s.tenants := rfl
@[simp] theorem State.modChan_staging (s : State) (ch : SenseId) (f : SenseChannel → SenseChannel) : (s.modChan ch f).staging = s.staging := rfl
@[simp] theorem State.modChan_benches (s : State) (ch : SenseId) (f : SenseChannel → SenseChannel) : (s.modChan ch f).benches = s.benches := rfl
@[simp] theorem State.modChan_pit (s : State) (ch : SenseId) (f : SenseChannel → SenseChannel) : (s.modChan ch f).pit = s.pit := rfl
@[simp] theorem State.modChan_channels (s : State) (ch : SenseId) (f : SenseChannel → SenseChannel) : (s.modChan ch f).channels = s.channels := rfl
@[simp] theorem State.modChan_audio (s : State) (ch : SenseId) (f : SenseChannel → SenseChannel) : (s.modChan ch f).audio = s.audio := rfl
@[simp] theorem State.modChan_ring (s : State) (ch : SenseId) (f : SenseChannel → SenseChannel) : (s.modChan ch f).ring = s.ring := rfl
@[simp] theorem State.modChan_wb (s : State) (ch : SenseId) (f : SenseChannel → SenseChannel) : (s.modChan ch f).wb = s.wb := rfl
@[simp] theorem State.modChan_otp (s : State) (ch : SenseId) (f : SenseChannel → SenseChannel) : (s.modChan ch f).otp = s.otp := rfl
@[simp] theorem State.modChan_tap (s : State) (ch : SenseId) (f : SenseChannel → SenseChannel) : (s.modChan ch f).tap = s.tap := rfl
@[simp] theorem State.modChan_freeIdx (s : State) (ch : SenseId) (f : SenseChannel → SenseChannel) : (s.modChan ch f).freeIdx = s.freeIdx := rfl
@[simp] theorem State.modChan_drawn (s : State) (ch : SenseId) (f : SenseChannel → SenseChannel) : (s.modChan ch f).drawn = s.drawn := rfl
@[simp] theorem State.modChan_posted (s : State) (ch : SenseId) (f : SenseChannel → SenseChannel) : (s.modChan ch f).posted = s.posted := rfl

/-! ### The ring changed leaves the rest of the state -/

@[simp] theorem State.modRing_straps (s : State) (f : Ring → Ring) : (s.modRing f).straps = s.straps := rfl
@[simp] theorem State.modRing_power (s : State) (f : Ring → Ring) : (s.modRing f).power = s.power := rfl
@[simp] theorem State.modRing_clock (s : State) (f : Ring → Ring) : (s.modRing f).clock = s.clock := rfl
@[simp] theorem State.modRing_faults (s : State) (f : Ring → Ring) : (s.modRing f).faults = s.faults := rfl
@[simp] theorem State.modRing_tenants (s : State) (f : Ring → Ring) : (s.modRing f).tenants = s.tenants := rfl
@[simp] theorem State.modRing_staging (s : State) (f : Ring → Ring) : (s.modRing f).staging = s.staging := rfl
@[simp] theorem State.modRing_benches (s : State) (f : Ring → Ring) : (s.modRing f).benches = s.benches := rfl
@[simp] theorem State.modRing_pit (s : State) (f : Ring → Ring) : (s.modRing f).pit = s.pit := rfl
@[simp] theorem State.modRing_channels (s : State) (f : Ring → Ring) : (s.modRing f).channels = s.channels := rfl
@[simp] theorem State.modRing_audio (s : State) (f : Ring → Ring) : (s.modRing f).audio = s.audio := rfl
@[simp] theorem State.modRing_sense (s : State) (f : Ring → Ring) : (s.modRing f).sense = s.sense := rfl
@[simp] theorem State.modRing_wb (s : State) (f : Ring → Ring) : (s.modRing f).wb = s.wb := rfl
@[simp] theorem State.modRing_otp (s : State) (f : Ring → Ring) : (s.modRing f).otp = s.otp := rfl
@[simp] theorem State.modRing_tap (s : State) (f : Ring → Ring) : (s.modRing f).tap = s.tap := rfl
@[simp] theorem State.modRing_freeIdx (s : State) (f : Ring → Ring) : (s.modRing f).freeIdx = s.freeIdx := rfl
@[simp] theorem State.modRing_drawn (s : State) (f : Ring → Ring) : (s.modRing f).drawn = s.drawn := rfl
@[simp] theorem State.modRing_posted (s : State) (f : Ring → Ring) : (s.modRing f).posted = s.posted := rfl

/-! ### A new rule epoch leaves the rest of the state -/

@[simp] theorem State.newEpoch_straps (s : State) : (s.newEpoch).straps = s.straps := rfl
@[simp] theorem State.newEpoch_power (s : State) : (s.newEpoch).power = s.power := rfl
@[simp] theorem State.newEpoch_clock (s : State) : (s.newEpoch).clock = s.clock := rfl
@[simp] theorem State.newEpoch_tenants (s : State) : (s.newEpoch).tenants = s.tenants := rfl
@[simp] theorem State.newEpoch_staging (s : State) : (s.newEpoch).staging = s.staging := rfl
@[simp] theorem State.newEpoch_benches (s : State) : (s.newEpoch).benches = s.benches := rfl
@[simp] theorem State.newEpoch_pit (s : State) : (s.newEpoch).pit = s.pit := rfl
@[simp] theorem State.newEpoch_channels (s : State) : (s.newEpoch).channels = s.channels := rfl
@[simp] theorem State.newEpoch_audio (s : State) : (s.newEpoch).audio = s.audio := rfl
@[simp] theorem State.newEpoch_sense (s : State) : (s.newEpoch).sense = s.sense := rfl
@[simp] theorem State.newEpoch_ring (s : State) : (s.newEpoch).ring = s.ring := rfl
@[simp] theorem State.newEpoch_wb (s : State) : (s.newEpoch).wb = s.wb := rfl
@[simp] theorem State.newEpoch_otp (s : State) : (s.newEpoch).otp = s.otp := rfl
@[simp] theorem State.newEpoch_tap (s : State) : (s.newEpoch).tap = s.tap := rfl
@[simp] theorem State.newEpoch_freeIdx (s : State) : (s.newEpoch).freeIdx = s.freeIdx := rfl
@[simp] theorem State.newEpoch_drawn (s : State) : (s.newEpoch).drawn = s.drawn := rfl
@[simp] theorem State.newEpoch_posted (s : State) : (s.newEpoch).posted = s.posted := rfl

/-! ### A dropped failure leaves the rest of the state -/

@[simp] theorem State.drop_straps (s : State) (t : TenantId) (source : Nat) : (s.drop t source).straps = s.straps := rfl
@[simp] theorem State.drop_power (s : State) (t : TenantId) (source : Nat) : (s.drop t source).power = s.power := rfl
@[simp] theorem State.drop_clock (s : State) (t : TenantId) (source : Nat) : (s.drop t source).clock = s.clock := rfl
@[simp] theorem State.drop_tenants (s : State) (t : TenantId) (source : Nat) : (s.drop t source).tenants = s.tenants := rfl
@[simp] theorem State.drop_staging (s : State) (t : TenantId) (source : Nat) : (s.drop t source).staging = s.staging := rfl
@[simp] theorem State.drop_benches (s : State) (t : TenantId) (source : Nat) : (s.drop t source).benches = s.benches := rfl
@[simp] theorem State.drop_pit (s : State) (t : TenantId) (source : Nat) : (s.drop t source).pit = s.pit := rfl
@[simp] theorem State.drop_channels (s : State) (t : TenantId) (source : Nat) : (s.drop t source).channels = s.channels := rfl
@[simp] theorem State.drop_audio (s : State) (t : TenantId) (source : Nat) : (s.drop t source).audio = s.audio := rfl
@[simp] theorem State.drop_sense (s : State) (t : TenantId) (source : Nat) : (s.drop t source).sense = s.sense := rfl
@[simp] theorem State.drop_ring (s : State) (t : TenantId) (source : Nat) : (s.drop t source).ring = s.ring := rfl
@[simp] theorem State.drop_wb (s : State) (t : TenantId) (source : Nat) : (s.drop t source).wb = s.wb := rfl
@[simp] theorem State.drop_otp (s : State) (t : TenantId) (source : Nat) : (s.drop t source).otp = s.otp := rfl
@[simp] theorem State.drop_tap (s : State) (t : TenantId) (source : Nat) : (s.drop t source).tap = s.tap := rfl
@[simp] theorem State.drop_freeIdx (s : State) (t : TenantId) (source : Nat) : (s.drop t source).freeIdx = s.freeIdx := rfl
@[simp] theorem State.drop_drawn (s : State) (t : TenantId) (source : Nat) : (s.drop t source).drawn = s.drawn := rfl
@[simp] theorem State.drop_posted (s : State) (t : TenantId) (source : Nat) : (s.drop t source).posted = s.posted := rfl

/-! ### What is read after an update -/

@[simp] theorem State.modBench_bench_self (s : State) (b : BenchId) (f : Bench → Bench) :
    (s.modBench b f).bench b = f (s.bench b) := by
  simp [State.modBench, State.bench]

/-- A change of one bench leaves the other benches. -/
theorem State.modBench_bench_of_ne (s : State) {b c : BenchId} (f : Bench → Bench) (h : c ≠ b) :
    (s.modBench b f).bench c = s.bench c := by
  have hv : b.val ≠ c.val := fun e => h (Fin.ext e.symm)
  simp [State.modBench, State.bench, hv]

@[simp] theorem State.modTenant_tenant_self (s : State) (t : TenantId) (f : Tenant → Tenant) :
    (s.modTenant t f).tenant t = f (s.tenant t) := by
  simp [State.modTenant, State.tenant]

/-- A change of one tenant leaves the other tenants. -/
theorem State.modTenant_tenant_of_ne (s : State) {t u : TenantId} (f : Tenant → Tenant) (h : u ≠ t) :
    (s.modTenant t f).tenant u = s.tenant u := by
  have hv : t.val ≠ u.val := fun e => h (Fin.ext e.symm)
  simp [State.modTenant, State.tenant, hv]

@[simp] theorem State.modTenant_bench (s : State) (t : TenantId) (f : Tenant → Tenant) (b : BenchId) :
    (s.modTenant t f).bench b = s.bench b := rfl

@[simp] theorem State.modBench_tenant (s : State) (b : BenchId) (f : Bench → Bench) (t : TenantId) :
    (s.modBench b f).tenant t = s.tenant t := rfl

/-- Two changes of one bench are one change. -/
@[simp] theorem State.modBench_modBench (s : State) (b : BenchId) (f g : Bench → Bench) :
    (s.modBench b f).modBench b g = s.modBench b (fun x => g (f x)) := by
  simp [State.modBench]

/-- Two changes of one tenant are one change. -/
@[simp] theorem State.modTenant_modTenant (s : State) (t : TenantId) (f g : Tenant → Tenant) :
    (s.modTenant t f).modTenant t g = s.modTenant t (fun x => g (f x)) := by
  simp [State.modTenant]

end Sys2Proof.Machine
end

