-- ==== Sys2Proof/Laws/Issue.lean ====
section
/-! SUPPORT. Sys2Proof/Laws/Issue.lean: what the issue of a step comes to. -/
namespace Sys2Proof.Machine

/-- A write put on its way leaves everything of the bench but the writes on their way. -/
theorem Bench.pushAll_eq (x : Bench) (r : Nat) (ws : List PipeTarget) :
    x.pushAll r ws = { x with pipe := (x.pushAll r ws).pipe } := by
  unfold Bench.pushAll
  induction ws generalizing x with
  | nil => rfl
  | cons w ws ih => simp only [List.foldl_cons]; rw [ih]; rfl

/-- A step that is not the bench's next changes nothing. -/
theorem State.issue_off {s : State} {b : BenchId} {op : BitVec 6} {f : StepFields} {act : State → Nat → State}
    (h : s.issues b op f = false) : s.issue b op f act = s := by
  unfold State.issue; rw [if_neg (by simp [h])]

/-- A step issued with a false predicate. -/
theorem State.issue_skip {s : State} {b : BenchId} {op : BitVec 6} {f : StepFields} {act : State → Nat → State}
    (h : s.issues b op f = true) (p : ((s.bench b).settle (s.bench b).seq.position).performs f = false) :
    s.issue b op f act = s.modBench b (fun x =>
      let y := x.settle x.seq.position
      { y with seq := { y.seq with issued := y.seq.issued + 1 } }) := by
  unfold State.issue
  simp only [if_pos h, State.modBench_bench_self, p, if_neg, Bool.false_eq_true, not_false_eq_true, State.modBench_modBench]
  rfl

/-- A step issued whose predicate is true. -/
theorem State.issue_performs {s : State} {b : BenchId} {op : BitVec 6} {f : StepFields} {act : State → Nat → State}
    (h : s.issues b op f = true) (p : ((s.bench b).settle (s.bench b).seq.position).performs f = true) :
    s.issue b op f act =
      (act (s.modBench b (fun x => x.settle (s.bench b).seq.position)) (s.bench b).seq.position).modBench b
        (fun x => { x with seq := { x.seq with issued := x.seq.issued + 1 } }) := by
  unfold State.issue
  simp only [if_pos h, State.modBench_bench_self, p]
  rfl

/-- A step issued whose effect lies in its bench alone and whose predicate is true. -/
theorem State.issueBench_performs {s : State} {b : BenchId} {op : BitVec 6} {f : StepFields}
    {act : Bench → StepFields → Nat → Bench} (h : s.issues b op f = true)
    (p : ((s.bench b).settle (s.bench b).seq.position).performs f = true) :
    s.issueBench b op f act = s.modBench b (fun x =>
      let y := act (x.settle x.seq.position) f x.seq.position
      { y with seq := { y.seq with issued := y.seq.issued + 1 } }) := by
  unfold State.issueBench
  rw [State.issue_performs h p, State.modBench_modBench, State.modBench_modBench]
  rfl

end Sys2Proof.Machine
end

