-- ==== Sys2Proof/Laws/Log.lean ====
section
/-! SUPPORT. Sys2Proof/Laws/Log.lean: an entry logged touches the weighbridge alone; an event raised touches the tenants' events
alone. -/
namespace Sys2Proof.Machine

/-! ### Entries -/

/-- An anchor taken changes the weighbridge alone. -/
theorem State.takeAnchor_eq (s : State) (r : Region) : (s.takeAnchor r).2 = { s with wb := (s.takeAnchor r).2.wb } := by
  unfold State.takeAnchor; split <;> rfl

/-- An era entry taken changes the weighbridge alone. -/
theorem State.takeEra_eq (s : State) : s.takeEra.2 = { s with wb := s.takeEra.2.wb } := by
  unfold State.takeEra; split
  · simp only; rw [State.takeAnchor_eq]
  · rfl

/-- An entry accepted changes the weighbridge alone. -/
theorem State.takeEntry_eq (s : State) (source kind : Byte) (payload : List Byte) :
    (s.takeEntry source kind payload).2 = { s with wb := (s.takeEntry source kind payload).2.wb } := by
  unfold State.takeEntry; simp only
  rw [State.takeEra_eq, State.takeAnchor_eq, State.takeEra_eq]

/-- An entry of the part changes the weighbridge alone. -/
theorem State.logPart_eq (s : State) (kind : Byte) (payload : List Byte) :
    s.logPart kind payload = { s with wb := (s.logPart kind payload).wb } := by
  unfold State.logPart
  split
  · rfl
  · split
    · rfl
    · split
      · rfl
      · simp only; rw [State.takeEntry_eq]

/-- An entry written directly changes the weighbridge alone. -/
theorem State.logDirect_eq (s : State) (kind : Byte) (payload : List Byte) :
    s.logDirect kind payload = { s with wb := (s.logDirect kind payload).wb } := by
  unfold State.logDirect; simp only; rw [State.takeEntry_eq]

/-- An entry of a bench or a host changes the weighbridge alone. -/
theorem State.logWitness_eq (s : State) (source kind : Byte) (payload : List Byte) :
    (s.logWitness source kind payload).2 = { s with wb := (s.logWitness source kind payload).2.wb } := by
  unfold State.logWitness; simp only; rw [State.takeEntry_eq]

@[simp] theorem State.logPart_straps (s : State) (kind : Byte) (payload : List Byte) :
    (s.logPart kind payload).straps = s.straps := by rw [State.logPart_eq]
@[simp] theorem State.logPart_power (s : State) (kind : Byte) (payload : List Byte) :
    (s.logPart kind payload).power = s.power := by rw [State.logPart_eq]
@[simp] theorem State.logPart_clock (s : State) (kind : Byte) (payload : List Byte) :
    (s.logPart kind payload).clock = s.clock := by rw [State.logPart_eq]
@[simp] theorem State.logPart_faults (s : State) (kind : Byte) (payload : List Byte) :
    (s.logPart kind payload).faults = s.faults := by rw [State.logPart_eq]
@[simp] theorem State.logPart_tenants (s : State) (kind : Byte) (payload : List Byte) :
    (s.logPart kind payload).tenants = s.tenants := by rw [State.logPart_eq]
@[simp] theorem State.logPart_staging (s : State) (kind : Byte) (payload : List Byte) :
    (s.logPart kind payload).staging = s.staging := by rw [State.logPart_eq]
@[simp] theorem State.logPart_benches (s : State) (kind : Byte) (payload : List Byte) :
    (s.logPart kind payload).benches = s.benches := by rw [State.logPart_eq]
@[simp] theorem State.logPart_pit (s : State) (kind : Byte) (payload : List Byte) :
    (s.logPart kind payload).pit = s.pit := by rw [State.logPart_eq]
@[simp] theorem State.logPart_channels (s : State) (kind : Byte) (payload : List Byte) :
    (s.logPart kind payload).channels = s.channels := by rw [State.logPart_eq]
@[simp] theorem State.logPart_audio (s : State) (kind : Byte) (payload : List Byte) :
    (s.logPart kind payload).audio = s.audio := by rw [State.logPart_eq]
@[simp] theorem State.logPart_sense (s : State) (kind : Byte) (payload : List Byte) :
    (s.logPart kind payload).sense = s.sense := by rw [State.logPart_eq]
@[simp] theorem State.logPart_ring (s : State) (kind : Byte) (payload : List Byte) :
    (s.logPart kind payload).ring = s.ring := by rw [State.logPart_eq]
@[simp] theorem State.logPart_otp (s : State) (kind : Byte) (payload : List Byte) :
    (s.logPart kind payload).otp = s.otp := by rw [State.logPart_eq]
@[simp] theorem State.logPart_tap (s : State) (kind : Byte) (payload : List Byte) :
    (s.logPart kind payload).tap = s.tap := by rw [State.logPart_eq]
@[simp] theorem State.logPart_freeIdx (s : State) (kind : Byte) (payload : List Byte) :
    (s.logPart kind payload).freeIdx = s.freeIdx := by rw [State.logPart_eq]

@[simp] theorem State.logDirect_straps (s : State) (kind : Byte) (payload : List Byte) :
    (s.logDirect kind payload).straps = s.straps := by rw [State.logDirect_eq]
@[simp] theorem State.logDirect_power (s : State) (kind : Byte) (payload : List Byte) :
    (s.logDirect kind payload).power = s.power := by rw [State.logDirect_eq]
@[simp] theorem State.logDirect_clock (s : State) (kind : Byte) (payload : List Byte) :
    (s.logDirect kind payload).clock = s.clock := by rw [State.logDirect_eq]
@[simp] theorem State.logDirect_faults (s : State) (kind : Byte) (payload : List Byte) :
    (s.logDirect kind payload).faults = s.faults := by rw [State.logDirect_eq]
@[simp] theorem State.logDirect_tenants (s : State) (kind : Byte) (payload : List Byte) :
    (s.logDirect kind payload).tenants = s.tenants := by rw [State.logDirect_eq]
@[simp] theorem State.logDirect_staging (s : State) (kind : Byte) (payload : List Byte) :
    (s.logDirect kind payload).staging = s.staging := by rw [State.logDirect_eq]
@[simp] theorem State.logDirect_benches (s : State) (kind : Byte) (payload : List Byte) :
    (s.logDirect kind payload).benches = s.benches := by rw [State.logDirect_eq]
@[simp] theorem State.logDirect_pit (s : State) (kind : Byte) (payload : List Byte) :
    (s.logDirect kind payload).pit = s.pit := by rw [State.logDirect_eq]
@[simp] theorem State.logDirect_channels (s : State) (kind : Byte) (payload : List Byte) :
    (s.logDirect kind payload).channels = s.channels := by rw [State.logDirect_eq]
@[simp] theorem State.logDirect_audio (s : State) (kind : Byte) (payload : List Byte) :
    (s.logDirect kind payload).audio = s.audio := by rw [State.logDirect_eq]
@[simp] theorem State.logDirect_sense (s : State) (kind : Byte) (payload : List Byte) :
    (s.logDirect kind payload).sense = s.sense := by rw [State.logDirect_eq]
@[simp] theorem State.logDirect_ring (s : State) (kind : Byte) (payload : List Byte) :
    (s.logDirect kind payload).ring = s.ring := by rw [State.logDirect_eq]
@[simp] theorem State.logDirect_otp (s : State) (kind : Byte) (payload : List Byte) :
    (s.logDirect kind payload).otp = s.otp := by rw [State.logDirect_eq]
@[simp] theorem State.logDirect_tap (s : State) (kind : Byte) (payload : List Byte) :
    (s.logDirect kind payload).tap = s.tap := by rw [State.logDirect_eq]
@[simp] theorem State.logDirect_freeIdx (s : State) (kind : Byte) (payload : List Byte) :
    (s.logDirect kind payload).freeIdx = s.freeIdx := by rw [State.logDirect_eq]

@[simp] theorem State.logWitness_straps (s : State) (source kind : Byte) (payload : List Byte) :
    (s.logWitness source kind payload).2.straps = s.straps := by rw [State.logWitness_eq]
@[simp] theorem State.logWitness_power (s : State) (source kind : Byte) (payload : List Byte) :
    (s.logWitness source kind payload).2.power = s.power := by rw [State.logWitness_eq]
@[simp] theorem State.logWitness_clock (s : State) (source kind : Byte) (payload : List Byte) :
    (s.logWitness source kind payload).2.clock = s.clock := by rw [State.logWitness_eq]
@[simp] theorem State.logWitness_faults (s : State) (source kind : Byte) (payload : List Byte) :
    (s.logWitness source kind payload).2.faults = s.faults := by rw [State.logWitness_eq]
@[simp] theorem State.logWitness_tenants (s : State) (source kind : Byte) (payload : List Byte) :
    (s.logWitness source kind payload).2.tenants = s.tenants := by rw [State.logWitness_eq]
@[simp] theorem State.logWitness_staging (s : State) (source kind : Byte) (payload : List Byte) :
    (s.logWitness source kind payload).2.staging = s.staging := by rw [State.logWitness_eq]
@[simp] theorem State.logWitness_benches (s : State) (source kind : Byte) (payload : List Byte) :
    (s.logWitness source kind payload).2.benches = s.benches := by rw [State.logWitness_eq]
@[simp] theorem State.logWitness_pit (s : State) (source kind : Byte) (payload : List Byte) :
    (s.logWitness source kind payload).2.pit = s.pit := by rw [State.logWitness_eq]
@[simp] theorem State.logWitness_channels (s : State) (source kind : Byte) (payload : List Byte) :
    (s.logWitness source kind payload).2.channels = s.channels := by rw [State.logWitness_eq]
@[simp] theorem State.logWitness_audio (s : State) (source kind : Byte) (payload : List Byte) :
    (s.logWitness source kind payload).2.audio = s.audio := by rw [State.logWitness_eq]
@[simp] theorem State.logWitness_sense (s : State) (source kind : Byte) (payload : List Byte) :
    (s.logWitness source kind payload).2.sense = s.sense := by rw [State.logWitness_eq]
@[simp] theorem State.logWitness_ring (s : State) (source kind : Byte) (payload : List Byte) :
    (s.logWitness source kind payload).2.ring = s.ring := by rw [State.logWitness_eq]
@[simp] theorem State.logWitness_otp (s : State) (source kind : Byte) (payload : List Byte) :
    (s.logWitness source kind payload).2.otp = s.otp := by rw [State.logWitness_eq]
@[simp] theorem State.logWitness_tap (s : State) (source kind : Byte) (payload : List Byte) :
    (s.logWitness source kind payload).2.tap = s.tap := by rw [State.logWitness_eq]
@[simp] theorem State.logWitness_freeIdx (s : State) (source kind : Byte) (payload : List Byte) :
    (s.logWitness source kind payload).2.freeIdx = s.freeIdx := by rw [State.logWitness_eq]

/-! ### Events -/

/-- Raising an event changes the tenants alone. -/
theorem State.raise_eq (s : State) (t : TenantId) (bit : Nat) : s.raise t bit = { s with tenants := (s.raise t bit).tenants } := by
  unfold State.raise; split <;> rfl

theorem State.foldl_raise_eq (bit : Nat) (l : List TenantId) (s : State) :
    l.foldl (fun s t => s.raise t bit) s = { s with tenants := (l.foldl (fun s t => s.raise t bit) s).tenants } := by
  induction l generalizing s with
  | nil => rfl
  | cons t l ih => simp only [List.foldl_cons]; rw [ih, State.raise_eq]

/-- Raising an event for every tenant changes the tenants alone. -/
theorem State.raiseAll_eq (s : State) (bit : Nat) : s.raiseAll bit = { s with tenants := (s.raiseAll bit).tenants } :=
  State.foldl_raise_eq bit _ s

/-- Raising an event for a bench's owner changes the tenants alone. -/
theorem State.raiseOwner_eq (s : State) (b : BenchId) (bit : Nat) :
    s.raiseOwner b bit = { s with tenants := (s.raiseOwner b bit).tenants } := by
  unfold State.raiseOwner; split
  · exact State.raise_eq _ _ _
  · rfl

@[simp] theorem State.raise_straps (s : State) (t : TenantId) (bit : Nat) : (s.raise t bit).straps = s.straps := by rw [State.raise_eq]
@[simp] theorem State.raise_power (s : State) (t : TenantId) (bit : Nat) : (s.raise t bit).power = s.power := by rw [State.raise_eq]
@[simp] theorem State.raise_clock (s : State) (t : TenantId) (bit : Nat) : (s.raise t bit).clock = s.clock := by rw [State.raise_eq]
@[simp] theorem State.raise_faults (s : State) (t : TenantId) (bit : Nat) : (s.raise t bit).faults = s.faults := by rw [State.raise_eq]
@[simp] theorem State.raise_staging (s : State) (t : TenantId) (bit : Nat) : (s.raise t bit).staging = s.staging := by rw [State.raise_eq]
@[simp] theorem State.raise_benches (s : State) (t : TenantId) (bit : Nat) : (s.raise t bit).benches = s.benches := by rw [State.raise_eq]
@[simp] theorem State.raise_pit (s : State) (t : TenantId) (bit : Nat) : (s.raise t bit).pit = s.pit := by rw [State.raise_eq]
@[simp] theorem State.raise_channels (s : State) (t : TenantId) (bit : Nat) : (s.raise t bit).channels = s.channels := by rw [State.raise_eq]
@[simp] theorem State.raise_audio (s : State) (t : TenantId) (bit : Nat) : (s.raise t bit).audio = s.audio := by rw [State.raise_eq]
@[simp] theorem State.raise_sense (s : State) (t : TenantId) (bit : Nat) : (s.raise t bit).sense = s.sense := by rw [State.raise_eq]
@[simp] theorem State.raise_ring (s : State) (t : TenantId) (bit : Nat) : (s.raise t bit).ring = s.ring := by rw [State.raise_eq]
@[simp] theorem State.raise_wb (s : State) (t : TenantId) (bit : Nat) : (s.raise t bit).wb = s.wb := by rw [State.raise_eq]
@[simp] theorem State.raise_otp (s : State) (t : TenantId) (bit : Nat) : (s.raise t bit).otp = s.otp := by rw [State.raise_eq]
@[simp] theorem State.raise_tap (s : State) (t : TenantId) (bit : Nat) : (s.raise t bit).tap = s.tap := by rw [State.raise_eq]
@[simp] theorem State.raise_freeIdx (s : State) (t : TenantId) (bit : Nat) : (s.raise t bit).freeIdx = s.freeIdx := by rw [State.raise_eq]

@[simp] theorem State.raiseAll_straps (s : State) (bit : Nat) : (s.raiseAll bit).straps = s.straps := by rw [State.raiseAll_eq]
@[simp] theorem State.raiseAll_power (s : State) (bit : Nat) : (s.raiseAll bit).power = s.power := by rw [State.raiseAll_eq]
@[simp] theorem State.raiseAll_clock (s : State) (bit : Nat) : (s.raiseAll bit).clock = s.clock := by rw [State.raiseAll_eq]
@[simp] theorem State.raiseAll_faults (s : State) (bit : Nat) : (s.raiseAll bit).faults = s.faults := by rw [State.raiseAll_eq]
@[simp] theorem State.raiseAll_staging (s : State) (bit : Nat) : (s.raiseAll bit).staging = s.staging := by rw [State.raiseAll_eq]
@[simp] theorem State.raiseAll_benches (s : State) (bit : Nat) : (s.raiseAll bit).benches = s.benches := by rw [State.raiseAll_eq]
@[simp] theorem State.raiseAll_pit (s : State) (bit : Nat) : (s.raiseAll bit).pit = s.pit := by rw [State.raiseAll_eq]
@[simp] theorem State.raiseAll_channels (s : State) (bit : Nat) : (s.raiseAll bit).channels = s.channels := by rw [State.raiseAll_eq]
@[simp] theorem State.raiseAll_audio (s : State) (bit : Nat) : (s.raiseAll bit).audio = s.audio := by rw [State.raiseAll_eq]
@[simp] theorem State.raiseAll_sense (s : State) (bit : Nat) : (s.raiseAll bit).sense = s.sense := by rw [State.raiseAll_eq]
@[simp] theorem State.raiseAll_ring (s : State) (bit : Nat) : (s.raiseAll bit).ring = s.ring := by rw [State.raiseAll_eq]
@[simp] theorem State.raiseAll_wb (s : State) (bit : Nat) : (s.raiseAll bit).wb = s.wb := by rw [State.raiseAll_eq]
@[simp] theorem State.raiseAll_otp (s : State) (bit : Nat) : (s.raiseAll bit).otp = s.otp := by rw [State.raiseAll_eq]
@[simp] theorem State.raiseAll_tap (s : State) (bit : Nat) : (s.raiseAll bit).tap = s.tap := by rw [State.raiseAll_eq]
@[simp] theorem State.raiseAll_freeIdx (s : State) (bit : Nat) : (s.raiseAll bit).freeIdx = s.freeIdx := by rw [State.raiseAll_eq]

@[simp] theorem State.raiseOwner_straps (s : State) (b : BenchId) (bit : Nat) : (s.raiseOwner b bit).straps = s.straps := by rw [State.raiseOwner_eq]
@[simp] theorem State.raiseOwner_power (s : State) (b : BenchId) (bit : Nat) : (s.raiseOwner b bit).power = s.power := by rw [State.raiseOwner_eq]
@[simp] theorem State.raiseOwner_clock (s : State) (b : BenchId) (bit : Nat) : (s.raiseOwner b bit).clock = s.clock := by rw [State.raiseOwner_eq]
@[simp] theorem State.raiseOwner_faults (s : State) (b : BenchId) (bit : Nat) : (s.raiseOwner b bit).faults = s.faults := by rw [State.raiseOwner_eq]
@[simp] theorem State.raiseOwner_staging (s : State) (b : BenchId) (bit : Nat) : (s.raiseOwner b bit).staging = s.staging := by rw [State.raiseOwner_eq]
@[simp] theorem State.raiseOwner_benches (s : State) (b : BenchId) (bit : Nat) : (s.raiseOwner b bit).benches = s.benches := by rw [State.raiseOwner_eq]
@[simp] theorem State.raiseOwner_pit (s : State) (b : BenchId) (bit : Nat) : (s.raiseOwner b bit).pit = s.pit := by rw [State.raiseOwner_eq]
@[simp] theorem State.raiseOwner_channels (s : State) (b : BenchId) (bit : Nat) : (s.raiseOwner b bit).channels = s.channels := by rw [State.raiseOwner_eq]
@[simp] theorem State.raiseOwner_audio (s : State) (b : BenchId) (bit : Nat) : (s.raiseOwner b bit).audio = s.audio := by rw [State.raiseOwner_eq]
@[simp] theorem State.raiseOwner_sense (s : State) (b : BenchId) (bit : Nat) : (s.raiseOwner b bit).sense = s.sense := by rw [State.raiseOwner_eq]
@[simp] theorem State.raiseOwner_ring (s : State) (b : BenchId) (bit : Nat) : (s.raiseOwner b bit).ring = s.ring := by rw [State.raiseOwner_eq]
@[simp] theorem State.raiseOwner_wb (s : State) (b : BenchId) (bit : Nat) : (s.raiseOwner b bit).wb = s.wb := by rw [State.raiseOwner_eq]
@[simp] theorem State.raiseOwner_otp (s : State) (b : BenchId) (bit : Nat) : (s.raiseOwner b bit).otp = s.otp := by rw [State.raiseOwner_eq]
@[simp] theorem State.raiseOwner_tap (s : State) (b : BenchId) (bit : Nat) : (s.raiseOwner b bit).tap = s.tap := by rw [State.raiseOwner_eq]
@[simp] theorem State.raiseOwner_freeIdx (s : State) (b : BenchId) (bit : Nat) : (s.raiseOwner b bit).freeIdx = s.freeIdx := by rw [State.raiseOwner_eq]

/-- What one tenant is after an event is raised for a tenant (R309). -/
theorem State.raise_tenant (s : State) (t u : TenantId) (bit : Nat) :
    (s.raise t bit).tenant u =
      if u = t ∧ s.present t = true ∧ (s.tenant t).held = false then
        { s.tenant u with events := (s.tenant u).events ||| (1#32 <<< bit) }
      else s.tenant u := by
  unfold State.raise
  split
  · next h =>
    by_cases e : u = t
    · subst e; simp [h]
    · rw [State.modTenant_tenant_of_ne _ _ e, if_neg (by simp [e])]
  · next h => rw [if_neg (fun x => h x.2)]

/-- An event raised leaves who is present. -/
@[simp] theorem State.raise_present (s : State) (t u : TenantId) (bit : Nat) : (s.raise t bit).present u = s.present u := by
  rw [State.raise_eq]; rfl

theorem State.foldl_raise_tenant (bit : Nat) (l : List TenantId) (s : State) (u : TenantId) :
    (l.foldl (fun s t => s.raise t bit) s).tenant u =
      if u ∈ l ∧ s.present u = true ∧ (s.tenant u).held = false then
        { s.tenant u with events := (s.tenant u).events ||| (1#32 <<< bit) }
      else s.tenant u := by
  induction l generalizing s with
  | nil => simp
  | cons t l ih =>
    rw [List.foldl_cons, ih, State.raise_tenant, State.raise_present]
    by_cases e : u = t
    · subst e
      by_cases h : s.present u = true ∧ (s.tenant u).held = false
      · by_cases m : u ∈ l <;> simp [h, m, BitVec.or_assoc]
      · simp only [true_and, if_neg h, List.mem_cons, true_or]; rw [if_neg (fun x => h x.2)]
    · simp [e]

/-- What one tenant is after an event is raised for every tenant (R310). -/
theorem State.raiseAll_tenant (s : State) (bit : Nat) (u : TenantId) :
    (s.raiseAll bit).tenant u =
      if s.present u = true ∧ (s.tenant u).held = false then
        { s.tenant u with events := (s.tenant u).events ||| (1#32 <<< bit) }
      else s.tenant u := by
  unfold State.raiseAll
  rw [State.foldl_raise_tenant]
  simp [List.mem_finRange]

end Sys2Proof.Machine
end

