-- ==== Sys2Proof/Laws/Queue.lean ====
section
/-! SUPPORT. Sys2Proof/Laws/Queue.lean: no operation of the state touches the queue of waiting commands; one lemma for each operation. -/
namespace Sys2Proof.Machine

@[simp] theorem ite_pending (c : Prop) [Decidable c] (a b : State) :
    (if c then a else b).pending = if c then a.pending else b.pending := by split <;> rfl

@[simp] theorem ite_snd_pending {α : Type} (c : Prop) [Decidable c] (a b : α × State) :
    (if c then a else b).2.pending = if c then a.2.pending else b.2.pending := by split <;> rfl

@[simp] theorem ite_next_pending (c : Prop) [Decidable c] (a b : Verdict) :
    (if c then a else b).next.pending = if c then a.next.pending else b.next.pending := by split <;> rfl

@[simp] theorem foldl_pending {α : Type} (g : State → α → State) (h : ∀ u a, (g u a).pending = u.pending) (l : List α) (s : State) :
    (l.foldl g s).pending = s.pending := by
  induction l generalizing s with
  | nil => rfl
  | cons a l ih => simp only [List.foldl_cons]; rw [ih, h]

@[simp] theorem foldl_snd_pending {α β : Type} (g : β × State → α → β × State) (h : ∀ u a, (g u a).2.pending = u.2.pending)
    (l : List α) (s : β × State) : (l.foldl g s).2.pending = s.2.pending := by
  induction l generalizing s with
  | nil => rfl
  | cons a l ih => simp only [List.foldl_cons]; rw [ih, h]

theorem State.nextMessage_pending {s u : State} {n : MessageSlot} {m : SentMessage} (h : s.nextMessage = some (n, m, u)) :
    u.pending = s.pending := by
  unfold State.nextMessage at h
  split at h
  · cases h; rfl
  · split at h <;> cases h; rfl

/-! ### Ops -/

@[simp] theorem State.modTenant_pending (s : State) (t : TenantId) (f : Tenant → Tenant) :
    (State.modTenant s t f).pending = s.pending := by simp [State.modTenant]

@[simp] theorem State.modPort_pending (s : State) (t : TenantId) (f : Port → Port) :
    (State.modPort s t f).pending = s.pending := by simp [State.modPort]

@[simp] theorem State.modBench_pending (s : State) (b : BenchId) (f : Bench → Bench) :
    (State.modBench s b f).pending = s.pending := by simp [State.modBench]

@[simp] theorem State.raise_pending (s : State) (t : TenantId) (bit : Nat) :
    (State.raise s t bit).pending = s.pending := by simp [State.raise]

@[simp] theorem State.raiseAll_pending (s : State) (bit : Nat) :
    (State.raiseAll s bit).pending = s.pending := by simp [State.raiseAll]

@[simp] theorem State.raiseOwner_pending (s : State) (b : BenchId) (bit : Nat) :
    (State.raiseOwner s b bit).pending = s.pending := by unfold State.raiseOwner; split <;> simp

@[simp] theorem State.drop_pending (s : State) (t : TenantId) (source : Nat) :
    (State.drop s t source).pending = s.pending := by simp [State.drop]

@[simp] theorem State.newEpoch_pending (s : State) :
    (State.newEpoch s).pending = s.pending := by simp [State.newEpoch]

@[simp] theorem State.takeFree_pending (s : State) :
    (State.takeFree s).2.pending = s.pending := by simp [State.takeFree]

@[simp] theorem State.recognise_pending (s : State) (ns never sure : Nat) :
    (State.recognise s ns never sure).2.pending = s.pending := by simp [State.recognise]

@[simp] theorem State.modChannel_pending (s : State) (id : Nat) (f : Channel → Channel) :
    (State.modChannel s id f).pending = s.pending := by simp [State.modChannel]

/-! ### Audio -/

@[simp] theorem State.modSap_pending (s : State) (p : SapId) (f : AudioPort → AudioPort) :
    (State.modSap s p f).pending = s.pending := by simp [State.modSap]

@[simp] theorem State.portEvents_pending (s : State) (t : TenantId) (slip : Option Slip) (faded : Bool) :
    (State.portEvents s t slip faded).pending = s.pending := by unfold State.portEvents; split <;> simp

@[simp] theorem State.sapStrobe_pending (s : State) (frame : Nat) (frames : Vector (List Word) 8) (p : SapId) :
    (State.sapStrobe s frame frames p).pending = s.pending := by unfold State.sapStrobe; split <;> simp

@[simp] theorem State.audioStrobe_pending (s : State) (frame : Nat) (frames : Vector (List Word) 8) :
    (State.audioStrobe s frame frames).pending = s.pending := by simp [State.audioStrobe]

@[simp] theorem State.publishSap_pending (s : State) (b : BenchId) (outputs : List (Nat × Word)) (p : SapId) :
    (State.publishSap s b outputs p).pending = s.pending := by unfold State.publishSap; split <;> simp

@[simp] theorem State.publishAudio_pending (s : State) (b : BenchId) (outputs : List (Nat × Word)) :
    (State.publishAudio s b outputs).pending = s.pending := by simp [State.publishAudio]

@[simp] theorem State.followerFrameComplete_pending (s : State) (p : SapId) (bits : Nat) (samples : List Word) (cycle : Nat) :
    (State.followerFrameComplete s p bits samples cycle).pending = s.pending := by unfold State.followerFrameComplete; split <;> simp

@[simp] theorem State.loadOne_pending (s : State) (p : SapId) (now q : Nat) (lead : Bool) (slip : Option Slip) :
    (State.loadOne s p now q lead slip).pending = s.pending := by unfold State.loadOne; split <;> simp

@[simp] theorem State.followLead_pending (s : State) (m : SapId) (now q : Nat) (slip : Option Slip) :
    (State.followLead s m now q slip).pending = s.pending := by simp [State.followLead]

@[simp] theorem State.followerCapture_pending (s : State) (p : SapId) :
    (State.followerCapture s p).pending = s.pending := by simp [State.followerCapture]

@[simp] theorem State.followerOutputLoad_pending (s : State) (p : SapId) (cycle : Nat) :
    (State.followerOutputLoad s p cycle).pending = s.pending := by simp [State.followerOutputLoad]

@[simp] theorem State.startPorts_pending (s : State) (f : Nat) :
    (State.startPorts s f).pending = s.pending := by simp [State.startPorts]

@[simp] theorem State.dropStarts_pending (s : State) :
    (State.dropStarts s).pending = s.pending := by simp [State.dropStarts]

@[simp] theorem State.masterPortStart_pending (s : State) (p : SapId) :
    (State.masterPortStart s p).pending = s.pending := by simp [State.masterPortStart]

@[simp] theorem State.nameSap_pending (s : State) (t : TenantId) (p : SapId) (e : Option PortEntry) :
    (State.nameSap s t p e).pending = s.pending := by unfold State.nameSap; split <;> simp

@[simp] theorem State.stopAudio_pending (s : State) :
    (State.stopAudio s).pending = s.pending := by simp [State.stopAudio]

@[simp] theorem State.gapAudio_pending (s : State) :
    (State.gapAudio s).pending = s.pending := by simp [State.gapAudio]

/-! ### Glide -/

@[simp] theorem State.requestCommit_pending (s : State) (t : TenantId) (mask : Byte) (crcs : Option (List Word)) :
    (State.requestCommit s t mask crcs).2.pending = s.pending := by simp [State.requestCommit]

@[simp] theorem State.stageCoefs_pending (s : State) (t : TenantId) (b : BenchId) (first : Nat) (words : List Word) :
    (State.stageCoefs s t b first words).2.pending = s.pending := by simp [State.stageCoefs]

@[simp] theorem State.commitFlip_pending (s : State) (t : TenantId) :
    (State.commitFlip s t).pending = s.pending := by simp [State.commitFlip]

@[simp] theorem State.commitDone_pending (s : State) (t : TenantId) :
    (State.commitDone s t).pending = s.pending := by simp [State.commitDone]

/-! ### Issue -/

@[simp] theorem State.issue_pending (s : State) (b : BenchId) (op : BitVec 6) (f : StepFields) (act : State → Nat → State) (h : ∀ u r, (act u r).pending = u.pending) :
    (State.issue s b op f act).pending = s.pending := by simp [State.issue, h]

@[simp] theorem State.issueBench_pending (s : State) (b : BenchId) (op : BitVec 6) (f : StepFields) (act : Bench → StepFields → Nat → Bench) :
    (State.issueBench s b op f act).pending = s.pending := by simp [State.issueBench]

/-! ### Log -/

@[simp] theorem State.takeAnchor_pending (s : State) (r : Region) :
    (State.takeAnchor s r).2.pending = s.pending := by simp [State.takeAnchor]

@[simp] theorem State.takeEra_pending (s : State) :
    (State.takeEra s).2.pending = s.pending := by simp [State.takeEra]

@[simp] theorem State.takeEntry_pending (s : State) (source kind : Byte) (payload : List Byte) :
    (State.takeEntry s source kind payload).2.pending = s.pending := by simp [State.takeEntry]

@[simp] theorem State.logDirect_pending (s : State) (kind : Byte) (payload : List Byte) :
    (State.logDirect s kind payload).pending = s.pending := by simp [State.logDirect]

@[simp] theorem State.logPart_pending (s : State) (kind : Byte) (payload : List Byte) :
    (State.logPart s kind payload).pending = s.pending := by simp [State.logPart]

@[simp] theorem State.logWitness_pending (s : State) (source kind : Byte) (payload : List Byte) :
    (State.logWitness s source kind payload).2.pending = s.pending := by simp [State.logWitness]

@[simp] theorem State.appendEntry_pending (s : State) (t : TenantId) (witness : Bool) (source kind : Byte) (payload : List Byte) :
    (State.appendEntry s t witness source kind payload).2.2.pending = s.pending := by unfold State.appendEntry; (repeat' split) <;> simp

@[simp] theorem State.commitNext_pending (s : State) :
    (State.commitNext s).pending = s.pending := by unfold State.commitNext; (repeat' split) <;> simp

@[simp] theorem State.budgetSecondEnd_pending (s : State) :
    (State.budgetSecondEnd s).pending = s.pending := by unfold State.budgetSecondEnd; split <;> simp

/-! ### Sense -/

@[simp] theorem State.modChan_pending (s : State) (ch : SenseId) (f : SenseChannel → SenseChannel) :
    (State.modChan s ch f).pending = s.pending := by simp [State.modChan]

@[simp] theorem State.writeDiag_pending (s : State) (c : DiagChange) :
    (State.writeDiag s c).pending = s.pending := by simp [State.writeDiag]

@[simp] theorem State.amendDiag_pending (s : State) (c : DiagChange) :
    (State.amendDiag s c).pending = s.pending := by simp [State.amendDiag]

@[simp] theorem State.recordDiags_pending (s : State) (cs : List DiagChange) :
    (State.recordDiags s cs).pending = s.pending := by unfold State.recordDiags; split <;> simp

@[simp] theorem State.recordDiag_pending (s : State) (c : DiagChange) :
    (State.recordDiag s c).pending = s.pending := by simp [State.recordDiag]

@[simp] theorem State.diagHeldDue_pending (s : State) :
    (State.diagHeldDue s).pending = s.pending := by unfold State.diagHeldDue; split <;> simp

@[simp] theorem State.raiseChan_pending (s : State) (ch : SenseId) (bit : Nat) :
    (State.raiseChan s ch bit).pending = s.pending := by unfold State.raiseChan; split <;> simp

@[simp] theorem State.trip_pending (s : State) (ch : SenseId) (how mv ua : Nat) :
    (State.trip s ch how mv ua).pending = s.pending := by simp [State.trip]

@[simp] theorem State.limiterTrip_pending (s : State) (ch : SenseId) (ua1 ua2 mv : Nat) :
    (State.limiterTrip s ch ua1 ua2 mv).pending = s.pending := by simp [State.limiterTrip]

@[simp] theorem State.meterWindowEnd_pending (s : State) (ch : SenseId) (nj mv ua : Nat) :
    (State.meterWindowEnd s ch nj mv ua).pending = s.pending := by simp [State.meterWindowEnd]

@[simp] theorem State.tripRetry_pending (s : State) (ch : SenseId) (ms : Nat) :
    (State.tripRetry s ch ms).pending = s.pending := by simp [State.tripRetry]

@[simp] theorem State.allExcOff_pending (s : State) :
    (State.allExcOff s).pending = s.pending := by simp [State.allExcOff]

@[simp] theorem State.removeExcitation_pending (s : State) :
    (State.removeExcitation s).pending = s.pending := by simp [State.removeExcitation]

@[simp] theorem State.excOff_pending (s : State) (mv us : Nat) :
    (State.excOff s mv us).pending = s.pending := by simp [State.excOff]

@[simp] theorem State.excRestore_pending (s : State) (mvLow mvHigh ms : Nat) :
    (State.excRestore s mvLow mvHigh ms).pending = s.pending := by simp [State.excRestore]

@[simp] theorem State.diagDeclare_pending (s : State) (ch : SenseId) (mv ua : Int) (ms : Nat) :
    (State.diagDeclare s ch mv ua ms).pending = s.pending := by unfold State.diagDeclare; split <;> simp

@[simp] theorem State.diagClear_pending (s : State) (ch : SenseId) (mv ua : Int) (ms : Nat) :
    (State.diagClear s ch mv ua ms).pending = s.pending := by unfold State.diagClear; split <;> simp

@[simp] theorem State.settleComplete_pending (s : State) (ch : SenseId) :
    (State.settleComplete s ch).pending = s.pending := by unfold State.settleComplete; split <;> simp

@[simp] theorem State.pulseEdge_pending (s : State) (ch : SenseId) (mv : Int) (ts persistNs window : Nat) :
    (State.pulseEdge s ch mv ts persistNs window).pending = s.pending := by unfold State.pulseEdge; (repeat' split) <;> simp

@[simp] theorem State.pulseFaultDeclare_pending (s : State) (ch : SenseId) (reason measure : Nat) (mv : Int) :
    (State.pulseFaultDeclare s ch reason measure mv).pending = s.pending := by unfold State.pulseFaultDeclare; split <;> simp

@[simp] theorem State.pulseFaultClear_pending (s : State) (ch : SenseId) (mv : Int) (ms : Nat) :
    (State.pulseFaultClear s ch mv ms).pending = s.pending := by simp [State.pulseFaultClear]

@[simp] theorem State.reconfigure_pending (s : State) (t : TenantId) (decl : SenseId → Option SenseDecl) (cal : SenseId → Option CalDecl) (mv : SenseId → Int) :
    (State.reconfigure s t decl cal mv).pending = s.pending := by simp [State.reconfigure]

/-! ### Benches -/

@[simp] theorem State.setBenchState_pending (s : State) (b : BenchId) (st : BenchState) :
    (State.setBenchState s b st).pending = s.pending := by simp [State.setBenchState]

@[simp] theorem State.modCells_pending (s : State) (cs : List Nat) (f : OwnCell → OwnCell) :
    (State.modCells s cs f).pending = s.pending := by simp [State.modCells]

@[simp] theorem State.stopBench_pending (s : State) (b : BenchId) (st : BenchState) :
    (State.stopBench s b st).pending = s.pending := by simp [State.stopBench]

@[simp] theorem State.judgeBench_pending (s : State) (b : BenchId) :
    (State.judgeBench s b).pending = s.pending := by simp [State.judgeBench]

@[simp] theorem State.judgeReleases_pending (s : State) :
    (State.judgeReleases s).pending = s.pending := by simp [State.judgeReleases]

@[simp] theorem State.armBench_pending (s : State) (b : BenchId) :
    (State.armBench s b).pending = s.pending := by simp [State.armBench]

@[simp] theorem State.beginPeriod_pending (s : State) (b : BenchId) (first : Bool) (vector before : Nat) :
    (State.beginPeriod s b first vector before).pending = s.pending := by simp [State.beginPeriod]

@[simp] theorem State.benchRelease_pending (s : State) (b : BenchId) :
    (State.benchRelease s b).pending = s.pending := by simp [State.benchRelease]

@[simp] theorem State.requestPlan_pending (s : State) (b : BenchId) (p : Option (BitVec 3)) :
    (State.requestPlan s b p).pending = s.pending := by unfold State.requestPlan; (repeat' split) <;> simp

@[simp] theorem State.publish_pending (s : State) (b : BenchId) :
    (State.publish s b).pending = s.pending := by simp [State.publish]

@[simp] theorem State.benchPeriodEnd_pending (s : State) (b : BenchId) :
    (State.benchPeriodEnd s b).pending = s.pending := by simp [State.benchPeriodEnd]

@[simp] theorem State.loadPlan_pending (s : State) (w : Word) :
    (State.loadPlan s w).pending = s.pending := by simp [State.loadPlan]

@[simp] theorem State.planSwitch_pending (s : State) :
    (State.planSwitch s).pending = s.pending := by unfold State.planSwitch; split <;> simp

@[simp] theorem State.cancelPlan_pending (s : State) (t : TenantId) :
    (State.cancelPlan s t).pending = s.pending := by simp [State.cancelPlan]

@[simp] theorem State.droops_pending (s : State) (mv : Nat) :
    (State.droops s mv).2.pending = s.pending := by simp [State.droops]

@[simp] theorem State.stretchCycle_pending (s : State) (b : BenchId) (mv cycle : Nat) :
    (State.stretchCycle s b mv cycle).pending = s.pending := by simp [State.stretchCycle]

@[simp] theorem State.takeStart_pending (s : State) :
    (State.takeStart s).pending = s.pending := by simp [State.takeStart]

@[simp] theorem State.startEdge_pending (s : State) (before : PinInput) (lowNs : Nat) (after : PinInput) (highNs : Nat) :
    (State.startEdge s before lowNs after highNs).pending = s.pending := by simp [State.startEdge]

/-! ### Straps -/

@[simp] theorem State.decodeStraps_pending (s : State) (r : StrapReadings) :
    (State.decodeStraps s r).pending = s.pending := by simp [State.decodeStraps]

@[simp] theorem State.strapPhaseEnd_pending (s : State) (r : StrapReadings) :
    (State.strapPhaseEnd s r).pending = s.pending := by simp [State.strapPhaseEnd]

@[simp] theorem State.provNObserve_pending (s : State) (mv vddIo : Nat) :
    (State.provNObserve s mv vddIo).pending = s.pending := by simp [State.provNObserve]

/-! ### Weighbridge -/

@[simp] theorem State.serviceStart_pending (s : State) (bad : List (Fin 4096 × Vector Byte 64)) :
    (State.serviceStart s bad).pending = s.pending := by unfold State.serviceStart; (repeat' split) <;> simp

@[simp] theorem State.completeTag_pending (s : State) (t : TenantId) (tag : Nat) (data : List Word) (code : Byte) (marks : SeqPair × SeqPair) :
    (State.completeTag s t tag data code marks).pending = s.pending := by simp [State.completeTag]

@[simp] theorem State.sign_pending (s : State) (words : List Word) :
    (State.sign s words).2.pending = s.pending := by simp [State.sign]

@[simp] theorem State.programSlot_pending (s : State) (t : TenantId) (i : Nat) (hash : List Word) :
    (State.programSlot s t i hash).2.pending = s.pending := by simp [State.programSlot]

@[simp] theorem State.programFloor_pending (s : State) (t : TenantId) (i : TenantId) (v : Word) :
    (State.programFloor s t i v).pending = s.pending := by simp [State.programFloor]

@[simp] theorem State.requestDone_pending (s : State) (selftest : BitVec 4) (us : Word) :
    (State.requestDone s selftest us).pending = s.pending := by unfold State.requestDone; (repeat' split) <;> simp

@[simp] theorem State.request_pending (s : State) (t : TenantId) (tag : Nat) (op : TagOp) (q : WbRequest) :
    (State.request s t tag op q).pending = s.pending := by simp [State.request]

@[simp] theorem State.retireRequests_pending (s : State) (t : TenantId) :
    (State.retireRequests s t).pending = s.pending := by simp [State.retireRequests]

@[simp] theorem State.raiseMarks_pending (s : State) (m : SeqPair × SeqPair) :
    (State.raiseMarks s m).pending = s.pending := by simp [State.raiseMarks]

@[simp] theorem State.lockOtp_pending (s : State) (t : TenantId) :
    (State.lockOtp s t).pending = s.pending := by simp [State.lockOtp]

@[simp] theorem State.poisonWeighbridge_pending (s : State) (cut : CommitCut) :
    (State.poisonWeighbridge s cut).pending = s.pending := by simp [State.poisonWeighbridge]

/-! ### Power -/

@[simp] theorem State.logSupply_pending (s : State) (i mv : Nat) :
    (State.logSupply s i mv).pending = s.pending := by simp [State.logSupply]

@[simp] theorem State.supplyWarning_pending (s : State) (i mv ns : Nat) :
    (State.supplyWarning s i mv ns).pending = s.pending := by simp [State.supplyWarning]

@[simp] theorem State.vexcOvervoltage_pending (s : State) (mv : Nat) :
    (State.vexcOvervoltage s mv).pending = s.pending := by simp [State.vexcOvervoltage]

@[simp] theorem State.vexcReconnect_pending (s : State) (mv ms : Nat) :
    (State.vexcReconnect s mv ms).pending = s.pending := by simp [State.vexcReconnect]

@[simp] theorem State.fullReset_pending (s : State) (supply pin : Bool) (cut : CommitCut) :
    (State.fullReset s supply pin cut).pending = s.pending := by simp [State.fullReset]

@[simp] theorem State.supplyReset_pending (s : State) (i mv ns : Nat) (cut : CommitCut) :
    (State.supplyReset s i mv ns cut).pending = s.pending := by simp [State.supplyReset]

@[simp] theorem State.resetNLow_pending (s : State) (pin : PinInput) (ns : Nat) (cut : CommitCut) :
    (State.resetNLow s pin ns cut).pending = s.pending := by simp [State.resetNLow]

@[simp] theorem State.porExit_pending (s : State) (mv : Vector Nat 8) (resetN : Option Nat) (heldUs tapUs : Nat) (trstN : Vector (Option Nat) 4) :
    (State.porExit s mv resetN heldUs tapUs trstN).pending = s.pending := by simp [State.porExit]

@[simp] theorem State.startUnitFault_pending (s : State) :
    (State.startUnitFault s).pending = s.pending := by simp [State.startUnitFault]

@[simp] theorem State.faultNPattern_pending (s : State) :
    (State.faultNPattern s).pending = s.pending := by unfold State.faultNPattern; split <;> simp

@[simp] theorem State.heldThermal_pending (s : State) :
    (State.heldThermal s).pending = s.pending := by simp [State.heldThermal]

@[simp] theorem State.raiseThermal_pending (s : State) (celsius : Int) :
    (State.raiseThermal s celsius).pending = s.pending := by simp [State.raiseThermal]

@[simp] theorem State.thermalReading_pending (s : State) (celsius : Int) :
    (State.thermalReading s celsius).pending = s.pending := by simp [State.thermalReading]

@[simp] theorem State.openLog_pending (s : State) (n : Nv) (p g : Nat × List Byte) :
    (State.openLog s n p g).pending = s.pending := by simp [State.openLog]

@[simp] theorem State.logIf_pending (s : State) (c : Bool) (kind : Byte) (payload : List Byte) :
    (State.logIf s c kind payload).pending = s.pending := by simp [State.logIf]

@[simp] theorem State.takeReference_pending (s : State) (seq : Word) :
    (State.takeReference s seq).pending = s.pending := by simp [State.takeReference]

@[simp] theorem State.commitNote_pending (s : State) :
    (State.commitNote s).pending = s.pending := by unfold State.commitNote; split <;> simp

@[simp] theorem State.powerUpRest_pending (s : State) (at_ : Nv) (p g : Nat × List Byte) :
    (State.powerUpRest s at_ p g).pending = s.pending := by unfold State.powerUpRest; split <;> simp

@[simp] theorem State.powerUpLog_pending (s : State) (w : TrustWork) :
    (State.powerUpLog s w).pending = s.pending := by simp [State.powerUpLog]

@[simp] theorem State.exitTrust_pending (s : State) (temp : Int) :
    (State.exitTrust s temp).pending = s.pending := by simp [State.exitTrust]

@[simp] theorem State.trustEnd_pending (s : State) (w : TrustWork) :
    (State.trustEnd s w).pending = s.pending := by simp [State.trustEnd]

/-! ### Clock -/

@[simp] theorem State.takeRefLink_pending (s : State) (up down : Bool) :
    (State.takeRefLink s up down).pending = s.pending := by simp [State.takeRefLink]

@[simp] theorem State.referencePresent_pending (s : State) (ppm1 ppm2 : Int) (aligned up down : Bool) :
    (State.referencePresent s ppm1 ppm2 aligned up down).pending = s.pending := by simp [State.referencePresent]

@[simp] theorem State.clockFault_pending (s : State) (cause : Byte) (tried : List (BitVec 6)) (vt : Nat) :
    (State.clockFault s cause tried vt).pending = s.pending := by simp [State.clockFault]

@[simp] theorem State.referenceDeadline_pending (s : State) (ms : Nat) :
    (State.referenceDeadline s ms).pending = s.pending := by simp [State.referenceDeadline]

@[simp] theorem State.firstLock_pending (s : State) (vt : Nat) :
    (State.firstLock s vt).pending = s.pending := by simp [State.firstLock]

@[simp] theorem State.lockAttemptEnd_pending (s : State) (a : LockAttempt) :
    (State.lockAttemptEnd s a).pending = s.pending := by unfold State.lockAttemptEnd; (repeat' split) <;> simp

@[simp] theorem State.lockLost_pending (s : State) (c : LockLoss) :
    (State.lockLost s c).pending = s.pending := by simp [State.lockLost]

@[simp] theorem State.relock_pending (s : State) (a : LockAttempt) :
    (State.relock s a).pending = s.pending := by simp [State.relock]

@[simp] theorem State.steppedRelock_pending (s : State) (attempts : List LockAttempt) (gap : Half) (cycles : Nat) :
    (State.steppedRelock s attempts gap cycles).pending = s.pending := by unfold State.steppedRelock; (repeat' split) <;> simp

/-! ### Mailbox -/

@[simp] theorem State.postNotice_pending (s : State) (sender receiver : Nat) (notice : Word) (waitFor : Nat) :
    (State.postNotice s sender receiver notice waitFor).2.pending = s.pending := by simp [State.postNotice]

@[simp] theorem State.withdrawNotice_pending (s : State) (sender receiver : Nat) :
    (State.withdrawNotice s sender receiver).2.pending = s.pending := by unfold State.withdrawNotice; split <;> simp

@[simp] theorem State.pruneChannels_pending (s : State) :
    (State.pruneChannels s).pending = s.pending := by simp [State.pruneChannels]

@[simp] theorem State.takeNotice_pending (s : State) (sender receiver : Nat) :
    (State.takeNotice s sender receiver).2.pending = s.pending := by unfold State.takeNotice; split <;> simp

@[simp] theorem State.ackNotice_pending (s : State) (sender receiver : Nat) (code : Half) (waitFor : Nat) :
    (State.ackNotice s sender receiver code waitFor).2.pending = s.pending := by unfold State.ackNotice; split <;> simp

@[simp] theorem State.noticeVisible_pending (s : State) (id : Nat) :
    (State.noticeVisible s id).pending = s.pending := by unfold State.noticeVisible; split <;> simp

@[simp] theorem State.ackVisible_pending (s : State) (id : Nat) :
    (State.ackVisible s id).pending = s.pending := by unfold State.ackVisible; (repeat' split) <;> simp

@[simp] theorem State.raiseChannel_pending (s : State) (c : Channel) (bit : Nat) :
    (State.raiseChannel s c bit).pending = s.pending := by unfold State.raiseChannel; split <;> simp

@[simp] theorem State.mbxTimeout_pending (s : State) (id : Nat) :
    (State.mbxTimeout s id).pending = s.pending := by unfold State.mbxTimeout; split <;> simp

@[simp] theorem State.emptyTo_pending (s : State) (b : BenchId) :
    (State.emptyTo s b).pending = s.pending := by simp [State.emptyTo]

@[simp] theorem State.emptyTenant_pending (s : State) (t : TenantId) :
    (State.emptyTenant s t).pending = s.pending := by simp [State.emptyTenant]

@[simp] theorem State.restartTenant_pending (s : State) (t : TenantId) :
    (State.restartTenant s t).pending = s.pending := by simp [State.restartTenant]

@[simp] theorem State.activateChannels_pending (s : State) (t : TenantId) (decls : List ChannelDecl) :
    (State.activateChannels s t decls).pending = s.pending := by simp [State.activateChannels]

/-! ### Pit -/

@[simp] theorem State.pitWrite_pending (s : State) (a : Nat) (v : Word) :
    (State.pitWrite s a v).pending = s.pending := by simp [State.pitWrite]

@[simp] theorem State.pitScrub_pending (s : State) (a : Nat) (v : Word) :
    (State.pitScrub s a v).pending = s.pending := by simp [State.pitScrub]

@[simp] theorem State.raiseFor_pending (s : State) (t : Option TenantId) (bit : Nat) :
    (State.raiseFor s t bit).pending = s.pending := by unfold State.raiseFor; split <;> simp

@[simp] theorem State.pitRead_pending (s : State) (a : Nat) (ecc : EccRead) (t : Option TenantId) :
    (State.pitRead s a ecc t).2.pending = s.pending := by unfold State.pitRead; (repeat' split) <;> simp

@[simp] theorem State.failPwr_pending (s : State) (b : BenchId) (q : BenchRequest) (code : Byte) :
    (State.failPwr s b q code).pending = s.pending := by unfold State.failPwr; (repeat' split) <;> simp

@[simp] theorem State.failHost_pending (s : State) (t : TenantId) (j : PortJob) (code : Byte) :
    (State.failHost s t j code).pending = s.pending := by simp [State.failHost]

@[simp] theorem State.performPwr_pending (s : State) (b : BenchId) (q : BenchRequest) :
    (State.performPwr s b q).2.pending = s.pending := by simp [State.performPwr]

@[simp] theorem State.performAll_pending (s : State) (b : BenchId) (qs : List BenchRequest) :
    (State.performAll s b qs).2.pending = s.pending := by simp [State.performAll]

@[simp] theorem State.servePrd_pending (s : State) (b : BenchId) (q : BenchRequest) (rest : List BenchRequest) (ecc : EccRead) :
    (State.servePrd s b q rest ecc).pending = s.pending := by simp [State.servePrd]

@[simp] theorem State.serveBench_pending (s : State) (b : BenchId) (ecc : EccRead) :
    (State.serveBench s b ecc).pending = s.pending := by unfold State.serveBench; split <;> simp

@[simp] theorem State.putJob_pending (s : State) (t : TenantId) (j : PortJob) :
    (State.putJob s t j).pending = s.pending := by simp [State.putJob]

@[simp] theorem State.servePort_pending (s : State) (t : TenantId) (ecc : EccRead) :
    (State.servePort s t ecc).pending = s.pending := by
  unfold State.servePort
  iterate 5 (all_goals (try simp); all_goals (try split))

@[simp] theorem State.queueLateFail_pending (s : State) (w : LatchedWrite) (code : Byte) :
    (State.queueLateFail s w code).pending = s.pending := by simp [State.queueLateFail]

@[simp] theorem State.serveRing_pending (s : State) :
    (State.serveRing s).pending = s.pending := by unfold State.serveRing; split <;> simp

@[simp] theorem State.serveSystem_pending (s : State) (ecc : EccRead) :
    (State.serveSystem s ecc).pending = s.pending := by
  unfold State.serveSystem
  iterate 5 (all_goals (try simp); all_goals (try split))

@[simp] theorem State.serve_pending (s : State) (r : Nat) (ecc : EccRead) :
    (State.serve s r ecc).pending = s.pending := by simp [State.serve]

@[simp] theorem State.serveSpare_pending (s : State) (ecc : EccRead) :
    (State.serveSpare s ecc).1.pending = s.pending := by unfold State.serveSpare; (repeat' split) <;> simp

@[simp] theorem State.pitSlot_pending (s : State) (slot : Nat) (ecc : EccRead) :
    (State.pitSlot s slot ecc).pending = s.pending := by unfold State.pitSlot; dsimp only; (repeat' split) <;> simp

@[simp] theorem State.poisonBench_pending (s : State) (b : BenchId) :
    (State.poisonBench s b).pending = s.pending := by simp [State.poisonBench]

@[simp] theorem State.failWords_pending (s : State) (t : TenantId) (j : PortJob) (code : Byte) (ws : List Word) :
    (State.failWords s t j code ws).pending = s.pending := by
  induction ws generalizing s j with
  | nil => rfl
  | cons w rest ih => unfold State.failWords; simp [ih]

@[simp] theorem State.poisonJob_pending (s : State) (t : TenantId) (j : PortJob) :
    (State.poisonJob s t j).pending = s.pending := by unfold State.poisonJob; split <;> simp

@[simp] theorem State.poisonPort_pending (s : State) (t : TenantId) :
    (State.poisonPort s t).pending = s.pending := by simp [State.poisonPort]

@[simp] theorem State.poisonRing_pending (s : State) :
    (State.poisonRing s).pending = s.pending := by simp [State.poisonRing]

@[simp] theorem State.poisonSystem_pending (s : State) :
    (State.poisonSystem s).pending = s.pending := by simp [State.poisonSystem]

@[simp] theorem State.poisonPit_pending (s : State) :
    (State.poisonPit s).pending = s.pending := by simp [State.poisonPit]

/-! ### Ring -/

@[simp] theorem State.modRing_pending (s : State) (f : Ring → Ring) :
    (State.modRing s f).pending = s.pending := by simp [State.modRing]

@[simp] theorem State.ringEvent_pending (s : State) (bit : Nat) :
    (State.ringEvent s bit).pending = s.pending := by simp [State.ringEvent]

@[simp] theorem State.raiseRing_pending (s : State) :
    (State.raiseRing s).pending = s.pending := by simp [State.raiseRing]

@[simp] theorem State.ringLog_pending (s : State) (k : Nat) (kind : Byte) (payload : Word → List Byte) :
    (State.ringLog s k kind payload).pending = s.pending := by simp [State.ringLog]

@[simp] theorem State.failRwr_pending (s : State) (b : BenchId) (tag : BitVec 12) (addr : Nat) (code : Byte) :
    (State.failRwr s b tag addr code).pending = s.pending := by unfold State.failRwr; (repeat' split) <;> simp

@[simp] theorem State.endMessage_pending (s : State) (m : SentMessage) (reply : Option Byte) :
    (State.endMessage s m reply).pending = s.pending := by unfold State.endMessage; (repeat' split) <;> simp

@[simp] theorem State.loseMessages_pending (s : State) :
    (State.loseMessages s).pending = s.pending := by simp [State.loseMessages]

@[simp] theorem State.failInFlight_pending (s : State) :
    (State.failInFlight s).pending = s.pending := by
  unfold State.failInFlight
  rw [foldl_pending _ (fun u m => by split <;> simp)]
  simp

@[simp] theorem State.failQueued_pending (s : State) (b : BenchId) :
    (State.failQueued s b).pending = s.pending := by simp [State.failQueued]

@[simp] theorem State.loseLock_pending (s : State) :
    (State.loseLock s).pending = s.pending := by simp [State.loseLock]

@[simp] theorem State.lossCode_pending (s : State) (cause : Nat) :
    (State.lossCode s cause).2.pending = s.pending := by simp [State.lossCode]

@[simp] theorem State.dropLock_pending (s : State) (cause : Nat) :
    (State.dropLock s cause).pending = s.pending := by simp [State.dropLock]

@[simp] theorem State.latchWrite_pending (s : State) (i : Nat) (w : LatchedWrite) :
    (State.latchWrite s i w).pending = s.pending := by simp [State.latchWrite]

@[simp] theorem State.judgeWrite_pending (s : State) (i : Nat) (m : MessageSlot) :
    (State.judgeWrite s i m).2.pending = s.pending := by simp [State.judgeWrite]

@[simp] theorem State.takeLateFail_pending (s : State) (m : MessageSlot) :
    (State.takeLateFail s m).pending = s.pending := by simp [State.takeLateFail]

@[simp] theorem State.judgeSlot_pending (s : State) (i : Nat) (m : MessageSlot) :
    (State.judgeSlot s i m).2.pending = s.pending := by simp [State.judgeSlot]

@[simp] theorem State.takeReply_pending (s : State) (i : Nat) (sent : SentMessage) (m : MessageSlot) :
    (State.takeReply s i sent m).2.pending = s.pending := by simp [State.takeReply]

@[simp] theorem State.visitSlot_pending (s : State) (i : Nat) (m : MessageSlot) (inserted : Bool) :
    (State.visitSlot s i m inserted).2.2.pending = s.pending := by
  unfold State.visitSlot
  simp only
  split
  · simp
  · split
    · split
      · simp
      · next h => simp [State.nextMessage_pending h]
    · simp

@[simp] theorem State.visitSlots_pending (s : State) (i : Nat) (inserted : Bool) (ms : List MessageSlot) :
    (State.visitSlots s i inserted ms).2.pending = s.pending := by
  induction ms generalizing s i inserted with
  | nil => rfl
  | cons m rest ih => unfold State.visitSlots; simp [ih]

@[simp] theorem State.takeRingStart_pending (s : State) :
    (State.takeRingStart s).pending = s.pending := by unfold State.takeRingStart; (repeat' split) <;> simp

@[simp] theorem State.logFold_pending (s : State) (folded : Bool) (x : Nat) (rotation : Word) :
    (State.logFold s folded x rotation).pending = s.pending := by simp [State.logFold]

@[simp] theorem State.seeFold_pending (s : State) (f : Byte) :
    (State.seeFold s f).pending = s.pending := by simp [State.seeFold]

@[simp] theorem State.rollConflict_pending (s : State) (heard id rotation : Nat) :
    (State.rollConflict s heard id rotation).pending = s.pending := by simp [State.rollConflict]

@[simp] theorem State.seeConflict_pending (s : State) :
    (State.seeConflict s).pending = s.pending := by simp [State.seeConflict]

@[simp] theorem State.visitMessages_pending (s : State) (l : Lap) :
    (State.visitMessages s l).2.pending = s.pending := by simp [State.visitMessages]

@[simp] theorem State.visitCells_pending (s : State) (l : Lap) :
    (State.visitCells s l).2.pending = s.pending := by simp [State.visitCells]

@[simp] theorem State.memberLap_pending (s : State) (l : Lap) (collects : Bool) :
    (State.memberLap s l collects).pending = s.pending := by simp [State.memberLap]

@[simp] theorem State.memberVisit_pending (s : State) (l : Lap) (err : Int) :
    (State.memberVisit s l err).pending = s.pending := by simp [State.memberVisit]

@[simp] theorem State.sendLap_pending (s : State) (n : Nat) (l : Lap) :
    (State.sendLap s n l).pending = s.pending := by simp [State.sendLap]

@[simp] theorem State.masterVisit_pending (s : State) (l : Lap) (err : Int) :
    (State.masterVisit s l err).pending = s.pending := by simp [State.masterVisit]

@[simp] theorem State.unturn_pending (s : State) (link : RingLink) (l : Lap) :
    (State.unturn s link l).pending = s.pending := by unfold State.unturn; split <;> simp

@[simp] theorem State.lapArrives_pending (s : State) (link : RingLink) (chars : LapChars) (l : Lap) (err : Int) :
    (State.lapArrives s link chars l err).pending = s.pending := by unfold State.lapArrives; (repeat' split) <;> simp

@[simp] theorem State.homeVisit_pending (s : State) (link : RingLink) (chars : LapChars) (err : Int) :
    (State.homeVisit s link chars err).pending = s.pending := by simp [State.homeVisit]

@[simp] theorem State.missLap_pending (s : State) :
    (State.missLap s).pending = s.pending := by simp [State.missLap]

@[simp] theorem State.ringStrobe_pending (s : State) :
    (State.ringStrobe s).pending = s.pending := by simp [State.ringStrobe]

@[simp] theorem State.lockBench_pending (s : State) (b : BenchId) :
    (State.lockBench s b).pending = s.pending := by simp [State.lockBench]

@[simp] theorem State.ringLockGain_pending (s : State) :
    (State.ringLockGain s).pending = s.pending := by simp [State.ringLockGain]

@[simp] theorem State.ringLoss_pending (s : State) (cause : Nat) :
    (State.ringLoss s cause).pending = s.pending := by simp [State.ringLoss]

@[simp] theorem State.phaseStep_pending (s : State) (cycles : Nat) :
    (State.phaseStep s cycles).pending = s.pending := by simp [State.phaseStep]

@[simp] theorem State.laneDown_pending (s : State) (l : HeardLink) (silentChars errors : Nat) :
    (State.laneDown s l silentChars errors).pending = s.pending := by simp [State.laneDown]

@[simp] theorem State.laneUp_pending (s : State) (l : HeardLink) (laps idleChars : Nat) :
    (State.laneUp s l laps idleChars).pending = s.pending := by simp [State.laneUp]

@[simp] theorem State.rollcallStart_pending (s : State) (idleSeen : Bool) (ms : Nat) :
    (State.rollcallStart s idleSeen ms).pending = s.pending := by simp [State.rollcallStart]

@[simp] theorem State.collectionLap_pending (s : State) (table : List Word) (rotationNs : Nat) (foreign : Bool) :
    (State.collectionLap s table rotationNs foreign).pending = s.pending := by simp [State.collectionLap]

@[simp] theorem State.takeAssignment_pending (s : State) (table : List Word) :
    (State.takeAssignment s table).pending = s.pending := by simp [State.takeAssignment]

@[simp] theorem State.assignmentLap_pending (s : State) (table : List Word) :
    (State.assignmentLap s table).pending = s.pending := by unfold State.assignmentLap; (repeat' split) <;> simp

@[simp] theorem State.masterFold_pending (s : State) (x y rotationNs : Nat) :
    (State.masterFold s x y rotationNs).pending = s.pending := by simp [State.masterFold]

@[simp] theorem State.foldRing_pending (s : State) (x y rotationNs : Nat) (idleBeyond : Option RingLink) :
    (State.foldRing s x y rotationNs idleBeyond).pending = s.pending := by unfold State.foldRing; (repeat' split) <;> simp

@[simp] theorem State.stepTod_pending (s : State) (m : Nat) (sec : Word) (fos : Half) :
    (State.stepTod s m sec fos).pending = s.pending := by simp [State.stepTod]

@[simp] theorem State.todMarkApply_pending (s : State) :
    (State.todMarkApply s).pending = s.pending := by unfold State.todMarkApply; (repeat' split) <;> simp

/-! ### Faults -/

@[simp] theorem State.ownerByte_pending (s : State) (b : BenchId) :
    (State.ownerByte s b).2.pending = s.pending := by unfold State.ownerByte; split <;> simp

@[simp] theorem State.dropOwner_pending (s : State) (b : BenchId) (source : Nat) :
    (State.dropOwner s b source).pending = s.pending := by unfold State.dropOwner; split <;> simp

@[simp] theorem State.discardRwr_pending (s : State) (b : BenchId) :
    (State.discardRwr s b).pending = s.pending := by simp [State.discardRwr]

@[simp] theorem State.refuseCommit_pending (s : State) (b : BenchId) :
    (State.refuseCommit s b).pending = s.pending := by simp [State.refuseCommit]

@[simp] theorem State.fence_pending (s : State) (b : BenchId) :
    (State.fence s b).pending = s.pending := by simp [State.fence]

@[simp] theorem State.benchFence_pending (s : State) (b : BenchId) :
    (State.benchFence s b).pending = s.pending := by simp [State.benchFence]

@[simp] theorem State.dropJob_pending (s : State) (t : TenantId) (j : PortJob) :
    (State.dropJob s t j).pending = s.pending := by simp [State.dropJob]

@[simp] theorem State.retireTags_pending (s : State) (t : TenantId) (which : HostTag → Bool) :
    (State.retireTags s t which).pending = s.pending := by simp [State.retireTags]

@[simp] theorem State.endGrant_pending (s : State) (t : TenantId) :
    (State.endGrant s t).pending = s.pending := by simp [State.endGrant]

@[simp] theorem State.wedgePort_pending (s : State) (t : TenantId) :
    (State.wedgePort s t).pending = s.pending := by simp [State.wedgePort]

@[simp] theorem State.wedgeRing_pending (s : State) :
    (State.wedgeRing s).pending = s.pending := by simp [State.wedgeRing]

@[simp] theorem State.writeNote_pending (s : State) (watchdog : Nat) :
    (State.writeNote s watchdog).pending = s.pending := by simp [State.writeNote]

@[simp] theorem State.wedgeOutcome_pending (s : State) (i : SharedIsland) (watchdog : Nat) (cut : CommitCut) :
    (State.wedgeOutcome s i watchdog cut).pending = s.pending := by unfold State.wedgeOutcome; split <;> simp

@[simp] theorem State.wedge_pending (s : State) (i : SharedIsland) (watchdog : Nat) (cut : CommitCut) :
    (State.wedge s i watchdog cut).pending = s.pending := by simp [State.wedge]

@[simp] theorem State.islandWedge_pending (s : State) (i : SharedIsland) (cut : CommitCut) :
    (State.islandWedge s i cut).pending = s.pending := by simp [State.islandWedge]

@[simp] theorem State.pitProgressWedge_pending (s : State) :
    (State.pitProgressWedge s).pending = s.pending := by simp [State.pitProgressWedge]

@[simp] theorem State.nvWriterWedge_pending (s : State) (us : Nat) (answers : Bool) (cut : CommitCut) :
    (State.nvWriterWedge s us answers cut).pending = s.pending := by simp [State.nvWriterWedge]

/-! ### Port -/

@[simp] theorem State.refuse_pending (s : State) (code : Byte) :
    (State.refuse s code).next.pending = s.pending := by simp [State.refuse]

@[simp] theorem State.accept_pending (s : State) (reply : List Word) :
    (State.accept s reply).next.pending = s.pending := by simp [State.accept]

@[simp] theorem State.acceptLater_pending (s : State) (code : Byte) (reply : List Word) :
    (State.acceptLater s code reply).next.pending = s.pending := by simp [State.acceptLater]

@[simp] theorem State.acceptCross_pending (s : State) (g : InFlight) :
    (State.acceptCross s g).next.pending = s.pending := by simp [State.acceptCross]

@[simp] theorem State.judge_pending (s : State) (x : TenantId) (f : HostFrame) (o : OpSpec) (hasReply unknown : Bool) (act : State → Verdict) (h : ∀ u, (act u).next.pending = u.pending) :
    (State.judge s x f o hasReply unknown act).next.pending = s.pending := by simp [State.judge, h]

@[simp] theorem State.hostFrame_pending (s : State) (x : TenantId) (f : HostFrame) (o : OpSpec) (hasReply unknown : Bool) (act : State → Verdict) (h : ∀ u, (act u).next.pending = u.pending) :
    (State.hostFrame s x f o hasReply unknown act).pending = s.pending := by simp [State.hostFrame, h]

@[simp] theorem State.hostStatus_pending (s : State) (x : TenantId) (f : HostFrame) :
    (State.hostStatus s x f).pending = s.pending := by simp [State.hostStatus]

@[simp] theorem State.hostPoll_pending (s : State) (x : TenantId) (f : HostFrame) :
    (State.hostPoll s x f).pending = s.pending := by simp [State.hostPoll]

@[simp] theorem State.hostResult_pending (s : State) (x : TenantId) (f : HostFrame) (seen : List (Option SlotSeen)) :
    (State.hostResult s x f seen).pending = s.pending := by simp [State.hostResult]

@[simp] theorem State.hostEvents_pending (s : State) (x : TenantId) (f : HostFrame) :
    (State.hostEvents s x f).pending = s.pending := by simp [State.hostEvents]

@[simp] theorem State.hostTimeRead_pending (s : State) (x : TenantId) (f : HostFrame) :
    (State.hostTimeRead s x f).pending = s.pending := by simp [State.hostTimeRead]

@[simp] theorem State.hostTimeMark_pending (s : State) (x : TenantId) (f : HostFrame) :
    (State.hostTimeMark s x f).pending = s.pending := by simp [State.hostTimeMark]

@[simp] theorem State.addJob_pending (s : State) (x : TenantId) (j : PortJob) :
    (State.addJob s x j).pending = s.pending := by simp [State.addJob]

@[simp] theorem State.startRead_pending (s : State) (x : TenantId) (f : HostFrame) (d : WindowDecl) (n : Nat) :
    (State.startRead s x f d n).pending = s.pending := by simp [State.startRead]

@[simp] theorem State.hostRead_pending (s : State) (x : TenantId) (f : HostFrame) :
    (State.hostRead s x f).pending = s.pending := by simp [State.hostRead]

@[simp] theorem State.startWords_pending (s : State) (x : TenantId) (j : PortJob) :
    (State.startWords s x j).pending = s.pending := by simp [State.startWords]

@[simp] theorem State.hostWrite_pending (s : State) (x : TenantId) (f : HostFrame) :
    (State.hostWrite s x f).pending = s.pending := by simp [State.hostWrite]

@[simp] theorem State.hostLoad_pending (s : State) (x : TenantId) (f : HostFrame) :
    (State.hostLoad s x f).pending = s.pending := by simp [State.hostLoad]

@[simp] theorem State.collect_pending (s : State) (x : TenantId) (f : HostFrame) (off : Nat) (only : TagOp → Bool) :
    (State.collect s x f off only).next.pending = s.pending := by simp [State.collect]

@[simp] theorem State.hostFetch_pending (s : State) (x : TenantId) (f : HostFrame) :
    (State.hostFetch s x f).pending = s.pending := by simp [State.hostFetch]

@[simp] theorem State.hostPost_pending (s : State) (x : TenantId) (f : HostFrame) :
    (State.hostPost s x f).pending = s.pending := by simp [State.hostPost]

@[simp] theorem State.hostWithdraw_pending (s : State) (x : TenantId) (f : HostFrame) :
    (State.hostWithdraw s x f).pending = s.pending := by simp [State.hostWithdraw]

@[simp] theorem State.hostTake_pending (s : State) (x : TenantId) (f : HostFrame) (seen : Option NoticeSeen) :
    (State.hostTake s x f seen).pending = s.pending := by
  unfold State.hostTake
  apply State.hostFrame_pending
  intro u
  iterate 3 (all_goals (try simp); all_goals (try split))

@[simp] theorem State.hostAck_pending (s : State) (x : TenantId) (f : HostFrame) :
    (State.hostAck s x f).pending = s.pending := by simp [State.hostAck]

@[simp] theorem State.hostCommitStage_pending (s : State) (x : TenantId) (f : HostFrame) :
    (State.hostCommitStage s x f).pending = s.pending := by simp [State.hostCommitStage]

@[simp] theorem State.hostCommitGroup_pending (s : State) (x : TenantId) (f : HostFrame) :
    (State.hostCommitGroup s x f).pending = s.pending := by simp [State.hostCommitGroup]

@[simp] theorem State.goBench_pending (s : State) (b : BenchId) :
    (State.goBench s b).pending = s.pending := by simp [State.goBench]

@[simp] theorem State.hostGo_pending (s : State) (x : TenantId) (f : HostFrame) :
    (State.hostGo s x f).pending = s.pending := by simp [State.hostGo]

@[simp] theorem State.tagged_pending (s : State) (x : TenantId) (f : HostFrame) (op : TagOp) (q : WbRequest) :
    (State.tagged s x f op q).next.pending = s.pending := by simp [State.tagged]

@[simp] theorem State.hostLogHead_pending (s : State) (x : TenantId) (f : HostFrame) :
    (State.hostLogHead s x f).pending = s.pending := by simp [State.hostLogHead]

@[simp] theorem State.hostLogEntries_pending (s : State) (x : TenantId) (f : HostFrame) :
    (State.hostLogEntries s x f).pending = s.pending := by simp [State.hostLogEntries]

@[simp] theorem State.hostLogExport_pending (s : State) (x : TenantId) (f : HostFrame) :
    (State.hostLogExport s x f).pending = s.pending := by simp [State.hostLogExport]

@[simp] theorem State.hostLogAppend_pending (s : State) (x : TenantId) (f : HostFrame) :
    (State.hostLogAppend s x f).pending = s.pending := by simp [State.hostLogAppend]

@[simp] theorem State.hostLogCollect_pending (s : State) (x : TenantId) (f : HostFrame) :
    (State.hostLogCollect s x f).pending = s.pending := by simp [State.hostLogCollect]

@[simp] theorem State.hostAttestRequest_pending (s : State) (x : TenantId) (f : HostFrame) :
    (State.hostAttestRequest s x f).pending = s.pending := by simp [State.hostAttestRequest]

@[simp] theorem State.hostAttestCollect_pending (s : State) (x : TenantId) (f : HostFrame) :
    (State.hostAttestCollect s x f).pending = s.pending := by simp [State.hostAttestCollect]

@[simp] theorem State.provision_pending (s : State) (x : TenantId) (f : HostFrame) (q : WbRequest) :
    (State.provision s x f q).next.pending = s.pending := by simp [State.provision]

@[simp] theorem State.hostProvisionIdentify_pending (s : State) (x : TenantId) (f : HostFrame) :
    (State.hostProvisionIdentify s x f).pending = s.pending := by simp [State.hostProvisionIdentify]

@[simp] theorem State.hostProvisionSlot_pending (s : State) (x : TenantId) (f : HostFrame) :
    (State.hostProvisionSlot s x f).pending = s.pending := by simp [State.hostProvisionSlot]

@[simp] theorem State.hostProvisionFloor_pending (s : State) (x : TenantId) (f : HostFrame) :
    (State.hostProvisionFloor s x f).pending = s.pending := by simp [State.hostProvisionFloor]

@[simp] theorem State.hostLock_pending (s : State) (x : TenantId) (f : HostFrame) :
    (State.hostLock s x f).pending = s.pending := by simp [State.hostLock]

@[simp] theorem State.hostSelftest_pending (s : State) (x : TenantId) (f : HostFrame) :
    (State.hostSelftest s x f).pending = s.pending := by simp [State.hostSelftest]

@[simp] theorem State.arrive_pending (s : State) (x : TenantId) (g : InFlight) :
    (State.arrive s x g).2.pending = s.pending := by unfold State.arrive; split <;> simp

@[simp] theorem State.outcomeFinal_pending (s : State) (x : TenantId) :
    (State.outcomeFinal s x).pending = s.pending := by unfold State.outcomeFinal; split <;> simp

/-! ### TenantReset -/

@[simp] theorem State.trstNLow_pending (s : State) (t : TenantId) (pin : PinInput) (ns : Nat) :
    (State.trstNLow s t pin ns).pending = s.pending := by simp [State.trstNLow]

@[simp] theorem State.trstNHigh_pending (s : State) (t : TenantId) (pin : PinInput) (ns : Nat) :
    (State.trstNHigh s t pin ns).pending = s.pending := by simp [State.trstNHigh]

@[simp] theorem State.holdPort_pending (s : State) (t : TenantId) :
    (State.holdPort s t).pending = s.pending := by simp [State.holdPort]

@[simp] theorem State.holdStaging_pending (s : State) (t : TenantId) :
    (State.holdStaging s t).pending = s.pending := by simp [State.holdStaging]

@[simp] theorem State.holdTenant_pending (s : State) (t : TenantId) :
    (State.holdTenant s t).pending = s.pending := by simp [State.holdTenant]

@[simp] theorem State.tenantResetHold_pending (s : State) (t : TenantId) :
    (State.tenantResetHold s t).pending = s.pending := by simp [State.tenantResetHold]

@[simp] theorem State.releaseBench_pending (s : State) (t : TenantId) (b : BenchId) :
    (State.releaseBench s t b).pending = s.pending := by simp [State.releaseBench]

@[simp] theorem State.tenantResetRelease_pending (s : State) (t : TenantId) :
    (State.tenantResetRelease s t).pending = s.pending := by simp [State.tenantResetRelease]

/-! ### Images -/

@[simp] theorem State.verifyStart_pending (s : State) :
    (State.verifyStart s).pending = s.pending := by unfold State.verifyStart; split <;> simp

@[simp] theorem State.logRefused_pending (s : State) (t : TenantId) (r : ImageRefusal) :
    (State.logRefused s t r).pending = s.pending := by simp [State.logRefused]

@[simp] theorem State.refuseImage_pending (s : State) (t : TenantId) (r : ImageRefusal) :
    (State.refuseImage s t r).pending = s.pending := by simp [State.refuseImage]

@[simp] theorem State.passImage_pending (s : State) (t : TenantId) (i : Image) :
    (State.passImage s t i).pending = s.pending := by simp [State.passImage]

@[simp] theorem State.verifyEnd_pending (s : State) :
    (State.verifyEnd s).pending = s.pending := by unfold State.verifyEnd; (repeat' split) <;> simp

@[simp] theorem State.stagingTimeout_pending (s : State) :
    (State.stagingTimeout s).pending = s.pending := by simp [State.stagingTimeout]

@[simp] theorem State.holdBench_pending (s : State) (i : Image) (b : BenchId) :
    (State.holdBench s i b).pending = s.pending := by simp [State.holdBench]

@[simp] theorem State.holdStrobe_pending (s : State) :
    (State.holdStrobe s).pending = s.pending := by unfold State.holdStrobe; split <;> simp

@[simp] theorem State.activateBench_pending (s : State) (t : TenantId) (i : Image) (spoiled : Byte) (b : BenchId) :
    (State.activateBench s t i spoiled b).pending = s.pending := by
  unfold State.activateBench
  dsimp only
  repeat' split
  all_goals simp

@[simp] theorem State.activatePorts_pending (s : State) (t : TenantId) (i : Image) :
    (State.activatePorts s t i).pending = s.pending := by simp [State.activatePorts]

@[simp] theorem State.activateSense_pending (s : State) (t : TenantId) (i : Image) (terminals : Vector Int 16) :
    (State.activateSense s t i terminals).pending = s.pending := by simp [State.activateSense]

@[simp] theorem State.activateClock_pending (s : State) (t : TenantId) (i : Image) :
    (State.activateClock s t i).pending = s.pending := by simp [State.activateClock]

@[simp] theorem State.raiseFloor_pending (s : State) (t : TenantId) (i : Image) :
    (State.raiseFloor s t i).pending = s.pending := by simp [State.raiseFloor]

@[simp] theorem State.activateUnits_pending (s : State) (t : TenantId) (i : Image) (spoiled : Byte) (terminals : Vector Int 16) :
    (State.activateUnits s t i spoiled terminals).pending = s.pending := by simp [State.activateUnits]

@[simp] theorem State.enterOperating_pending (s : State) :
    (State.enterOperating s).pending = s.pending := by simp [State.enterOperating]

@[simp] theorem State.activationStrobe_pending (s : State) (terminals : Vector Int 16) :
    (State.activationStrobe s terminals).pending = s.pending := by unfold State.activationStrobe; split <;> simp

/-! ### Traffic -/

@[simp] theorem State.pushStep_pending (s : State) (b : BenchId) (r : Nat) (ts : List PipeTarget) :
    (State.pushStep s b r ts).pending = s.pending := by simp [State.pushStep]

@[simp] theorem State.stepPrd_pending (s : State) (b : BenchId) (f : StepFields) (r : Nat) :
    (State.stepPrd s b f r).pending = s.pending := by simp [State.stepPrd]

@[simp] theorem State.refusePwr_pending (s : State) (b : BenchId) (r : Nat) (code : Byte) (refused : Bool) :
    (State.refusePwr s b r code refused).pending = s.pending := by simp [State.refusePwr]

@[simp] theorem State.stepPwr_pending (s : State) (b : BenchId) (f : StepFields) (r : Nat) :
    (State.stepPwr s b f r).pending = s.pending := by simp [State.stepPwr]

@[simp] theorem State.reply_pending (s : State) (b : BenchId) (f : StepFields) (r : Nat) (v : Word) (flag : Bool) :
    (State.reply s b f r v flag).pending = s.pending := by simp [State.reply]

@[simp] theorem State.replyCode_pending (s : State) (b : BenchId) (f : StepFields) (r : Nat) (code : Byte) :
    (State.replyCode s b f r code).pending = s.pending := by simp [State.replyCode]

@[simp] theorem State.stepPost_pending (s : State) (b : BenchId) (f : StepFields) (r : Nat) :
    (State.stepPost s b f r).pending = s.pending := by simp [State.stepPost]

@[simp] theorem State.stepWithdraw_pending (s : State) (b : BenchId) (f : StepFields) (r : Nat) :
    (State.stepWithdraw s b f r).pending = s.pending := by simp [State.stepWithdraw]

@[simp] theorem State.stepQuery_pending (s : State) (b : BenchId) (f : StepFields) (r : Nat) :
    (State.stepQuery s b f r).pending = s.pending := by simp [State.stepQuery]

@[simp] theorem State.stepTake_pending (s : State) (b : BenchId) (f : StepFields) (r : Nat) :
    (State.stepTake s b f r).pending = s.pending := by simp [State.stepTake]

@[simp] theorem State.stepAckn_pending (s : State) (b : BenchId) (f : StepFields) (r : Nat) :
    (State.stepAckn s b f r).pending = s.pending := by simp [State.stepAckn]

@[simp] theorem State.stepWit_pending (s : State) (b : BenchId) (f : StepFields) (r : Nat) :
    (State.stepWit s b f r).pending = s.pending := by unfold State.stepWit; split <;> simp

@[simp] theorem State.stepCommit_pending (s : State) (b : BenchId) (f : StepFields) (r : Nat) :
    (State.stepCommit s b f r).pending = s.pending := by unfold State.stepCommit; split <;> simp

@[simp] theorem State.stepRwr_pending (s : State) (b : BenchId) (f : StepFields) (r : Nat) :
    (State.stepRwr s b f r).pending = s.pending := by simp [State.stepRwr]

@[simp] theorem State.stepEvt_pending (s : State) (b : BenchId) :
    (State.stepEvt s b).pending = s.pending := by simp [State.stepEvt]

@[simp] theorem State.stepStat_pending (s : State) (b : BenchId) (f : StepFields) (r : Nat) :
    (State.stepStat s b f r).pending = s.pending := by simp [State.stepStat]

/-! ### Tap -/

@[simp] theorem State.loadIr_pending (s : State) (code : BitVec 5) :
    (State.loadIr s code).pending = s.pending := by simp [State.loadIr]

@[simp] theorem State.scanBypass_pending (s : State) (last : Bool) :
    (State.scanBypass s last).pending = s.pending := by simp [State.scanBypass]

@[simp] theorem State.scanBoundary_pending (s : State) (shiftIn pins : BitVec 114) :
    (State.scanBoundary s shiftIn pins).pending = s.pending := by simp [State.scanBoundary]

/-! ### Strobe -/

@[simp] theorem State.judgeStrobe_pending (s : State) (i : StrobeInputs) (previous : Nat) (gap : Bool) :
    (State.judgeStrobe s i previous gap).pending = s.pending := by simp [State.judgeStrobe]

@[simp] theorem State.pitProgress_pending (s : State) :
    (State.pitProgress s).pending = s.pending := by simp [State.pitProgress]

@[simp] theorem State.turnSecond_pending (s : State) :
    (State.turnSecond s).pending = s.pending := by simp [State.turnSecond]

@[simp] theorem State.raiseNearFull_pending (s : State) :
    (State.raiseNearFull s).pending = s.pending := by simp [State.raiseNearFull]

@[simp] theorem State.strobeBenches_pending (s : State) (added : Nat) :
    (State.strobeBenches s added).pending = s.pending := by simp [State.strobeBenches]

@[simp] theorem State.strobeChannel_pending (s : State) (i : StrobeInputs) (ch : SenseId) :
    (State.strobeChannel s i ch).pending = s.pending := by simp [State.strobeChannel]

@[simp] theorem State.strobeSense_pending (s : State) (i : StrobeInputs) :
    (State.strobeSense s i).pending = s.pending := by simp [State.strobeSense]

@[simp] theorem State.frameStrobe_pending (s : State) (i : StrobeInputs) :
    (State.frameStrobe s i).pending = s.pending := by simp [State.frameStrobe]

end Sys2Proof.Machine
end

