-- ==== Sys2Proof/Laws/Sparse.lean ====
section
/-! SUPPORT. Sys2Proof/Laws/Sparse.lean: every operation of a sparse memory keeps its canonical form, and a read after a write. -/
namespace Sys2Proof.Machine

variable {α : Type} [DecidableEq α]

theorem Sparse.wfFrom_mono {d : α} {m : Sparse α} {lo hi : Nat} (h : Sparse.wfFrom d hi m = true) (le : lo ≤ hi) :
    Sparse.wfFrom d lo m = true := by
  cases m with
  | nil => rfl
  | cons x rest =>
    simp only [Sparse.wfFrom, Bool.and_eq_true, decide_eq_true_eq] at h ⊢
    exact ⟨⟨by omega, h.1.2⟩, h.2⟩

theorem Sparse.erase_wfFrom {d : α} {m : Sparse α} {lo : Nat} (a : Nat) (h : Sparse.wfFrom d lo m = true) :
    Sparse.wfFrom d lo (Sparse.erase m a) = true := by
  induction m generalizing lo with
  | nil => rfl
  | cons x rest ih =>
    simp only [Sparse.wfFrom, Bool.and_eq_true, decide_eq_true_eq] at h
    simp only [Sparse.erase]
    split
    · exact Sparse.wfFrom_mono h.2 (by omega)
    · split <;> simp [Sparse.wfFrom, h, ih h.2]

theorem Sparse.insert_wfFrom {d v : α} {m : Sparse α} {lo : Nat} (a : Nat) (hv : v ≠ d) (hlo : lo ≤ a)
    (h : Sparse.wfFrom d lo m = true) : Sparse.wfFrom d lo (Sparse.insert m a v) = true := by
  induction m generalizing lo with
  | nil => simp [Sparse.insert, Sparse.wfFrom, hv, hlo]
  | cons x rest ih =>
    simp only [Sparse.wfFrom, Bool.and_eq_true, decide_eq_true_eq] at h
    simp only [Sparse.insert]
    split
    · next e => subst e; simp [Sparse.wfFrom, h, hv]
    · split
      · next e => simp [Sparse.wfFrom, h, hv, hlo]; omega
      · simp [Sparse.wfFrom, h, ih (by omega) h.2]

/-- A write keeps the canonical form. -/
theorem Sparse.write_wf {d v : α} {m : Sparse α} (a : Nat) (h : Sparse.wf d m = true) :
    Sparse.wf d (Sparse.write d m a v) = true := by
  simp only [Sparse.write, Sparse.wf] at *
  split
  · exact Sparse.erase_wfFrom a h
  · next e => exact Sparse.insert_wfFrom a e (by omega) h

/-- A run of writes keeps the canonical form. -/
theorem Sparse.writeAll_wf {d : α} {vs : List α} {m : Sparse α} (a : Nat) (h : Sparse.wf d m = true) :
    Sparse.wf d (Sparse.writeAll d m a vs) = true := by
  induction vs generalizing m a with
  | nil => exact h
  | cons v rest ih => exact ih (a + 1) (Sparse.write_wf a h)

/-- The empty memory has the canonical form. -/
@[simp] theorem Sparse.nil_wf (d : α) : Sparse.wf d ([] : Sparse α) = true := rfl

theorem Sparse.read_below {d : α} {m : Sparse α} {lo a : Nat} (h : Sparse.wfFrom d lo m = true) (lt : a < lo) :
    Sparse.read d m a = d := by
  cases m with
  | nil => rfl
  | cons x rest =>
    simp only [Sparse.wfFrom, Bool.and_eq_true, decide_eq_true_eq] at h
    simp only [Sparse.read]
    rw [if_neg (by omega), if_pos (by omega)]

theorem Sparse.read_erase {d : α} {m : Sparse α} {lo : Nat} (a b : Nat) (h : Sparse.wfFrom d lo m = true) :
    Sparse.read d (Sparse.erase m a) b = if b = a then d else Sparse.read d m b := by
  induction m generalizing lo with
  | nil => simp [Sparse.erase, Sparse.read]
  | cons x rest ih =>
    simp only [Sparse.wfFrom, Bool.and_eq_true, decide_eq_true_eq] at h
    obtain ⟨k, v⟩ := x
    have ih := ih h.2
    simp only [Sparse.erase]
    rcases Nat.lt_trichotomy k a with e | e | e
    · rw [if_neg (by omega), if_neg (by omega)]
      simp only [Sparse.read, ih]
      split <;> split <;> first | rfl | (split <;> rfl) | (exfalso; omega)
    · subst e
      rw [if_pos rfl]
      simp only [Sparse.read]
      rcases Nat.lt_trichotomy b k with g | g | g
      · rw [if_neg (by omega), if_neg (by omega), if_pos g]; exact Sparse.read_below h.2 (by omega)
      · subst g; rw [if_pos rfl]; exact Sparse.read_below h.2 (by omega)
      · rw [if_neg (by omega), if_neg (by omega), if_neg (by omega)]
    · rw [if_neg (by omega), if_pos e]
      simp only [Sparse.read]
      by_cases g : b = a
      · subst g; rw [if_pos rfl, if_neg (by omega), if_pos e]
      · rw [if_neg g]

theorem Sparse.read_insert {d v : α} {m : Sparse α} {lo : Nat} (a b : Nat) (h : Sparse.wfFrom d lo m = true) :
    Sparse.read d (Sparse.insert m a v) b = if b = a then v else Sparse.read d m b := by
  induction m generalizing lo with
  | nil =>
    simp only [Sparse.insert, Sparse.read]
    split <;> split <;> first | rfl | omega | (split <;> first | rfl | omega)
  | cons x rest ih =>
    simp only [Sparse.wfFrom, Bool.and_eq_true, decide_eq_true_eq] at h
    obtain ⟨k, w⟩ := x
    have ih := ih h.2
    simp only [Sparse.insert]
    rcases Nat.lt_trichotomy k a with e | e | e
    · rw [if_neg (by omega), if_neg (by omega)]
      simp only [Sparse.read, ih]
      split <;> split <;> first | rfl | (split <;> first | rfl | (exfalso; omega)) | (exfalso; omega)
    · subst e
      rw [if_pos rfl]
      simp only [Sparse.read]
      by_cases g : b = k
      · simp [g]
      · simp [g, show ¬k = b by omega]
    · rw [if_neg (by omega), if_pos e]
      simp only [Sparse.read]
      rcases Nat.lt_trichotomy b a with g | g | g
      · simp [g, show ¬a = b by omega, show ¬b = a by omega, show ¬k = b by omega, show b < k by omega]
      · simp [g]
      · simp [show ¬a = b by omega, show ¬b = a by omega, show ¬b < a by omega]

/-- What a sparse memory reads after a write: the content written at its address, what it read before elsewhere. -/
theorem Sparse.read_write {d v : α} {m : Sparse α} (a b : Nat) (h : Sparse.wf d m = true) :
    Sparse.read d (Sparse.write d m a v) b = if b = a then v else Sparse.read d m b := by
  simp only [Sparse.write]
  split
  · next e => rw [Sparse.read_erase a b h, e]
  · exact Sparse.read_insert a b h

end Sys2Proof.Machine
end

