-- ==== Sys2Proof/Tests/Slice0.lean ====
section
/-! SUPPORT. Sys2Proof/Tests/Slice0.lean: tests. The `refuses_` theorems show a term that each check of WellFormed refuses, the `test_`
theorems are worked values of the spec or worked by hand from its rules, and the `meets_` theorems show states and operands that meet
the hypotheses of the obligations. -/
namespace Sys2Proof.Tests

open Sys2Proof Sys2Proof.Machine

/-! ### Small states -/

/-- A standalone part in OPERATING at frame 10, every bench tenant 0's, the log open. -/
def part : State :=
  { State.reset with
    power := { State.reset.power with state := .operating, faultLow := false }
    clock := { State.reset.clock with begun := true, strobed := true, frame := 10, time := 76800, present := true, locked := true }
    wb := { State.reset.wb with opened := true } }

/-- The part in another state. -/
def inState (p : PartState) : State := { part with power := { part.power with state := p } }

/-- The part with other strap codes. -/
def coded (c : Vector (BitVec 4) 8) : State := { part with straps := { part.straps with codes := c } }

/-- Fields without a predicate. -/
def plain : StepFields := { sel := 7, inv := false, sat := false, dst := 3, sa := 1, sb := 2, ext := 0 }

/-- The part with bench 0 RUNNING, changed by `g`, and one step left. -/
def stepping (g : Bench → Bench) (op : BitVec 6) (f : StepFields) : State :=
  part.modBench 0 (fun x => { g x with
    state := .running, seq := { (g x).seq with prog := [(0, encodeStep op f)], length := 1, granted := 7680, due := 12 } })

/-- The state after a command that answers one. -/
def after (c : Instr) (s : State) : Option State :=
  match exec c s with
  | .next t => some t
  | _ => none

/-- What bench 0 has on its way after a command. -/
def onTheWay (c : Instr) (s : State) : Option (List PipeTarget) := (after c s).map (fun t => (t.bench 0).pipe.map (·.target))

/-- Two registers. -/
def regs (a b : Word) (x : Bench) : Bench := { x with d := (x.d.set 1 a).set 2 b }

/-! ### Ill-formed commands -/

/-- A host frame with its payload one word short of its H0. -/
def torn : HostFrame :=
  { tag := 0, count1 := 1, mask := 0xf, seq := 0, h1 := 0, payload := [0], crc := 0, edges := 128, taNs := 400 }

theorem refuses_torn_frame : Instr.wf (.status 0 torn) = false ∧ exec (.status 0 torn) part = .next part := ⟨by decide, rfl⟩

theorem refuses_other_sub_op : exec (.post 0 { torn with payload := [0, 0], h1 := 0x40000000 }) part = .next part := rfl

theorem refuses_listed_code : Instr.wf (.bypass 8 true) = false ∧ exec (.bypass 8 true) part = .next part := ⟨by decide, rfl⟩

/-- A whole frame whose H1 spells no sub-op of most rows. -/
def spelled (h1 : Word) : HostFrame := { torn with payload := [0, 0], h1 := h1 }

theorem refuses_sub_ops : ∀ c ∈ [Instr.withdraw 0 (spelled 0), .commitStage 0 (spelled 0x40000000), .commitGroup 0 (spelled 0),
    .logHead 0 (spelled 0x10000000), .logEntries 0 (spelled 0), .logExport 0 (spelled 0), .logAppend 0 (spelled 0),
    .logCollect 0 (spelled 0), .attestRequest 0 (spelled 0x40000000), .attestCollect 0 (spelled 0), .timeRead 0 (spelled 0x10000000),
    .timeMark 0 (spelled 0), .go 0 (spelled 0x20000000), .provisionIdentify 0 (spelled 0), .provisionSlot 0 (spelled 0x10000000),
    .provisionFloor 0 (spelled 0x11000000), .lock 0 (spelled 0), .selftest 0 (spelled 0)], Instr.wf c = false := by decide

/-! ### Compute steps -/

/-- The example of R162: 0.7 plus 0.5 with saturate. -/
theorem test_add_saturates : onTheWay (.add 0 { plain with sat := true })
    (stepping (regs 0x5999999a 0x40000000) 0x03 { plain with sat := true }) = some [.reg 3 0x7fffffff, .flag 1] := by decide

/-- The example of R162: 0.7 plus 0.5 without saturate. -/
theorem test_add_wraps : onTheWay (.add 0 plain) (stepping (regs 0x5999999a 0x40000000) 0x03 plain) =
    some [.reg 3 0x9999999a] := by decide

/-- R188: NEG of 0x8000_0000. -/
theorem test_neg_most_negative : onTheWay (.neg 0 { plain with sat := true })
    (stepping (regs 0x80000000 0) 0x05 { plain with sat := true }) = some [.reg 3 0x7fffffff, .flag 1] := by decide

theorem test_abs_most_negative : onTheWay (.abs 0 plain) (stepping (regs 0x80000000 0) 0x06 plain) =
    some [.reg 3 0x80000000] := by decide

theorem test_sub : onTheWay (.sub 0 plain) (stepping (regs 1 3) 0x04 plain) = some [.reg 3 0xfffffffe] := by decide

theorem test_min_is_signed : onTheWay (.min 0 plain) (stepping (regs 0xffffffff 1) 0x07 plain) = some [.reg 3 0xffffffff] := by decide

theorem test_shra_rounds_to_even : onTheWay (.shra 0 { plain with ext := 0x3000000001#38 })
    (stepping (regs 3 0) 0x0d { plain with ext := 0x3000000001#38 }) = some [.reg 3 2] := by decide

theorem test_shra_rounds_down : onTheWay (.shra 0 { plain with ext := 0x2000000001#38 })
    (stepping (regs 0xfffffffd 0) 0x0d { plain with ext := 0x2000000001#38 }) = some [.reg 3 0xfffffffe] := by decide

theorem test_shl_by_b : onTheWay (.shl 0 plain) (stepping (regs 1 40) 0x0c plain) = some [.reg 3 0x80000000] := by decide

/-- 0.5 × 0.5. -/
theorem test_mul : onTheWay (.mul 0 plain) (stepping (regs 0x40000000 0x40000000) 0x10 plain) = some [.reg 3 0x20000000] := by decide

theorem test_movi : onTheWay (.movi 0 { plain with ext := 0x123456789#38 })
    (stepping id 0x02 { plain with ext := 0x123456789#38 }) = some [.reg 3 0x23456789] := by decide

/-- The example of R162: AST of 3 × 2^-32 gives 2 units; a tie goes to the even value. -/
theorem test_ast_ties : onTheWay (.ast 0 { plain with sa := 0 })
    (stepping (fun x => { x with accSeen := x.accSeen.set 0 (3 * 2 ^ 30) }) 0x18 { plain with sa := 0 }) = some [.reg 3 2] := by decide

/-- A step with a false predicate takes its position and writes nothing. -/
theorem test_false_predicate : (after (.add 0 { plain with inv := true }) (stepping (regs 1 1) 0x03 { plain with inv := true })).map
    (fun t => ((t.bench 0).seq.issued, (t.bench 0).pipe)) = some (1, []) := by decide

/-- A step that is not the next one does nothing. -/
theorem test_other_step : (after (.sub 0 plain) (stepping (regs 1 1) 0x03 plain)).map (fun t => (t.bench 0).seq.issued) = some 0 := by decide

/-! ### Worked values -/

set_option maxRecDepth 20000 in
/-- The check value of CRC-32C over "123456789" (Table TPT-5). -/
theorem test_crc32c : crc32c [0x31, 0x32, 0x33, 0x34, 0x35, 0x36, 0x37, 0x38, 0x39] = 0xe3069283 := by decide

theorem test_round_even : roundEven 3 1 = 2 ∧ roundEven 5 1 = 2 ∧ roundEven (-3) 1 = -2 ∧ roundEven (-1) 2 = 0 := by decide

theorem test_slot_owners : slotOwner 0 0 = 0 ∧ slotOwner 0 8 = 8 ∧ slotOwner 0 9 = 12 ∧ slotOwner 8 23 = 14 := by decide

/-! ### States that meet the hypotheses of the obligations -/

theorem meets_StepRunsFront : part.pending = [] := by decide

theorem meets_QueueKept : ∃ t, exec .idcode part = .next t := ⟨_, rfl⟩

theorem meets_WellFormedCommandsRun : Instr.wf .idcode = true ∧ Instr.wf (.bypass 3 true) = true ∧
    Instr.wf (.bypass 2 true) = false := by decide

theorem meets_PorExitStartsStrap : State.reset.power.state = .por ∧
    (∀ i, i < 7 → risingMv i < vget (#v[731, 731, 1601, 1601, 2901, 1601, 1651, 0] : Vector Nat 8) i 0) ∧ State.reset.tap.holds = false ∧
    7 * 1601 ≤ 10 * (some 1121).getD 0 ∧ State.reset.tap.blocked = false ∧
    ({ State.reset with tap := { State.reset.tap with ir := 4, blocked := true } } : State).tap.holds = true := by decide

theorem meets_FullResets : (699 < fallingMv 0 ∧ 1549 < fallingMv 6) ∧ (⟨some 540, 1800⟩ : PinInput).level ≠ .high ∧
    (⟨some 1260, 1800⟩ : PinInput).level = .high ∧ (⟨none, 1800⟩ : PinInput).level ≠ .high ∧ fallingMv 0 ≤ 700 := by decide

theorem meets_SupplyAndFaultPin : part.power.warns 0 749 = true ∧ part.power.warns 7 13401 = true ∧ part.power.warns 7 10999 = true ∧
    part.power.state ≠ .por ∧ part.power.state ≠ .strap ∧ (inState .heldClock).faultPattern = some (.blink 250 250) ∧
    (inState .heldThermal).power.state = .heldThermal ∧ part.running = true ∧
    ({ inState .heldStrap with straps := { part.straps with faults := [⟨3, 2, 0⟩] } } : State).straps.faults = [⟨3, 2, 0⟩] := by decide

/-- Readings with CODE_A at a window centre and CODE_B unstable. -/
def readings : StrapReadings :=
  { volts := (Vector.replicate 8 (Vector.replicate 16 750)).set 1 ((Vector.replicate 16 750).set 3 826)
    devel := Vector.replicate 16 1260, provN := Vector.replicate 16 1800, vddIo := 1800, temp := 130 }

theorem meets_StrapsAndProvisioning : (inState .strap).power.state = .strap ∧
    part.power.state ≠ .por ∧ part.power.state ≠ .strap ∧
    (∀ i : Fin 16, 7 * readings.vddIo ≤ 10 * readings.devel[i] ∧ 3 * readings.vddIo < 10 * readings.devel[i]) ∧
    (∃ i : Fin 16, 10 * (readings.devel.set 5 1259)[i] < 7 * readings.vddIo) := by decide

theorem meets_StrapsAndProvisioning_unstable : pinUnstable (readings.volts[1].map (min 12000)) = true := by
  unfold pinUnstable
  rw [Vector.toList_map]
  decide

/-- Readings with every coded pin at a voltage in 0.1 mV, the binary straps with their samples. -/
def level (mv : Nat) (devel provN : Vector Nat 16) : StrapReadings :=
  { volts := Vector.replicate 8 (Vector.replicate 16 mv), devel := devel, provN := provN, vddIo := 1800, temp := 25 }

/-- Conversions that all are the same. -/
theorem map_level (mv : Nat) : (Vector.replicate 16 mv).map (min 12000) = Vector.replicate 16 (min 12000 mv) := by simp

/-- Every pin of such readings converts to the same 16 values. -/
theorem level_pin (mv : Nat) (d p : Vector Nat 16) (k : Fin 8) :
    (level mv d p).volts[k].map (min 12000) = Vector.replicate 16 (min 12000 mv) := by
  have h : (level mv d p).volts[k] = Vector.replicate 16 mv := by simp [level]
  rw [h, map_level]

theorem meets_StrapsAndProvisioning_codes :
    (pinUnstable (Vector.replicate 16 (min 12000 975)) = false ∧ offCentre (pinMean (Vector.replicate 16 (min 12000 975))) = false) ∧
    offCentre (pinMean (Vector.replicate 16 (min 12000 976))) = true ∧
    (offCentre (pinMean (Vector.replicate 16 (min 12000 10500))) = false ∧ nearestCode (pinMean (Vector.replicate 16 (min 12000 10500))) = 14) ∧
    nearestCode (pinMean (Vector.replicate 16 (min 12000 6000))) = 8 ∧
    allAt 1800 (Vector.replicate 16 1260) = true ∧ allAt 1800 (Vector.replicate 16 540) = true ∧
    (pinLevel 1800 ((Vector.replicate 16 540).set 3 1260)[3] = .high ∧ pinLevel 1800 ((Vector.replicate 16 540).set 3 1260)[0] = .low) ∧
    pinLevel 1800 ((Vector.replicate 16 540).set 3 541)[3] = .band := by decide

theorem meets_StrapsAndProvisioning_checks (p : Fin 8) :
    (level 750 (Vector.replicate 16 540) (Vector.replicate 16 540)).decodes p = true := by
  unfold StrapReadings.decodes
  rw [level_pin]
  revert p
  decide

/-- Codes that fail each check of Table STR-8, and codes that fail none. -/
theorem meets_StrapsAndProvisioning_table :
    ((coded #v[0, 4, 0, 0, 0, 0, 0, 0]).refSource = 2 ∧ (coded #v[0, 4, 0, 0, 0, 0, 0, 0]).isStandalone = true) ∧
    (coded #v[0, 4, 1, 0, 0, 0, 0, 0]).isMaster = true ∧
    ((coded #v[0, 0, 4, 0, 0, 0, 0, 0]).refSource ≠ 2 ∧ (coded #v[0, 0, 4, 0, 0, 0, 0, 0]).isMember = true) ∧
    ((coded #v[0, 6, 0, 0, 0, 0, 0, 0]).refSource = 3 ∧ (∀ g ∈ [1#4, 6#4, 7#4, 8#4, 11#4, 13#4], (coded #v[0, 6, 0, 0, 0, 0, 0, 0]).code 6 ≠ g)) ∧
    92 < ((coded #v[0, 4, 4, 15, 15, 0, 0, 0]).ringId + 1) * (coded #v[0, 4, 4, 15, 15, 0, 0, 0]).cellCount ∧
    ((coded #v[0, 4, 4, 0, 0, 0, 0, 0]).refSource = 2 ∧ (coded #v[0, 4, 4, 0, 0, 0, 0, 0]).isMember = true ∧
      ((coded #v[0, 4, 4, 0, 0, 0, 0, 0]).ringId + 1) * (coded #v[0, 4, 4, 0, 0, 0, 0, 0]).cellCount ≤ 92) := by decide

/-- Work that passes, at a temperature. -/
def work (ok : Bool) (t : Int) : TrustWork :=
  { otpOk := ok, shaOk := true, ecdsaOk := true, nvAnswers := true, protectedHead := .stored, generalHead := .stored, temp := t }

theorem meets_TrustExits : (inState .trust).power.state = .trust ∧
    ((work false 25).otpOk && (work false 25).shaOk && (work false 25).ecdsaOk && (work false 25).nvAnswers) = false ∧
    ((work true 125).otpOk && (work true 125).shaOk && (work true 125).ecdsaOk && (work true 125).nvAnswers) = true := by decide

theorem meets_ThermalReadings : part.power.state ≠ .por ∧ part.power.state ≠ .strap ∧ part.power.thermalArmed = true ∧
    part.present 0 = true ∧ (part.tenant 0).held = false := by decide

/-- The part in CLOCK, its window and starting band overridden. -/
def locking (present : Bool) (tried : List (BitVec 6)) : State :=
  { inState .clock with clock := { part.clock with
      present := present, locked := false, override := some ⟨5, 250, 550⟩, seqBand := 5, tried := tried } }

/-- A part in CLOCK whose reference is the recovered one. -/
def recovering : State := { locking false [] with straps := { part.straps with codes := #v[0, 4, 4, 0, 0, 0, 0, 0] } }

/-- A lock sequence at a band. -/
def lockingAt (b : BitVec 6) : State := { locking true [] with clock := { (locking true []).clock with seqBand := b } }

/-- A lock attempt that reached lock at a tuning voltage. -/
def attempt (vt : Nat) : LockAttempt := { reached := true, vt := vt, limit := .none }

theorem meets_ReferenceAndLock : (locking false []).power.state = .clock ∧ (locking false []).clock.present = false ∧
    (locking false []).refSource ≠ 2 ∧ refDeadline (locking false []).refSource = some 20 ∧ (locking true []).clock.present = true ∧
    (recovering.power.state = .clock ∧ recovering.clock.present = false ∧ recovering.refSource = 2 ∧ recovering.ring.locked = false) ∧
    ((lockingAt 63).clock.seqBand = 63#6 ∧ (lockingAt 0).clock.seqBand = 0#6) ∧
    ((locking true []).bandEntry.lo ≤ (attempt 250).taken ∧ (attempt 550).taken ≤ (locking true []).bandEntry.hi) ∧
    ((locking true [1, 2]).clock.tried.length < 3 ∧ (locking true []).bandEntry.hi < (attempt 551).taken ∧
      (locking true []).clock.seqBand ≠ 63#6) ∧
    ((attempt 249).taken < (locking true []).bandEntry.lo ∧ (attempt 249).taken ≤ (locking true []).bandEntry.hi ∧
      (locking true []).clock.seqBand ≠ 0#6) ∧ 3 ≤ (locking true [1, 2, 3]).clock.tried.length := by decide

/-- The part in holdover, or in the gap of a stepped re-lock. -/
def holding (p : SteppedPhase) : State :=
  { part with clock := { part.clock with
      locked := false, holdover := true, stepped := p, override := some ⟨5, 250, 550⟩, band := 5 } }

theorem meets_HoldoverCommands : part.running = true ∧ (LockLoss.phaseError 21 4).cause ≠ 0 ∧ (LockLoss.missingEdges 4).cause ≠ 0 ∧
    part.clock.locked = true ∧ part.clock.holdover = false ∧ (holding .none).clock.canRelock = true ∧
    (attempt 300).ok (holding .none).bandEntry = true ∧ ((holding .none).bandEntry.hi < (attempt 551).taken ∧
      (attempt 249).taken < (holding .none).bandEntry.lo) ∧
    (holding .stopped).clock.stepped = .stopped ∧
    runSequence (holding .stopped).bandEntry (holding .stopped).bandEntry.band [] [attempt 551, attempt 300] = some (true, [5, 6], 300) ∧
    runSequence (holding .stopped).bandEntry (holding .stopped).bandEntry.band [] (List.replicate 4 (attempt 551)) =
      some (false, [5, 6, 7, 8], 551) := by decide

/-- What a quiet strobe finds. -/
def quiet : StrobeInputs :=
  { benchAck := Vector.replicate 8 true, glideAck := Vector.replicate 8 true, sharedAck := Vector.replicate 9 true
    samples := Vector.replicate 16 (-2147483648)
    audio := Vector.replicate 8 (List.replicate 32 0) }

/-- A channel with a notice whose timer runs. -/
def mailed0 : Channel := { ChannelDecl.start ⟨0x01, true, 4⟩ with full := true, visible := true, timer := 3 }

theorem meets_FrameStrobes : part.running = true ∧ part.clock.stepped ≠ .stopped ∧
    ((stepping id 0x00 plain).bench 0).active = true ∧ ({ part with channels := [mailed0] } : State).channels[0]? = some mailed0 := by decide

/-- Whether bench 0, changed by `g`, issues and performs a step. -/
def runs (g : Bench → Bench) (op : BitVec 6) (f : StepFields) : Bool :=
  (stepping g op f).issues 0 op f && ((stepping g op f).seen 0).performs f

/-- Fields with operand bits. -/
def operand (ext : BitVec 38) : StepFields := { plain with ext := ext }

theorem meets_StepWordRoundTrip : stepOp (encodeStep 0x3f { plain with ext := 0x3fffffffff#38, sat := true, inv := true }) = 0x3f := by decide

theorem meets_StepsThatDoNotIssue : Instr.step (.add 0 plain) = some (0, 0x03, plain) ∧ (stepping id 0x03 plain).issues 0 0x03 plain = true ∧
    (stepping id 0x03 plain).issues 0 0x04 plain = false ∧
    (stepping id 0x03 { plain with inv := true }).issues 0 0x03 { plain with inv := true } = true ∧
    ((stepping id 0x03 { plain with inv := true }).seen 0).performs { plain with inv := true } = false := by decide

theorem meets_MoveSteps : runs id 0x00 plain = true ∧ runs id 0x01 plain = true ∧ runs id 0x02 plain = true := by decide

theorem meets_AddSteps : runs id 0x03 plain = true ∧ runs id 0x04 plain = true ∧ runs id 0x05 plain = true ∧ runs id 0x06 plain = true := by decide

theorem meets_MinMaxLogicSteps : runs id 0x07 plain = true ∧ runs id 0x08 plain = true ∧ runs id 0x09 plain = true ∧
    runs id 0x0a plain = true ∧ runs id 0x0b plain = true := by decide

theorem meets_ShiftSteps : runs id 0x0c (operand 0x2000000001f) = true ∧ runs id 0x0d (operand 0x1000000000) = true ∧
    runs id 0x0d (operand 0x2000000000) = true ∧ runs id 0x0e plain = true := by decide

theorem meets_ProductSteps : runs id 0x10 (operand 0x70000) = true ∧ runs id 0x11 plain = true := by decide

theorem meets_AccumulatorSteps : runs id 0x12 plain = true ∧ runs id 0x13 { plain with sat := true } = true ∧
    runs id 0x14 plain = true ∧ runs id 0x15 plain = true ∧ runs id 0x16 plain = true ∧ runs id 0x17 (operand 0x70000) = true := by decide

theorem meets_StoreSteps : runs id 0x18 plain = true ∧ runs id 0x1f plain = true ∧ runs id 0x1e plain = true := by decide

theorem meets_CompareSteps : runs id 0x19 (operand 0x2000000) = true ∧ runs id 0x19 (operand 0x20000000) = true ∧
    runs id 0x19 (operand 0x40000000) = true ∧ runs id 0x19 (operand 0x60000000) = true ∧ runs id 0x1a plain = true ∧
    runs id 0x1b (operand 0x380000) = true := by decide

/-- A bench with one line of 4 words, 2 of them filled, one written. -/
def lined (x : Bench) : Bench :=
  { x with lines := [{ base := 0, length := 4, w := 1, f := 2, fresh := true }], delay := [(1, some 7)], d := x.d.set 2 0x18000 }

theorem meets_DelaySteps : (((lined Bench.init).line 0).f < 3) ∧ ¬((lined Bench.init).line 0).f < 1 ∧
    Sparse.read none (lined Bench.init).delay (((lined Bench.init).line 0).addr 2) = none ∧
    Sparse.read none (lined Bench.init).delay (((lined Bench.init).line 0).addr 0) = some 7 ∧
    runs lined 0x1c plain = true ∧ runs lined 0x1d plain = true ∧ runs id 0x1d plain = true ∧
    min (((stepping lined 0x1d plain).seen 0).reg plain.rb).toNat ((((stepping lined 0x1d plain).seen 0).line 0).length * 65536 - 65536) %
      65536 ≠ 0 := by decide

theorem meets_TableAndFunctionSteps : runs id 0x20 plain = true ∧ runs id 0x21 (operand 4) = true ∧ runs id 0x25 plain = true ∧
    (0xffffffff#32).toNat / 2 ^ 24 = 255 ∧ (0xfeffffff#32).toNat / 2 ^ 24 ≠ 255 ∧
    runs (regs 0 0) 0x22 plain = true ∧ runs (regs 1 0) 0x22 plain = true ∧ runs (regs 0x40000000 0) 0x22 plain = true ∧
    (0x40000000#32).toInt = 2 ^ 30 ∧ runs (regs 0 0) 0x23 plain = true ∧ runs (regs 0xfc000000 0) 0x23 plain = true ∧
    (0xfc000000#32).toInt = ((30 : Int) - 31) * 2 ^ 26 ∧ runs (regs 0 0) 0x24 plain = true ∧ runs (regs 1 0) 0x24 plain = true := by decide

theorem meets_RegisterSeenFromThirdPosition : (∀ w ∈ Bench.init.pipe, w.pos ≤ 0) ∧ 2 < 0 + 3 ∧ 0 + 3 ≤ 3 := by decide

/-! ### Traffic steps -/

/-- An image of tenant 0 with one window, channels from and to bench 1, a bench program, and a release on GO. -/
def image : Image :=
  { unsigned := false, rollback := 1, build := 0, digest := [], benchMask := 1
    programs := [⟨0, 1, 8, 0, 0, []⟩], delays := [], coefs := [], laws := []
    windows := [⟨0, 256, 16, 0x7ffffff⟩], grants := [], accepts := [], channels := [⟨0x01, true, 4⟩], results := []
    eventMask := 0, plans := none, bands := none, ports := [], senses := [], streams := [], inbound := [⟨0, true, 0⟩]
    releases := [⟨0, .onGo⟩], cals := [], bodies := [] }

/-- The part with that image, its benches 0 to 7 in a state. -/
def withImage (b : BenchState) : State :=
  { part with
    tenants := Vector.replicate 4 { Tenant.init with image := some image }
    benches := Vector.replicate 8 { Bench.init with state := b } }

/-- A channel with a notice posted. -/
def posted (id : Byte) (v : Bool) : Channel :=
  { (ChannelDecl.start ⟨id, true, 4⟩) with notice := 9, full := true, visible := v }

/-- The part with that image, one channel, and bench 0 RUNNING with one step left. -/
def trading (c : Channel) (op : BitVec 6) (f : StepFields) : State :=
  ({ withImage .running with channels := [c] }).modBench 0 (fun x => { x with
    seq := { x.seq with prog := [(0, encodeStep op f)], length := 1, granted := 7680, due := 12 } })

/-- Whether bench 0 issues and performs a step there. -/
def trades (c : Channel) (op : BitVec 6) (f : StepFields) : Bool :=
  (trading c op f).issues 0 op f && ((trading c op f).seen 0).performs f

theorem meets_ViewAndStatSteps : runs id 0x28 (operand 63) = true ∧ runs id 0x2a (operand 15) = true ∧ runs id 0x2b (operand 0x2f) = true ∧
    runs id 0x2c (operand 127) = true ∧ runs id 0x3a (operand 3) = true ∧ runs id 0x3b (operand 7) = true ∧
    runs id 0x3c (operand 23) = true ∧ runs id 0x3c (operand 32) = true ∧ runs id 0x3c (operand 33) = true ∧ runs id 0x3c (operand 34) = true ∧
    runs id 0x3c (operand 35) = true := by decide

theorem meets_StagingSteps : runs id 0x29 plain = true ∧ runs id 0x2d plain = true ∧ runs id 0x35 plain = true ∧
    runs id 0x3d (operand 8) = true ∧ runs id 0x36 plain = true ∧ runs id 0x31 (operand 7) = true := by decide

/-- A channel that the mailbox tests leave alone. -/
def other : Channel := ChannelDecl.start ⟨0x77, true, 0⟩

theorem meets_PitRequestAndCollectSteps : trades other 0x2e plain = true ∧ (trading other 0x2e plain).isWedged 1 = false ∧
    ((trading other 0x2e plain).checkWindow 0 0 rightRead 15 1).1 = 0 ∧ ((trading other 0x2e plain).checkWindow 0 0 rightRead 16 1).1 = 6 ∧
    ((trading other 0x2e plain).checkWindow 0 1 rightRead 0 1).1 = 5 ∧ trades other 0x30 plain = true ∧
    ((trading other 0x30 plain).seen 0).writes.length < 8 ∧ ((trading other 0x30 plain).checkWindow 0 0 rightWrite 15 1).1 = 0 ∧
    ((trading other 0x30 plain).checkWindow 0 0 rightWrite 16 1).1 ≠ 0 ∧ runs id 0x2f plain = true ∧
    (vget ((stepping id 0x2f plain).seen 0).tags 0 ⟨0, false, 0, none⟩).last = none := by decide

/-- A bench whose tag 0 had its latest PRD at position 0. -/
def asked (before : Nat) (x : Bench) : Bench :=
  { x with tags := x.tags.set 0 ⟨5, true, 4, some 0⟩, seq := { x.seq with before := before } }

theorem meets_PitRequestAndCollectSteps_collect : runs (asked 64) 0x2f plain = true ∧ runs (asked 63) 0x2f plain = true ∧
    (vget ((stepping (asked 63) 0x2f plain).seen 0).tags 0 ⟨0, false, 0, none⟩).last = some 0 ∧
    ((stepping (asked 64) 0x2f plain).bench 0).seq.position = 64 ∧ ((stepping (asked 63) 0x2f plain).bench 0).seq.position = 63 := by decide

/-- Operand bits of a mailbox step: sub-operation and endpoint. -/
def mailbox (sub e : Nat) : StepFields := operand (BitVec.ofNat 38 (sub * 2 ^ 36 + e * 2 ^ 32))

theorem meets_MailboxSteps :
    (trades (ChannelDecl.start ⟨0x01, true, 4⟩) 0x32 (mailbox 0 1) = true ∧
      (trading (ChannelDecl.start ⟨0x01, true, 4⟩) 0x32 (mailbox 0 1)).checkPost 0 1 0 = 0) ∧
    (trades (posted 0x01 false) 0x32 (mailbox 0 1) = true ∧ (trading (posted 0x01 false) 0x32 (mailbox 0 1)).checkPost 0 1 0 ≠ 0 ∧
      (trading (posted 0x01 false) 0x32 (mailbox 0 1)).checkPost 0 1 0 ≠ 9) ∧
    (trades (posted 0x01 true) 0x32 (mailbox 1 1) = true ∧ trades (posted 0x01 true) 0x32 (mailbox 2 1) = true ∧
      (trading (posted 0x01 true) 0x32 (mailbox 1 1)).channel (channelId 0 1) = some (posted 0x01 true)) ∧
    (trades (posted 0x10 true) 0x33 (mailbox 0 1) = true ∧ trades (posted 0x10 true) 0x34 (mailbox 0 1) = true ∧
      (trading (posted 0x10 true) 0x33 (mailbox 0 1)).channel (channelId 1 0) = some (posted 0x10 true) ∧
      trades (posted 0x10 false) 0x33 (mailbox 0 1) = true ∧
      (trading (posted 0x10 false) 0x33 (mailbox 0 1)).channel (channelId 1 0) = some (posted 0x10 false)) := by decide

theorem meets_MailboxSteps_absent : ((trading (ChannelDecl.start ⟨0x01, true, 4⟩) 0x32 (mailbox 0 1)).modBench 1 (fun x =>
      { x with state := .fenced })).issues 0 0x32 (mailbox 0 1) = true ∧
    ((trading (ChannelDecl.start ⟨0x01, true, 4⟩) 0x32 (mailbox 0 1)).modBench 1 (fun x => { x with state := .fenced })).checkPost 0 1 0 = 9 := by
  decide

/-- A member in ring lock, bench 0 RUNNING with a step left. -/
def locked (op : BitVec 6) (f : StepFields) : State :=
  { stepping id op f with ring := { part.ring with locked := true } }

theorem meets_RemoteWitnessCommitSteps : (locked 0x39 plain).issues 0 0x39 plain = true ∧ ((locked 0x39 plain).seen 0).performs plain = true ∧
    (((locked 0x39 plain).seen 0).remotes < 16 ∧ (locked 0x39 plain).ring.locked = true ∧ (locked 0x39 plain).isWedged 2 = false) ∧
    runs id 0x39 plain = true ∧ (stepping id 0x39 plain).ring.locked = false ∧
    runs id 0x37 plain = true ∧ (stepping id 0x37 plain).owner 0 = some 0 ∧
    ((stepping id 0x37 plain).appendEntry 0 true ((stepping id 0x37 plain).source 1 0) 0x80 (List.replicate 28 0)).1 = 0 ∧
    runs id 0x38 (operand 1) = true ∧ (stepping id 0x38 (operand 1)).checkCommit 0 1 none = 0 ∧
    runs id 0x38 (operand 2) = true ∧ (stepping id 0x38 (operand 2)).checkCommit 0 2 none = 9 := by decide

/-- A part whose tenants have used up the budget second, or have so many host and witness entries queued. -/
def logging (used : Nat) (queue : Nat) (s : State) : State :=
  { s with wb := { s.wb with
    used := Vector.replicate 4 used
    witnessQ := List.replicate queue ⟨[], s.record ⟨0, 0⟩ 0x10 0x80 []⟩ } }

/-- A part with its weighbridge wedged. -/
def jammed (s : State) : State := { s with faults := { s.faults with wedged := s.faults.wedged.set 8 true } }

theorem meets_RemoteWitnessCommitSteps_refused : (logging 8 0 (stepping id 0x37 plain)).logLive = true ∧
    8 ≤ vget (logging 8 0 (stepping id 0x37 plain)).wb.used 0 0 ∧ (logging 8 0 (stepping id 0x37 plain)).issues 0 0x37 plain = true ∧
    vget (logging 7 32 (stepping id 0x37 plain)).wb.used 0 0 < 8 ∧ 32 ≤ (logging 7 32 (stepping id 0x37 plain)).wb.witnessQ.length ∧
    (jammed (stepping id 0x37 plain)).logLive = false ∧ (jammed (stepping id 0x37 plain)).issues 0 0x37 plain = true := by decide

/-! ### Tenant ports -/

/-- An intact frame with tag 0 and full lanes. -/
def frame (op : Nat) (h1 : Word) (payload : List Word) : HostFrame :=
  let f : HostFrame :=
    { tag := 0, count1 := BitVec.ofNat 5 (payload.length - 1), mask := 0xf, seq := 7, h1 := h1, payload := payload,
      crc := 0, edges := 32 * (payload.length + 3), taNs := 400 }
  { f with crc := crc32cWords (f.h0 op :: h1 :: payload) }

/-- Such a frame's length and CRC are right. -/
theorem frame_intact (op : Nat) (h1 : Word) (payload : List Word) (h : payload.length = (frame op h1 payload).count) :
    (frame op h1 payload).intact op = true := by
  unfold HostFrame.intact
  rw [← h]
  simp [frame, HostFrame.h0]

/-- A frame that passes the checks before its op's own. -/
theorem taken {s : State} {x : TenantId} {op need : Nat} {v : Serves} {hr : Bool} {h1 : Word} {payload : List Word}
    (h : s.portIgnores x = false ∧ payload.length = (frame op h1 payload).count ∧
      s.frameCheck x (frame op h1 payload) ⟨op, need, v⟩ hr false = 0) : s.takes x (frame op h1 payload) ⟨op, need, v⟩ hr :=
  ⟨h.1, h.2.1, frame_intact op h1 payload h.2.1, h.2.2⟩

/-- The part with that image, a channel from bench 1 to host 0, and a tag of port 0. -/
def ported (c : Channel) (g : HostTag) : State :=
  ({ withImage .running with channels := [c] }).modPort 0 (fun p => { p with tags := p.tags.set 0 g })

/-- A tag in a state, issued by an op. -/
def tag (t : TagState) (o : TagOp) : HostTag := { HostTag.init with state := t, op := o, data := [1, 2] }

theorem meets_FramesNotTaken : Instr.hostFrame (.post 0 (frame 0x5 0 [1])) = some (0, frame 0x5 0 [1], 0x5) ∧
    Instr.wf (.post 0 (frame 0x5 0 [1])) = true ∧ (inState .strap).power.state = .strap ∧ part.portIgnores 0 = false ∧
    ({ frame 0x5 0 [1] with edges := 63 } : HostFrame).edges < 64 ∧ ({ frame 0x5 0 [1] with edges := 65 } : HostFrame).intact 0x5 = false ∧
    (inState .heldTrust).portIgnores 0 = false ∧ (inState .heldTrust).power.state = .heldTrust :=
  ⟨rfl, by decide⟩

theorem meets_PortReads_status : part.takes 0 (frame 0x0 0 (List.replicate 8 0)) ⟨0x0, 0, Serves.status⟩ true ∧
    (part.tenant 0).port.credits ≤ 8 :=
  ⟨taken (by decide), by decide⟩

theorem meets_PortReads_poll : part.takes 0 (frame 0x6 0 (List.replicate 6 0)) ⟨0x6, 0, Serves.tenant⟩ true ∧
    (ported (posted 0x81 true) HostTag.init).channel (channelId 8 1) = some (posted 0x81 true) ∧ (posted 0x81 true).declared = true ∧
    part.channel (channelId 8 1) = none :=
  ⟨taken (by decide), by decide⟩

theorem meets_PortReads_events : part.takes 0 (frame 0xb 0 [0xffffffff, 0]) ⟨0xb, 1, Serves.open_⟩ true :=
  taken (by decide)

theorem meets_PortReads_timeRead : part.takes 0 (frame 0xe 0 (List.replicate 9 0)) ⟨0xe, 0, Serves.open_⟩ true ∧
    (frame 0xe 0 (List.replicate 9 0)).sub 4 = 0 :=
  ⟨taken (by decide), by decide⟩

/-- RESULT of 16 slots from slot 48 and from slot 49, and of a bench of another tenant. -/
theorem meets_PortReads_result :
    (part.takes 0 (frame 0xa 0x8000300f [0]) ⟨0xa, 0, Serves.tenant⟩ true ∧ part.owns 0 (benchOf ((frame 0xa 0x8000300f [0]).bits 24 3)) = true ∧
      (frame 0xa 0x8000300f [0]).bits 8 6 + ((frame 0xa 0x8000300f [0]).bits 0 4 + 1) = 64) ∧
    (part.takes 0 (frame 0xa 0x310f [0]) ⟨0xa, 0, Serves.tenant⟩ true ∧
      64 < (frame 0xa 0x310f [0]).bits 8 6 + ((frame 0xa 0x310f [0]).bits 0 4 + 1)) ∧
    ((coded #v[1, 0, 0, 0, 0, 0, 0, 0]).takes 0 (frame 0xa 0x7000000 [0]) ⟨0xa, 0, Serves.tenant⟩ true ∧
      (coded #v[1, 0, 0, 0, 0, 0, 0, 0]).owns 0 (benchOf ((frame 0xa 0x7000000 [0]).bits 24 3)) = false) :=
  ⟨⟨taken (by decide), by decide⟩, ⟨taken (by decide), by decide⟩, ⟨taken (by decide), by decide⟩⟩

theorem meets_PortMemoryOps_read : (ported other (tag .free .read)).takes 0 (frame 0x2 0xf00 [0]) ⟨0x2, 0, Serves.tenant⟩ false ∧
    laneValid (frame 0x2 0xf00 [0]).mask = true ∧ ((ported other (tag .free .read)).hostTag 0 (frame 0x2 0xf00 [0])).state = .free ∧
    ((ported other (tag .free .read)).checkWindow 8 0 rightRead 15 1).1 = 0 ∧ (ported other (tag .free .read)).isWedged 1 = false :=
  ⟨taken (by decide), by decide⟩

theorem meets_PortMemoryOps_write : (ported other HostTag.init).takes 0 (frame 0x4 0xe00 [1, 2]) ⟨0x4, 1, Serves.tenant⟩ false ∧
    ((ported other HostTag.init).tenant 0).port.credits ≠ 0 ∧ ((ported other HostTag.init).checkWindow 8 0 rightWrite 14 2).1 = 0 :=
  ⟨taken (by decide), by decide⟩

/-- Port 0 without a credit. -/
def spent : State := (ported other HostTag.init).modPort 0 (fun p => { p with credits := 0 })

theorem meets_PortMemoryOps_no_credit : spent.takes 0 (frame 0x4 0 [1]) ⟨0x4, 1, Serves.tenant⟩ false ∧
    spent.takes 0 (frame 0x1 0x80000000 [1]) ⟨0x1, 1, Serves.tenant⟩ false ∧ (spent.tenant 0).port.credits = 0 :=
  ⟨taken (by decide), taken (by decide), by decide⟩

/-- The staging area after 262,143 words of tenant 0. -/
def staged : State :=
  { part with staging := { Staging.init with holder := some 0, nextSeq := 8191, length := 262143, phase := .loading } }

theorem meets_PortMemoryOps_load : part.takes 0 (frame 0x1 0xc0000000 [1]) ⟨0x1, 1, Serves.tenant⟩ false ∧
    ((frame 0x1 0xc0000000 [1]).h1.getLsbD 31 = true ∧ (frame 0x1 0xc0000000 [1]).bits 0 13 = 0 ∧ part.staging.holder = none) ∧
    staged.takes 0 (frame 0x1 0x1fff [1]) ⟨0x1, 1, Serves.tenant⟩ false ∧ (frame 0x1 0x1fff [1]).bits 0 13 = staged.staging.nextSeq.toNat ∧
    staged.staging.length + (frame 0x1 0x1fff [1]).count = 262144 :=
  ⟨taken (by decide), by decide, taken (by decide), by decide⟩

theorem meets_PortCollects : (ported other (tag .free .read)).takes 0 (frame 0x3 0 [0]) ⟨0x3, 0, Serves.open_⟩ true ∧
    ((ported other (tag .pending .read)).hostTag 0 (frame 0x3 0 [0])).state = .pending ∧
    ((ported other (tag .ready .log)).takes 0 (frame 0xc 0x40000000 [0, 0]) ⟨0xc, 0, Serves.evidence⟩ true ∧
      (frame 0xc 0x40000000 [0, 0]).sub 4 = 4 ∧ ((ported other (tag .ready .log)).hostTag 0 (frame 0xc 0x40000000 [0, 0])).state = .ready ∧
      (frame 0xc 0x40000000 [0, 0]).bits 0 12 + (frame 0xc 0x40000000 [0, 0]).count = 2) ∧
    ((ported other (tag .fetched .attest)).takes 0 (frame 0xd 0x40000001 [0]) ⟨0xd, 0, Serves.evidence⟩ true ∧
      (frame 0xd 0x40000001 [0]).sub 4 = 4 ∧ ((ported other (tag .fetched .attest)).hostTag 0 (frame 0xd 0x40000001 [0])).state = .fetched ∧
      (frame 0xd 0x40000001 [0]).bits 0 12 = 1) :=
  ⟨taken (by decide), by decide, ⟨taken (by decide), by decide⟩, ⟨taken (by decide), by decide⟩⟩

theorem meets_PortCollects_empty :
    (ported other { tag .ready .log with data := [] }).takes 0 (frame 0xc 0x40000005 [0]) ⟨0xc, 0, Serves.evidence⟩ true ∧
    ((ported other { tag .ready .log with data := [] }).hostTag 0 (frame 0xc 0x40000005 [0])).state = .ready ∧
    ((ported other { tag .ready .log with data := [] }).hostTag 0 (frame 0xc 0x40000005 [0])).data = [] :=
  ⟨taken (by decide), by decide⟩

theorem meets_PortRequestsOfUnits_cross : (part.takes 0 (frame 0x5 7 [1]) ⟨0x5, 1, Serves.tenant⟩ false ∧ (frame 0x5 7 [1]).sub 2 = 0) ∧
    (part.takes 0 (frame 0x5 0x40000007 [1]) ⟨0x5, 0, Serves.tenant⟩ false ∧ (frame 0x5 0x40000007 [1]).sub 2 = 1) ∧
    (part.takes 0 (frame 0x9 0xfff [1]) ⟨0x9, 1, Serves.tenant⟩ false ∧ (frame 0x9 0xfff [1]).sub 2 = 0) ∧
    ((frame 0x9 0x40810000 [1, 2]).h1.extractLsb' 16 8 = 0x81#8 ∧
      part.takes 0 (frame 0x9 0x40810000 [1, 2]) ⟨0x9, (maskBenches 0x81).length, Serves.tenant⟩ false ∧
      (frame 0x9 0x40810000 [1, 2]).sub 2 = 1 ∧ ∀ d : BenchId, (0x81#8).getLsbD d.val = true → part.owns 0 d = true) :=
  ⟨⟨taken (by decide), by decide⟩, ⟨taken (by decide), by decide⟩, ⟨taken (by decide), by decide⟩, ⟨by decide, taken (by decide), by decide⟩⟩

/-- A port's notices from bench 1: one visible, one not. -/
def mailed (v : Bool) : State := ported (posted 0x18 v) HostTag.init

theorem meets_PortRequestsOfUnits_mail : (mailed true).takes 0 (frame 0x7 1 [0, 0]) ⟨0x7, 0, Serves.tenant⟩ true ∧
    (mailed true).owns 0 1 = true ∧ (mailed true).channel (channelId 1 8) = some (posted 0x18 true) ∧
    (mailed false).takes 0 (frame 0x8 1 [5]) ⟨0x8, 1, Serves.tenant⟩ false ∧
    (mailed false).channel (channelId 1 8) = some (posted 0x18 false) ∧ (posted 0x18 true).posting = 0 ∧
    (posted 0x18 true).posting ≠ (NoticeSeen.mk 1 9).posting :=
  ⟨taken (by decide), by decide, by decide, taken (by decide), by decide, by decide, by decide⟩

/-- A part of strap A = 1, whose bench 7 is not tenant 0's. -/
def shared : State := coded #v[1, 0, 0, 0, 0, 0, 0, 0]

theorem meets_PortRequestsOfUnits_others : shared.takes 0 (frame 0x7 7 [0, 0]) ⟨0x7, 0, Serves.tenant⟩ true ∧
    shared.takes 0 (frame 0x8 7 [5]) ⟨0x8, 1, Serves.tenant⟩ false ∧ shared.owns 0 7 = false ∧
    shared.takes 0 (frame 0xf 0x80 [0]) ⟨0xf, 0, Serves.tenant⟩ false ∧ (0x80#8).getLsbD (7 : BenchId).val = true ∧
    part.benchAbsent 0 = true :=
  ⟨taken (by decide), taken (by decide), by decide, taken (by decide), by decide, by decide⟩

theorem meets_PortRequestsOfUnits_go : (frame 0xf 1 [0]).h1.extractLsb' 0 8 = 1#8 ∧
    (withImage .armed).takes 0 (frame 0xf 1 [0]) ⟨0xf, 0, Serves.tenant⟩ false ∧ (frame 0xf 1 [0]).sub 4 = 0 ∧
    ∀ d : BenchId, (1#8).getLsbD d.val = true → (withImage .armed).owns 0 d = true ∧ (withImage .armed).benchAbsent d = false :=
  ⟨by decide, taken (by decide), by decide⟩

/-- TIME MARK for a ring frame, with the last frame of a second. -/
def markFrame (m : Word) : HostFrame := frame 0xe 0x10000000 [0, m, 100, 0xbb7f0000]

theorem meets_PortRequestsOfUnits_mark : part.takes 0 (markFrame 14) ⟨0xe, 4, Serves.tenant⟩ false ∧ (markFrame 14).sub 4 = 1 ∧
    (((markFrame 14).word 3).extractLsb' 16 16).toNat < part.ff ∧ part.isStandalone = true ∧
    ((markFrame 14).word 0).toNat * 2 ^ 32 + ((markFrame 14).word 1).toNat = part.align + 4 ∧
    ((markFrame 13).word 0).toNat * 2 ^ 32 + ((markFrame 13).word 1).toNat < part.align + 4 ∧
    (coded #v[0, 0, 4, 0, 0, 0, 0, 0]).takes 0 (markFrame 14) ⟨0xe, 4, Serves.tenant⟩ false ∧
    (coded #v[0, 0, 4, 0, 0, 0, 0, 0]).isMaster = false ∧ (coded #v[0, 0, 4, 0, 0, 0, 0, 0]).isStandalone = false :=
  ⟨taken (by decide), by decide, by decide, by decide, by decide, by decide, taken (by decide), by decide⟩

/-- The part with provisioning open. -/
def unlocked : State := { part with straps := { part.straps with provN := false } }

/-- The frames of the weighbridge's requests, intact by `frame_intact`, with their checks and sub-ops. -/
def wbFrames : List (HostFrame × OpSpec × Nat × Nat) :=
  [(frame 0xc 0 [0], ⟨0xc, 0, Serves.evidence⟩, 4, 0), (frame 0xc 0x1000000f [0, 1], ⟨0xc, 2, Serves.evidence⟩, 4, 1),
   (frame 0xc 0x20000000 (List.replicate 10 1), ⟨0xc, 10, Serves.evidence⟩, 4, 2),
   (frame 0xd 0 (List.replicate 8 1), ⟨0xd, 8, Serves.evidence⟩, 4, 0), (frame 0xf 0x30000000 [0], ⟨0xf, 0, Serves.open_⟩, 4, 3),
   (frame 0xf 0x10000000 [0], ⟨0xf, 0, Serves.tenant⟩, 8, 16), (frame 0xf 0x11000000 (List.replicate 9 3), ⟨0xf, 9, Serves.tenant⟩, 8, 17),
   (frame 0xf 0x12000000 [3, 9], ⟨0xf, 2, Serves.tenant⟩, 8, 18)]

theorem meets_PortRequestsOfWeighbridge : ∀ q ∈ wbFrames,
    unlocked.portIgnores 0 = false ∧ q.1.payload.length = q.1.count ∧
    unlocked.frameCheck 0 q.1 q.2.1 false false = 0 ∧ q.1.sub q.2.2.1 = q.2.2.2 ∧ (unlocked.hostTag 0 q.1).state = .free := by decide

theorem meets_PortRequestsOfWeighbridge_rest : unlocked.provisioningOpen = true ∧ unlocked.isWedged 9 = false ∧
    part.provisioningOpen = false ∧ ((ported other (tag .ready .log)).hostTag 0 (frame 0xc 0 [0])).state = .ready ∧
    (unlocked.takes 0 (frame 0xf 0x20000000 [0x4c4f434b]) ⟨0xf, 1, Serves.tenant⟩ false ∧ (frame 0xf 0x20000000 [0x4c4f434b]).sub 4 = 2) ∧
    (part.takes 0 (frame 0xc 0x30000000 (0x40000000 :: List.replicate 7 0)) ⟨0xc, 8, Serves.tenant⟩ false ∧
      (frame 0xc 0x30000000 (0x40000000 :: List.replicate 7 0)).sub 4 = 3 ∧
      (part.appendEntry 0 false (part.source 2 0) 0x40 (List.replicate 28 0)).1 = 0 ∧ (0x80#8).toNat > 0x7f) :=
  ⟨by decide, by decide, by decide, by decide, ⟨taken (by decide), by decide⟩, ⟨taken (by decide), by decide⟩⟩

theorem meets_PortRequestsOfWeighbridge_wedged : (jammed unlocked).isWedged 9 = true ∧ (jammed unlocked).provisioningOpen = true ∧
    ((jammed unlocked).takes 0 (frame 0xf 0x20000000 [0x4c4f434b]) ⟨0xf, 1, Serves.tenant⟩ false) ∧
    ((jammed unlocked).takes 0 (frame 0xc 0 [0]) ⟨0xc, 0, Serves.evidence⟩ false ∧
      ((jammed unlocked).hostTag 0 (frame 0xc 0 [0])).state = .free) :=
  ⟨by decide, by decide, taken (by decide), taken (by decide), by decide⟩

theorem meets_PortRequestsOfWeighbridge_append :
    (logging 8 0 part).takes 0 (frame 0xc 0x30000000 (0x7f000000 :: List.replicate 7 0)) ⟨0xc, 8, Serves.tenant⟩ false ∧
    (logging 8 0 part).logLive = true ∧ 8 ≤ vget (logging 8 0 part).wb.used 0 0 ∧ (jammed part).logLive = false ∧
    (vget (logging 7 32 part).wb.used 0 0 < 8 ∧ 32 ≤ (logging 7 32 part).wb.witnessQ.length) ∧
    0x40 ≤ (((frame 0xc 0x30000000 (0x7f000000 :: List.replicate 7 0)).word 0).extractLsb' 24 8).toNat ∧
    (((frame 0xc 0x30000000 (0x7f000000 :: List.replicate 7 0)).word 0).extractLsb' 24 8).toNat ≤ 0x7f :=
  ⟨taken (by decide), by decide⟩

/-- Port 0 with an outcome that is not final. -/
def flying (g : InFlight) (c : Channel) : State := (ported c HostTag.init).modPort 0 (fun p => { p with inFlight := some (g, 9) })

theorem meets_OutcomeBecomesFinal : ((flying (.judged 0x0b) other).tenant 0).port.inFlight = some (.judged 0x0b, 9) ∧
    ((flying (.post 1 5) (ChannelDecl.start ⟨0x81, true, 4⟩)).checkPost 8 1 5 = 0) ∧
    ((flying (.post 1 5) (posted 0x81 true)).checkPost 8 1 5 ≠ 0) ∧
    ((flying (.withdraw 1) (posted 0x81 true)).channel (channelId 8 1) = some (posted 0x81 true)) ∧
    (((flying (.stage 1 4095 [3]) other).stageCoefs 0 1 4095 [3]).1 = 0) ∧
    (((flying (.stage 1 4095 [3, 4]) other).stageCoefs 0 1 4095 [3, 4]).1 ≠ 0) := by decide

theorem meets_OutcomeBecomesFinal_overtaken :
    (((flying (.judged 0x0b) other).modPort 0 (fun p => { p with overtaken := true })).tenant 0).port.inFlight = some (.judged 0x0b, 9) ∧
    (((flying (.judged 0x0b) other).modPort 0 (fun p => { p with overtaken := true })).tenant 0).port.overtaken = true ∧
    ((flying (.judged 0x0b) other).tenant 0).port.overtaken = false := by decide

/-- The outcome of a frame that another one has overtaken does not come back into S. -/
theorem test_overtaken : (after (.outcomeFinal 0) ((flying (.judged 0x0b) other).modPort 0 (fun p =>
      { p with overtaken := true, result := 1, seq := 4 }))).map (fun t => ((t.tenant 0).port.result, (t.tenant 0).port.seq)) = some (1, 4) := by
  decide

/-- A commit of bench 0 passes where nothing of Table GLD-1 stands against it. -/
theorem group_passes (s : State) (v : Word) (h : (s.bench 0).coefs.shadowCrc = v) (a : s.reloads 0 = false) (b : s.commitAbsent 0 = false)
    (c : (s.bench 0).coefs.commit = none) (d : (s.bench 0).coefs.capacity ≤ 512) : s.checkCommit 0 1 (some [v]) = 0 := by
  have m : maskBenches 1#8 = [0] := by decide
  have e : ¬512 < (s.bench 0).coefs.capacity := Nat.not_lt.mpr d
  simp [State.checkCommit, m, h, a, b, c, e]

theorem meets_OutcomeBecomesFinal_group : ∃ v, (flying (.judged 0) other).checkCommit 0 1 (some [v]) = 0 :=
  ⟨_, group_passes _ _ rfl (by decide) (by decide) (by decide) (by decide)⟩

/-! ### Tenant reset, benches, plans, fences, the pit -/

/-- Tenant 0 changed. -/
def tenanted (g : Tenant → Tenant) : State := (withImage .running).modTenant 0 g

theorem meets_TenantResets : (part.tenant 0).asserted = false ∧ (⟨some 600, 1800⟩ : PinInput).level ≠ .high ∧
    (⟨some 1260, 1800⟩ : PinInput).level = .high ∧ part.power.state ≠ .por ∧
    ((tenanted (fun y => { y with holdDue := some 11 })).tenant 0).asserted = true ∧
    (part.running = true ∧ part.clock.strobed = true) ∧
    (((tenanted (fun y => { y with holdDue := some 10 })).tenant 0).holdDue = some 10 ∧ 10 ≤ (tenanted id).clock.frame ∧
      (tenanted id).owned 0 ≠ []) ∧
    (((tenanted (fun y => { y with held := true, releaseDue := some 10 })).tenant 0).releaseDue = some 10 ∧
      ((tenanted (fun y => { y with held := true, releaseDue := some 10 })).tenant 0).holdDue = none) := by decide

/-- Bench 0 in a state, its condition met, with a divisor. -/
def arming (d : Nat) : State :=
  part.modBench 0 (fun x => { x with state := .armed, met := some 9, seq := { x.seq with divisor := d, length := 1 } })

/-- Bench 0 at its due strobe with so many steps issued, and one staged result. -/
def ending (issued : Nat) : State :=
  part.modBench 0 (fun x => { x with
    state := .running, stage := { Stage.empty with results := [(63, 5)] }
    seq := { x.seq with length := 1, issued := issued, start := 9, due := 10 } })

theorem meets_BenchReleaseAndPeriodEnd : ((arming 3).bench 0).state = .armed ∧ ((arming 3).bench 0).met.isSome = true ∧
    (arming 3).align % ((arming 3).bench 0).seq.divisor ≠ 0 ∧ (arming 5).align % ((arming 5).bench 0).seq.divisor = 0 ∧
    (ending 0).periodEnds 0 = true ∧ ((ending 0).bench 0).acked = true ∧
    ((ending 0).bench 0).seq.issued < ((ending 0).bench 0).seq.length ∧ (ending 1).periodEnds 0 = true ∧
    ((ending 1).bench 0).seq.length ≤ ((ending 1).bench 0).seq.issued ∧
    (((ending 1).bench 0).stage.results.map Prod.fst).Nodup ∧ (ending 0).owner 0 = some 0 ∧ (ending 0).present 0 = true := by decide

/-- An output port whose slot 1 bench 0 feeds. -/
def outPort : PortEntry :=
  { port := 4, format := 0, slots := 2, width := 16, half := false, double := false, align := true, group := 0, routes := [⟨1, false, 0, 0⟩] }

/-- Bench 0 at its due strobe with a cell, an output and a plan staged, under CODE_G, its handshake good or failed. -/
def publishing (g : BitVec 4) (acked : Bool) : State :=
  let s := (coded #v[0, 0, 0, 0, 0, 0, g, 0]).modBench 0 (fun x => { x with
    state := .running, acked := acked, stage := { Stage.empty with cells := [(40, 6)], outputs := [(0, 5)], plan := some 1 }
    seq := { x.seq with length := 1, issued := 1, start := 9, due := 10 } })
  (s.modSap 4 (fun y => { y with entry := some (0, outPort) })).modTenant 0 (fun x => { x with
    image := some { image with plans := some ⟨0, [0, 0x2000]⟩ } })

theorem meets_BenchReleaseAndPeriodEnd_publishes : (publishing 0 true).periodEnds 0 = true ∧ (publishing 0 false).periodEnds 0 = true ∧
    ((publishing 0 false).bench 0).acked = false ∧ (((publishing 0 true).bench 0).stage.cells.map Prod.fst).Nodup ∧
    ((publishing 0 true).portRole 4 = 3 ∧ (publishing 1 true).portRole 4 = 4) ∧
    (((publishing 0 true).sap 4).entry = some (0, outPort) ∧ outPort.routes = [⟨1, false, 0, 0⟩]) ∧
    ((publishing 0 true).planWord 1 = some 0x2000 ∧ (publishing 0 true).outranked 0 = false) := by decide

set_option maxRecDepth 20000 in
/-- What bench 0 publishes at its due strobe: its output with a master port and with a follower one, its cell, its plan. -/
theorem test_publishes :
    (after (.benchPeriodEnd 0) (publishing 0 true)).bind (fun t => pubAt ((t.sap 4).slots[1]).pub false) = some 5 ∧
    (after (.benchPeriodEnd 0) (publishing 0 true)).bind (fun t => t.clock.pending) = some ⟨0x2000, 10⟩ ∧
    (after (.benchPeriodEnd 0) (publishing 1 true)).any (fun t => t.sap 4 |>.pubs.any (fun z => z.1 == 76800 && z.2 == [(1, false, 5)])) = true ∧
    (after (.benchPeriodEnd 0) (publishing 1 false)).any (fun t => (t.sap 4).pubs.isEmpty && (t.bench 0).state == .running) = true := by decide

/-- Bench 0 at its due strobe with a delay line and a route from an input port, or at its 16th failure. -/
def viewing (fails : Nat) : State :=
  ((ending 1).modSap 0 (fun y => { y with entry := some (0, { outPort with port := 0, routes := [⟨1, false, 0, 63⟩] }) })).modBench 0 (fun x =>
    { lined x with shake := ⟨fails, 1, false⟩ })

theorem meets_BenchReleaseAndPeriodEnd_view : (viewing 15).periodEnds 0 = true ∧ ((viewing 15).bench 0).acked = true ∧
    roleInput ((viewing 15).portRole 0) = true ∧ ((viewing 15).sap 0).entry.isSome = true ∧ (viewing 15).gone 7 = false ∧
    ({ part with faults := { part.faults with shake := part.faults.shake.set 6 ⟨16, 1, false⟩ } } : State).gone 7 = true ∧ ((viewing 15).bench 0).lines[0]? = some { base := 0, length := 4, w := 1, f := 2, fresh := true } ∧
    ((viewing 16).bench 0).state ≠ .fenced ∧ 16 ≤ ((viewing 16).bench 0).shake.fails := by decide

/-- A bench whose 16th failure is found at the strobe publishes nothing there, though it acknowledges it. -/
theorem test_fencing_strobe : (after (.benchPeriodEnd 0) (viewing 16)).map (fun t => ((t.bench 0).stage.results, (t.bench 0).results[63])) =
    some ([(63, 5)], ⟨0, 0, false⟩) := by decide

/-- The part with a plan switch pending, its running bench at or off a period start. -/
def switching (start : Nat) : State :=
  { (ending 0).modBench 0 (fun x => { x with seq := { x.seq with start := start, completed := 1 } }) with
    clock := { part.clock with pending := some ⟨0x1800, 9⟩ } }

/-- Bench 0 armed with ON_START, a START edge naming this strobe. -/
def armedStart : State :=
  { (withImage .armed) with
    tenants := Vector.replicate 4 { Tenant.init with image := some { image with releases := [⟨0, .onStart⟩] } }
    clock := { part.clock with starts := [10] } }

theorem meets_StartPlanStretch_start : armedStart.running = true ∧ armedStart.isStandalone = true ∧ (armedStart.bench 0).state = .armed ∧
    armedStart.releaseCond 0 = some .onStart ∧ armedStart.clock.frame ∈ armedStart.clock.starts ∧
    armedStart.align % (armedStart.bench 0).seq.divisor = 0 ∧ 10 * (some 540).getD 0 ≤ 3 * 1800 ∧ 3 * 1800 < 10 * (some 541).getD 0 := by
  decide

theorem meets_StartPlanStretch : part.isStandalone = true ∧ (coded #v[0, 0, 1, 0, 0, 0, 0, 0]).isMaster = true ∧
    (coded #v[0, 0, 1, 0, 0, 0, 0, 0]).ring.startPending = false ∧ (coded #v[0, 0, 7, 0, 0, 0, 0, 0]).isMember = true ∧
    (switching 10).clock.pending = some ⟨0x1800, 9⟩ ∧ 9 + 1 ≤ (switching 10).clock.frame ∧
    (∀ b ∈ (switching 10).counted, ((switching 10).bench b).seq.start = (switching 10).clock.frame) ∧
    (∃ b ∈ (switching 9).counted, ((switching 9).bench b).seq.start ≠ (switching 9).clock.frame) ∧
    (stepping id 0 plain).inWindow 0 8 = true ∧ ((stepping id 0 plain).bench 0).seq.toggleAt 8 = true := by decide

/-- The part with bench 0 at a count of failed handshakes. -/
def failing (n : Nat) : State := (withImage .running).modBench 0 (fun x => { x with shake := ⟨n, 1, false⟩ })

theorem meets_BenchFences : (failing 15).running = true ∧ (failing 15).clock.strobed = true ∧ ((failing 15).bench 0).state ≠ .fenced ∧
    ((failing 15).bench 0).shake.fails < 16 ∧ 16 ≤ ((failing 16).bench 0).shake.fails ∧
    (∀ o : BenchId, o.val < (0 : BenchId).val → ((failing 16).bench o).state = .fenced) ∧
    (∃ o : BenchId, o.val < (1 : BenchId).val ∧ ((failing 16).bench o).state ≠ .fenced ∧ 16 ≤ ((failing 16).bench o).shake.fails) := by decide

/-- The part with an island at 16 failures, a pit that stalled for 16 frames, and an entry queued. -/
def stuck : State :=
  ({ part with faults := { part.faults with shake := Vector.replicate 9 ⟨16, 1, false⟩, pitStall := 16 } }).logPart 0x06 (List.replicate 8 0)

/-- The part with one island at 16 failures. -/
def stuckAt (code : Fin 9) : State :=
  { part with faults := { part.faults with shake := part.faults.shake.set code ⟨16, 1, false⟩ } }

theorem meets_IslandWedges_order : 16 ≤ (vget (stuckAt 8).faults.shake 8 ⟨0, 0, true⟩).fails ∧
    (∀ k, k < 9 → 1 ≤ k → (vget (stuckAt 8).faults.shake (k - 1) ⟨0, 0, true⟩).fails < 16) ∧ (stuckAt 8).faults.pitStall < 16 := by decide

theorem meets_IslandWedges : (∀ i ∈ [SharedIsland.pit, .ring, .port 3, .audio, .sense, .weighbridge], stuck.isWedged i.code = false ∧
      16 ≤ (vget stuck.faults.shake (i.code - 1) ⟨0, 0, true⟩).fails) ∧
    stuck.running = true ∧ stuck.clock.strobed = true ∧ 16 ≤ stuck.faults.pitStall ∧ stuck.logLive = true ∧
    stuck.nextQueued.isSome = true := by decide

/-- A request of bench 0 for the last word of window 0. -/
def request : BenchRequest :=
  { pos := 0, addr := 0, window := 0, base := 256, length := 16, offset := 15, tag := 3, data := 9, stale := false, revoked := false }

/-- The part with bench 0's queues. -/
def queued (rs ws : List BenchRequest) : State := (withImage .running).modBench 0 (fun x => { x with reads := rs, writes := ws })

theorem meets_PitAccessesAndSpares_bench : slotOwner (part.code 5).toNat 0 = (0 : BenchId).val ∧ (queued [] []).running = true ∧
    (queued [] []).isWedged 1 = false ∧ (queued [] []).pit.nextSlot ≤ 0 ∧ (∀ r, r < 14 → (queued [] []).ready r = false) ∧
    (queued [request] []).stillPasses 0 0 rightRead 256 16 = true ∧ (∀ w ∈ ((queued [request] []).bench 0).writes, w.precedes request = false) ∧
    ((queued [] [request]).bench 0).reads = [] ∧ (queued [] [request]).stillPasses 0 0 rightWrite 256 16 = true ∧
    (queued [] [request]).stillPasses 0 0 rightWrite 256 15 = false ∧ (queued [request] []).stillPasses 0 0 rightRead 256 15 = false ∧ (inState .por).running = false := by decide

/-- A frame of port 0 with words left. -/
def job (k : JobKind) (n : Nat) : PortJob :=
  { id := 0, kind := k, window := 0, base := 256, length := 16, offset := 14, mask := 0xf, left := List.replicate n 5, got := [],
    merge := none, code := 0, seq := 1, stale := false, credit := true }

/-- The part with one frame of port 0 to perform. -/
def performing (j : PortJob) : State := (withImage .running).modPort 0 (fun p => { p with jobs := [j] })

theorem meets_PitAccessesAndSpares_port : slotOwner (part.code 5).toNat 8 = 8 + (0 : TenantId).val ∧
    (performing (job .write 2)).pit.grant = none ∧ ((performing (job .write 2)).tenant 0).port.jobs = [job .write 2] ∧
    (performing (job .write 2)).stillPasses 8 0 rightWrite 256 16 = true ∧ (job .write 1).left = [5] ∧
    (performing (job (.read 7) 2)).stillPasses 8 0 rightRead 256 16 = true ∧ (performing (job .write 2)).spareWinner = some 8 ∧
    (queued [] []).spareWinner = none ∧ slotOwner (part.code 5).toNat 33 = 14 ∧
    ({ performing (job .write 2) with pit := { part.pit with grant := some 0 } } : State).ready 8 = true ∧
    ({ queued [] [] with pit := { part.pit with grant := some 0 } } : State).ready 8 = false := by decide

/-- The part with words of the pit written. -/
def filled (s : State) : State := { s with pit := { s.pit with mem := [(269, some 5), (270, some 7), (271, some 9)] } }

theorem meets_PitAccessesAndSpares_ecc : (Sparse.read none (filled part).pit.mem 271).isSome = true ∧ (queued [request] []).owner 0 = some 0 ∧
    (filled (queued [request] [])).stillPasses 0 0 rightRead 256 16 = true ∧
    (Sparse.read none (filled (performing (job (.read 7) 2))).pit.mem ((job (.read 7) 2).base + (job (.read 7) 2).offset)).isSome = true ∧
    Sparse.wf none (filled part).pit.mem = true := by decide

/-- An earlier write of bench 0 to the word of its request. -/
def earlier : BenchRequest := { request with pos := 0 }

theorem meets_PitAccessesAndSpares_order : earlier.precedes { request with pos := 1 } = true ∧
    (queued [{ request with pos := 1 }] [earlier]).stillPasses 0 0 rightRead 256 16 = true ∧
    (queued [{ request with pos := 1 }] [earlier]).stillPasses 0 0 rightWrite 256 16 = true ∧
    ((queued [{ request with pos := 1 }] [{ earlier with revoked := true }]).bench 0).writes = [{ earlier with revoked := true }] := by decide

theorem meets_PitAccessesAndSpares_words :
    ({ job .write 2 with mask := 0xe } : PortJob).mask ≠ 0xf#4 ∧
    ((performing { job .write 2 with mask := 0xe, merge := some 3 }).tenant 0).port.jobs = [{ job .write 2 with mask := 0xe, merge := some 3 }] ∧
    (performing (job .write 2)).stillPasses 8 0 rightWrite 256 15 = false ∧ (performing (job (.read 7) 2)).stillPasses 8 0 rightRead 256 15 = false ∧
    ((performing (job (.load 0) 1)).tenant 0).port.jobs = [job (.load 0) 1] ∧ (performing (job (.load 0) 1)).staging.generation = 0 := by decide

theorem meets_PitAccessesAndSpares_system : slotOwner (part.code 5).toNat 56 = 13 ∧
    ({ part with staging := { Staging.init with holder := some 0, phase := .verifying, length := 5 } } : State).systemRead = some (0, none) ∧
    ({ part with staging := { Staging.init with
        holder := some 0, phase := .installing, image := some { image with bodies := [(9, 2, 0)] } } } : State).systemRead = some (9, some 0) ∧
    (filled part).systemRead = none ∧ ({ part with pit := { part.pit with scrub := [(270, 7)] } } : State).pit.scrub = [(270, 7)] := by decide

/-- A spare slot that port 0 wins with a frame not yet done gives it the grant, and one with its last word does not. -/
theorem test_spare_grant :
    (after (.pitAccess 33 .clean) (performing (job .write 2))).map (fun t => (t.pit.grant, t.pit.pointer)) = some (some 0, 9) ∧
    (after (.pitAccess 33 .clean) (performing (job .write 1))).map (fun t => (t.pit.grant, t.pit.pointer)) = some (none, 9) := by decide

/-- A write latched for window 0. -/
def latched : LatchedWrite := { window := 0, base := 256, length := 16, offset := 15, data := 3, source := 2, bench := 1, tag := 0 }

/-- The part with that write latched. -/
def latching : State := { withImage .running with ring := { part.ring with latches := part.ring.latches.set 7 (some latched) } }

theorem meets_PitAccessesAndSpares_ring : slotOwner (part.code 5).toNat 9 = 12 ∧
    firstLatch 0 latching.ring.latches.toList = some (7, latched) ∧ latching.inboundPasses 0 2 256 16 = true := by decide

/-! ### The weighbridge, images, mailbox and commit events -/

/-- The weighbridge with a request in service. -/
def serving (q : WbRequest) : State := { unlocked with wb := { part.wb with service := some ⟨0, 7, q, [], (⟨0, 0⟩, ⟨0, 0⟩)⟩ } }

/-- The weighbridge with a request of tenant 3 waiting. -/
def waiting : State := { part with wb := { part.wb with requests := part.wb.requests.set 3 [(7, .head)] } }

theorem meets_WeighbridgeServes : part.logLive = true ∧
    part.wb.service = none ∧ part.nextRequest = none ∧ waiting.nextRequest = some (3, 7, .head) ∧ waiting.wb.service = none ∧
    (∀ q ∈ [WbRequest.head, .entries ⟨0, 1⟩ 16, .identify, .selftest, .attest [], .exportLog ⟨0, 1⟩ 1 [], .slot 3 [1], .slot 3 [0],
      .floor 3 9], (serving q).wb.service.map (·.request) = some q) ∧
    (vget unlocked.otp.keys 3 none).isSome = false ∧
    (vget (unlocked.otp.keys.set 3 (some [])) 3 none).isSome = true := by decide

theorem meets_WeighbridgeServes_slot : (∃ w ∈ [(1 : Word)], w ≠ 0) ∧ (∀ w ∈ [(0 : Word)], w = 0) :=
  ⟨⟨1, List.mem_singleton.mpr rfl, by decide⟩, fun _ h => List.mem_singleton.mp h⟩

/-- The part with two entries of 64 bytes in its general region, the second the newest. -/
def recorded : State :=
  let entry := fun (seq : Word) => { status := .valid, bytes := padTo 0 64 (beBytes 4 seq.toNat), era := 0 : LogSlot }
  { part with
    straps := { part.straps with snapshot := List.replicate 28 0 }
    wb := { part.wb with nv := { part.wb.nv with slots := [(513, entry 1), (514, entry 2)] } } }

theorem meets_WeighbridgeServes_contents : recorded.wb.nv.newest.2.length = 32 ∧ (∀ y ∈ recorded.wb.nv.slots, y.2.bytes.length = 64) ∧
    recorded.straps.snapshot.length = 28 ∧ (∀ y : TenantId, (recorded.tenant y).image = none) := by decide

set_option maxRecDepth 20000 in
/-- LOG ENTRIES of 16 entries from the first: two are present, and they end short of the count. -/
theorem test_entries : (recorded.snapshot 0 (.entries ⟨0, 1⟩ 16) []).1.length = 35 ∧
    (recorded.snapshot 0 (.entries ⟨0, 1⟩ 16) []).1.take 4 = [0x01020200, 1, 0, 1] := by decide

/-- Entries queued: a witness entry, and an entry of the part behind it. -/
def witnessed : State :=
  (({ part with wb := { part.wb with protNext := 1, genNext := 513 } } : State).appendEntry 0 true 0x40 0x80 (List.replicate 28 0)).2.2.logPart 0x06 (List.replicate 8 0)

theorem meets_LogCommits : part.logLive = true ∧ (part.wb.witnessQ = [] ∧ part.wb.systemQ = []) ∧ witnessed.logLive = true ∧
    (witnessed.wb.witnessQ.length = 1 ∧ witnessed.wb.systemQ.length = 1 ∧
      (∀ q ∈ witnessed.wb.witnessQ, ∀ p ∈ witnessed.wb.systemQ, q.entry.pair.lt p.entry.pair = true ∧ q.ahead = [] ∧
        q.entry.kind ≠ 0x1b ∧ q.entry.kind ≠ 0xc0)) ∧
    ((part.logPart 0x06 (List.replicate 8 0)).wb.systemQ.length = 1 ∧ (part.logPart 0x06 (List.replicate 8 0)).wb.witnessQ = []) ∧
    part.wb.ended = none := by decide

/-- A second that ended with a refusal and a dropped failure. -/
def second : EndedSecond :=
  { index := 3, witness := #v[1, 0, 0, 0], host := Vector.replicate 4 0, drops := ⟨#v[0, 0, 0, 1], 8⟩, counter := 1 }

theorem meets_LogCommits_second : { part with wb := { part.wb with ended := some second } }.wb.ended = some second ∧
    (∃ c ∈ second.witness.toList ++ second.host.toList, c ≠ 0) ∧ (∃ c ∈ second.drops.counts.toList, c ≠ 0) :=
  ⟨rfl, ⟨1, by decide, by decide⟩, ⟨1, by decide, by decide⟩⟩

/-- An unsigned image of HEADER and SIGNATURE alone. -/
def imageWords : List Word :=
  [0x01000006, 0x564c5436, 0x01000000, 0, 41, 0x00030000, 0, 0xff000021, 0xf0000000] ++ List.replicate 32 0

/-- The part, DEVEL high, with words staged for tenant 0, of which so many are read. -/
def verifying (ws : List Word) (n : Nat) : State :=
  { part with
    straps := { part.straps with devel := true }
    pit := { part.pit with mem := ws.zipIdx.map (fun x => (stagingBase + x.2, some (x.1.setWidth 39))) }
    staging := { Staging.init with holder := some 0, phase := .verifying, length := ws.length, nextRead := n, lastLoad := 10 } }

/-- What a verdict is, without what it carries. -/
def verdictKind (v : ImageVerdict) : Nat := match v with | .waits => 0 | .refused _ => 1 | .passed _ => 2

theorem meets_ImageVerification_passed : verdictKind ((verifying imageWords 41).verdict 0) = 2 := by decide

theorem meets_ImageVerification : verdictKind ((verifying imageWords 40).verdict 0) = 0 ∧ verdictKind ((verifying [1] 1).verdict 0) = 1 ∧
    (verifying [1] 1).staging.holder = some 0 ∧ (verifying [1] 1).running = true ∧ (verifying [1] 1).staging.phase = .verifying ∧
    (∀ j ∈ ((verifying [1] 1).tenant 0).port.jobs, j.kind ≠ .load (verifying [1] 1).staging.generation) ∧
    (∃ j ∈ ((performing (job (.load 0) 1)).tenant 0).port.jobs, j.kind = .load (performing (job (.load 0) 1)).staging.generation) ∧
    (verifying [1] 1).clock.frame ≤ (verifying [1] 1).staging.lastLoad + 65536 ∧
    { part with clock := { part.clock with frame := 65547 } }.clock.frame > (verifying [1] 1).staging.lastLoad + 65536 := by decide

/-- A part with its pit wedged. -/
def jam (s : State) : State := { s with faults := { s.faults with wedged := s.faults.wedged.set 0 true } }

/-- An image that passed, or is being installed. -/
def installing (p : StagingPhase) : State :=
  { withImage .running with staging := { Staging.init with holder := some 0, phase := p, image := some image, v := 9, a := 10 } }

theorem meets_ImageStrobes : (installing .passed).staging.image = some image ∧ (installing .passed).staging.v + 1 ≤ (installing .passed).clock.frame ∧
    (installing .installing).staging.a ≤ (installing .installing).clock.frame ∧ (installing .passed).running = true ∧
    (installing .passed).owns 0 0 = true ∧ image.names 0 = true ∧ image.names 1 = false ∧
    Sparse.wf none (installing .installing).pit.mem = true := by decide

theorem meets_ImageStrobes_poison : (jam (installing .passed)).isWedged 1 = true ∧ (installing .passed).isWedged 1 = false ∧
    (jam (installing .passed)).staging.phase = .passed := by decide

/-- The part with one channel. -/
def holdingChannel (c : Channel) : State := { withImage .running with channels := [c] }

/-- A posted channel that waits for a write of its sender not yet done, or whose acknowledgement does. -/
def postedLate : Channel := { posted 0x01 false with waitFor := 1, ack := some (7, 1) }

theorem meets_NoticesAndFlips : (holdingChannel (posted 0x01 false)).channel 1 = some (posted 0x01 false) ∧
    (holdingChannel (posted 0x01 false)).writesDone 0 0 = true ∧
    ({ queued [] [request] with channels := [postedLate] }.writesDone 0 1 = false) ∧
    ({ ({ withImage .running with channels := [postedLate] }).modBench 1 (fun x => { x with writes := [request] }) with freeIdx := 0 }.writesDone 1 1
      = false) ∧ (holdingChannel (posted 0x01 true)).writesDone 1 0 = true ∧
    ((posted 0x01 true).visible = true ∧ (posted 0x01 true).timer = 0 ∧ (posted 0x01 true).timeout ≠ 0 ∧ (posted 0x01 true).timedOut = false) ∧
    (holdingChannel (posted 0x01 true)).endpointTenant 0 = some 0 := by decide

/-- Bench 0 with a commit of frame `n`. -/
def committing (n : Nat) (flipped : Bool) : State :=
  part.modBench 0 (fun x => { x with coefs := { x.coefs with commit := some ⟨n, flipped⟩ } })

theorem meets_NoticesAndFlips_commit : (committing 8 false).owns 0 0 = true ∧ 8 + 2 ≤ (committing 8 false).clock.frame ∧
    ((committing 8 false).bench 0).coefs.flipsAt 10 = true ∧ ((committing 9 false).bench 0).coefs.flipsAt 10 = false ∧
    ((committing 7 true).bench 0).coefs.endsAt 10 = true ∧ (∀ b, part.owns 0 b = true → (part.bench b).coefs.endsAt 10 = false) := by
  decide

/-- Bench 0 with a glide in progress on coefficient 3 under a law, and a commit past its first. -/
def gliding (law : Byte) (commit : Option PendingCommit) : State :=
  part.modBench 0 (fun x => { x with coefs := { x.coefs with
    bank0 := [(3, 1024)], bank1 := [(3, 64)], laws := [(3, law)], glides := [⟨3, 0, 1024, 1, 64⟩], first := false, commit := commit } })

theorem meets_NoticesAndFlips_glides : ((gliding 0x44 none).bench 0).state ≠ .fenced ∧ ((gliding 0x44 none).bench 0).coefs.flipsAt 11 = false ∧
    ((gliding 0x44 none).bench 0).coefs.glides.filter (fun h => decide (h.ix = 3)) = [⟨3, 0, 1024, 1, 64⟩] ∧
    Sparse.read 0 ((gliding 0x44 none).bench 0).coefs.laws 3 = 0x44 ∧ (0x44#8).toNat / 64 = 1 ∧ (0x84#8).toNat / 64 = 2 ∧
    ((gliding 0x44 (some ⟨8, false⟩)).bench 0).coefs.flipsAt 10 = true ∧ ((gliding 0x44 none).bench 0).coefs.first = false ∧
    Sparse.wf 0 ((gliding 0x44 none).bench 0).coefs.laws = true ∧ Sparse.wf 0 ((gliding 0x44 none).bench 0).coefs.active = true ∧
    (Sparse.read 0 ((gliding 0x44 none).bench 0).coefs.active 3).toInt = 1024 ∧ (0x44#8).toNat % 16 = 4 ∧ 15 + 1 = 2 ^ 4 := by decide

theorem meets_NoticesAndFlips_next : Glide.nextIs ⟨3, 0, 1024, 1, 64⟩ 0x44 128 ∧ Glide.nextIs ⟨3, 0, 1024, 1, 64⟩ 0x84 124 := by
  refine ⟨⟨fun _ => by decide, fun h => absurd h (by decide)⟩, ⟨fun h => absurd h (by decide), ?_⟩⟩
  intro _ e inc he hi
  subst he; subst hi
  decide

/-- The second step of 16 of a LIN glide from 0 to 1,024 (R253). -/
theorem test_lin_glide : (((gliding 0x44 none).bench 0).coefs.tick).glides = [⟨3, 0, 1024, 2, 128⟩] := by decide

/-! ### Audio ports, sense channels, the ring, the test access port, the whole part -/

/-- An entry of a port: two slots of 32 bits. -/
def portEntry (p : SapId) : PortEntry :=
  { port := p, format := 0, slots := 2, width := 32, half := false, double := false, align := false, group := 0, routes := [] }

/-- A part whose ports have the roles of CODE_G, one port named by tenant 0's image and changed by `g`. -/
def porting (code : BitVec 4) (p : SapId) (g : AudioPort → AudioPort) : State :=
  (coded #v[0, 0, 0, 0, 0, 0, code, 0]).modSap p (fun y => g { y with entry := some (0, portEntry p) })

/-- A port with a slot that its bench has fed, and a publication of frame 10. -/
def fed (y : AudioPort) : AudioPort :=
  { y with slots := y.slots.set 0 { AudioSlot.init with started := [false] }, pubs := [(76800, [])] }

theorem meets_AudioPortCommands : (porting 0 0 id).audioLive = true ∧ ((porting 0 0 id).sap 0).entry = some (0, portEntry 0) ∧
    roleMaster ((porting 0 0 id).portRole 0) = true ∧ ((porting 0 0 id).sap 0).running = false ∧
    ((porting 0 0 (fun y => { y with startDue := some 11 })).sap 0).startDue = some ((porting 0 0 id).clock.frame + 1) ∧
    (porting 1 0 id).portRole 0 = 2 ∧ (portEntry 0).bits = 64 ∧ (porting 1 0 id).leads 0 = true ∧ ((porting 1 0 id).sap 0).holding = none ∧
    ((porting 1 0 (fun y => { y with holding := some ([1, 2], 84288) })).sap 0).holding =
      some ([1, 2], (porting 1 0 id).clock.time + 7680 + (porting 1 0 id).clock.added - 3 * 64) ∧
    (porting 1 4 id).portRole 4 = 4 ∧ (porting 1 4 id).leads 4 = true ∧
    (∃ k : Fin 16, ((porting 1 4 fed).sap 4).slots[k].started ≠ []) ∧
    (∀ z ∈ ((porting 1 4 fed).sap 4).pubs, (porting 1 4 fed).clock.time + 3 * 63 < z.1 + 3 * 64) ∧
    ((porting 1 4 (fun y => { y with ending := true })).sap 4).ending = true ∧ ((porting 1 4 id).sap 4).ending = false ∧
    (∀ k : Fin 16, ((porting 1 4 id).sap 4).slots[k].started = []) ∧ ((porting 1 4 id).sap 4).pubs = [] ∧
    (porting 0 5 id).drives 4 = false ∧ (coded #v[0, 0, 4, 0, 0, 0, 0, 0]).isMember = true := by decide

/-- Port 4 with two publications that lie early enough, or one, each with a sample for its slot 1. -/
def loading (pubs : List (Nat × List (Nat × Bool × Word))) : State :=
  { (publishing 1 true).modSap 4 (fun y => { y with slots := y.slots.set 1 { AudioSlot.init with started := [false] }, pubs := pubs }) with
    clock := { part.clock with frame := 11, time := 84480 } }

theorem meets_AudioPortCommands_load : (loading [(84480, [(1, false, 0x12348000)])]).leads 4 = true ∧
    (((loading [(84480, [(1, false, 0x12348000)])]).sap 4).pubs.filter (fun z => decide (z.1 + 192 ≤ 84480 + 3 * 64))).length = 1 ∧
    (((loading [(84480, []), (76800, [])]).sap 4).pubs.filter (fun z => decide (z.1 + 192 ≤ 84480 + 3 * 64))).length = 2 ∧
    outPort.width = 16 ∧ outPort.rate = 1 ∧ outPort.routed 1 false = true ∧ pubAt (pubSlot [(1, false, 0x12348000)] 1) false = some 0x12348000 := by
  decide

/-- A load of one publication narrows its sample to 16 bits, ties to even; of two it takes the latest and raises the overrun. -/
theorem test_load : (after (.followerOutputLoad 4 64) (loading [(84480, [(1, false, 0x12348000)])])).any (fun t =>
      (t.sap 4).pubs.isEmpty && ((t.sap 4).slots[1]).content == [0x12340000] && (t.tenant 0).events == 0) = true ∧
    (after (.followerOutputLoad 4 64) (loading [(84480, [(1, false, 7)]), (76800, [])])).any (fun t =>
      (t.sap 4).pubs.isEmpty && (t.sap 4).wide == false && (t.tenant 0).events.getLsbD 20) = true := by decide

/-- A load that comes less than Q behind a place's first publication cannot take it, and is no slip (R325). -/
theorem test_first_load : (after (.followerOutputLoad 4 63) ((loading [(84480, [(1, false, 7)])]).modSap 4 (fun y =>
      { y with slots := y.slots.set 1 AudioSlot.init }))).any (fun t =>
      (t.sap 4).wide == false && (t.tenant 0).events == 0 && (t.sap 4).pubs.length == 1) = true := by decide

/-- A frame edge in a frame lengthened by R380 or R84 lies at cycle 2,560 or later. -/
theorem test_late_edge : (after (.followerOutputLoad 4 2600) (loading [(84480, [(1, false, 0x12348000)])])).any (fun t =>
      ((t.sap 4).slots[1]).content == [0x12340000]) = true := by decide

/-- A channel declaration of a mode: IEPE with 0.5 mA, BIAS, PASSIVE, or PULSE with levels of 1 V and 2 V. -/
def sense (mode : Nat) : SenseDecl := { channel := 0, w0 := BitVec.ofNat 32 (mode * 2 ^ 26), w1 := 0x28140000 }

/-- The part with sense channel 0 in a mode and a state. -/
def sensing (mode : Nat) (st : SenseMode) (g : SenseChannel → SenseChannel) : State :=
  part.modChan 0 (fun c => g { c with cfg := some (0, sense mode), state := st })

theorem meets_SenseExcitation : part.energyClass = 0 ∧ (sensing 0 .run id).senseLive = true ∧ ((sensing 0 .run id).chan 0).excited = true ∧
    (currentTrip 0).2 < 4501 ∧ (powerTrip 0).2 < 3334 * 4500 ∧ (4200 ≤ (currentTrip 0).1 ∧ 3392 * 4200 ≤ (powerTrip 0).1) ∧
    ((sensing 0 .run id).chan 0).cfg = some (0, sense 0) ∧ ((sensing 0 .tripped id).chan 0).state = .tripped ∧
    part.power.vexcOff = false ∧ part.senseLive = true ∧ (sensing 0 .run id).present 0 = true ∧ ((sensing 0 .run id).tenant 0).held = false := by decide

/-- A meter window above the class's nominal energy is above the part's threshold. -/
theorem meets_SenseExcitation_meter : meterTrip 0 0 < meterNominal 0 + 1 ∧ ¬meterTrip 0 0 < meterNominal 0 * 9 / 10 := by
  unfold meterTrip meterNominal; omega

theorem meets_SenseDiagnosis : (sensing 0 .run id).senseLive = true ∧ ((sensing 0 .run id).chan 0).cfg = some (0, sense 0) ∧
    ((sensing 0 .run id).chan 0).openDecl = false ∧ ((sensing 0 .run id).chan 0).shortDecl = false ∧
    ((sensing 0 .fault (fun c => { c with openDecl := true })).chan 0).openDecl = true ∧
    ((sensing 0 .fault (fun c => { c with openDecl := true })).chan 0).excited = true ∧ (sense 0).divisor = 1 := by decide

/-- The error of a threshold lies within 20 mV, so that a clear reading is judged whatever it is (Table SNS-6, R457). -/
theorem diagError_bounds (ch : SenseId) (k : Nat) : -20 ≤ diagError ch k ∧ diagError ch k ≤ 20 := by
  unfold diagError within; omega

theorem meets_SenseDiagnosis_conditions : openCond 0 0 (sense 0) 9820 0 = true ∧ shortCond 0 (sense 0) 480 = true ∧
    openCond 0 0 (sense 0) 600 0 = false ∧ shortCond 0 (sense 0) 521 = false := by
  have h := diagError_bounds 0 0
  have k := diagError_bounds 0 1
  have m : (sense 0).mode = 0 := by decide
  have u : (sense 0).microamp = 500 := by decide
  simp only [openCond, shortCond, m, u, classPo]
  refine ⟨?_, ?_, ?_, ?_⟩ <;> simp <;> omega

/-- A channel in SETTLE whose group delay is over, or lacks a frame. -/
def settling (frame : Nat) : State :=
  { sensing 0 .settle id with clock := { part.clock with frame := frame } }

theorem meets_SenseDiagnosis_settle : ((settling 16).chan 0).state = .settle ∧
    ((settling 16).chan 0).entered + (16 + 24 * ((sense 0).divisor - 1)) ≤ (settling 16).clock.frame ∧
    (settling 16).align % (sense 0).divisor = 0 ∧
    (settling 15).clock.frame < ((settling 15).chan 0).entered + (16 + 24 * ((sense 0).divisor - 1)) := by decide

theorem meets_SenseDiagnosis_pulse : ((sensing 3 .run id).chan 0).excited = true ∧ ((sensing 3 .run (fun c => { c with pulseFault := 1 })).chan 0).excited = true ∧
    (sense 3).mode = 3 ∧ ((sensing 3 .run id).chan 0).high ≠ true ∧ 1999 < (sensing 3 .run id).filterNs ∧
    (sensing 3 .run id).filterNs ≤ 2000 ∧ true ≠ (sense 3).falling ∧ ((sensing 3 .run (fun c => { c with high := true })).chan 0).high ≠ false ∧
    false = (sense 3).falling ∧ ((sensing 3 .run id).chan 0).pulseFault = 0 ∧
    pulseReason 0 { SenseChannel.init with burst := (3, 16) } (sense 3) 1 3 0 = true ∧
    pulseReason 0 SenseChannel.init (sense 3) 3 10 12001 = true ∧
    ((sensing 3 .run (fun c => { c with pulseFault := 1 })).chan 0).pulseFault ≠ 0 := by decide

/-- Readings whose comparator level no threshold error can change: V_HI 2 V, V_LO 1 V (R457). -/
theorem meets_SenseDiagnosis_levels : comparatorLevel 0 (sense 3) 2061 = some true ∧ comparatorLevel 0 (sense 3) 959 = some false := by
  have a : (sense 3).vHi = 2000 := by decide
  have b : (sense 3).vLo = 1000 := by decide
  constructor <;> simp only [comparatorLevel, comparatorMv, within, a, b] <;> split <;> (try split) <;> simp <;> omega

/-- A port with a frame captured, or a slip found. -/
def took (c : Option (List Word)) (z : Option Slip) (y : AudioPort) : AudioPort := { y with captured := c, slip := z }

theorem meets_FrameStrobes_ports : (porting 1 0 id).audioLive = true ∧ (porting 1 0 id).clock.stepped ≠ .stopped ∧ (porting 1 0 id).portRole 0 = 2 ∧
    ((porting 1 0 (took (some [1, 2]) (some .overrun))).sap 0).captured.isSome = true ∧
    ((porting 1 0 (took none (some .underrun))).sap 0).slip = some .underrun ∧ ((porting 1 0 id).sap 0).captured = none ∧
    ((porting 0 0 id).portRole 0 = 1 ∧ ((porting 0 0 (fun y => { y with running := true, gap := true })).sap 0).running = true ∧
      ((porting 0 0 id).sap 0).startDue ≠ some 11) ∧
    ((porting 0 4 id).portRole 4 = 3 ∧ ((porting 0 4 (fun y => { y with running := true })).sap 4).gap = false ∧ (portEntry 4).width = 32 ∧
      (portEntry 4).routed 0 false = false ∧ ((porting 0 4 id).sap 4).slots[0].phase = .live) ∧
    (roleMaster ((porting 0 4 id).portRole 4) = true ∧
      (((porting 0 4 id).modSap 4 (fun y => { y with entry := none, ending := true })).sap 4).ending = true) ∧
    (portEntry 0).align = false ∧ ((porting 1 0 id).sap 0).slots[15].phase = .live := by decide

theorem meets_FrameStrobes_rest : (sensing 0 .run id).senseLive = true ∧ ((sensing 0 .run id).chan 0).cfg = some (0, sense 0) ∧
    ((sensing 0 .run id).chan 0).seeded = false ∧ ((sensing 0 .run (fun c => { c with seeded := true })).chan 0).seeded = true ∧
    (sense 0).mode < 2 ∧ ¬(sense 3).mode < 2 ∧ (sensing 0 .run id).ring.skipDelivery.getLsbD 0 = false ∧
    ((⟨0, 20000, -10000⟩ : CalDecl).gain ≤ 20000 ∧ -10000 ≤ (⟨0, 20000, -10000⟩ : CalDecl).offset) ∧
    ((failing 15).bench 0).shake.ok = false ∧ decide (((failing 15).bench 0).state = .fenced) = false ∧
    decide (part.clock.stepped = .afterNext) = false := by decide

/-- A part with a held SENSE_DIAG change, its latest entry in frame 10, at a frame. -/
def diagnosing (frame : Nat) : State :=
  { sensing 0 .run id with
    clock := { part.clock with frame := frame }
    sense := { (sensing 0 .run id).sense with diagHeld := some ⟨0, 1, 0, 0⟩, diagAt := some 10 } }

theorem meets_SenseDiagnosis_held : (diagnosing 480010).sense.diagHeld = some ⟨0, 1, 0, 0⟩ ∧ (diagnosing 480010).sense.diagAt = some 10 ∧
    10 + 10 * (diagnosing 480010).ff ≤ (diagnosing 480010).clock.frame ∧ (diagnosing 480010).logTakes = true ∧ (diagnosing 480009).clock.frame < 10 + 10 * (diagnosing 480009).ff := by
  decide

/-- A part whose channel 0 has a declared open condition, its latest entry written in a frame, which may wait in the queue. -/
def diagnosed (at_ : Nat) (queued : Bool) : State :=
  let s := sensing 0 .fault (fun c => { c with openDecl := true })
  let u := { s with sense := { s.sense with diagAt := some at_ } }
  if queued then u.logPart 0xc1 (List.replicate 28 0) else u

theorem meets_SenseDiagnosis_entry : (diagnosed 10 true).sense.diagAt = some (diagnosed 10 true).clock.frame ∧
    (diagnosed 10 true).clock.frame < 10 + 10 * (diagnosed 10 true).ff ∧
    (diagnosed 10 true).wb.systemQ.any (diagnosed 10 true).diagQueued = true ∧ (diagnosed 9 false).sense.diagAt = some 9 ∧
    9 ≠ (diagnosed 9 false).clock.frame := by decide

/-- A part of a ring role, its ring changed by `g`. -/
def ringed (role : BitVec 4) (g : Ring → Ring) : State :=
  let s := coded #v[0, 0, role, 0, 0, 0, 0, 0]
  { s with ring := g s.ring }

theorem meets_RingLanesAndTime : (ringed 4 id).isStandalone = false ∧ (ringed 4 id).power.state ≠ .por ∧ (ringed 4 id).ringLive = true ∧
    2 ≤ (ringed 4 (fun r => { r with strayLaps := 2 })).ring.strayLaps ∧ (ringed 1 id).ringLive = true ∧ (ringed 1 id).isMaster = true ∧
    (ringed 1 (fun r => { r with mark := some ⟨10, 5, 0⟩, todMarked := true, todSeconds := 6 })).todDue = some ⟨10, 5, 0⟩ ∧
    (5 : Word).toNat < (6 : Word).toNat ∧ (ringed 1 id).present 0 = true ∧ ((ringed 1 id).tenant 0).held = false ∧
    (ringed 4 id).todDue = none ∧
    (ringed 1 (fun r => { r with mark := some ⟨10, 5, 0⟩ })).todDue = some ⟨10, 5, 0⟩ ∧
    (ringed 4 (fun r => { r with locked := true, headerTod := some ⟨0, 5, 0⟩ })).todDue = some ⟨0, 5, 0⟩ := by decide

/-- A master in a phase of the roll call. -/
def rolling (p : RollPhase) : State := ringed 1 (fun r => { r with roll := p, collected := some [0] })

/-- A member with receive lanes good on its up link, its down link. -/
def linked (up down : Bool) : State := ringed 4 (fun r => { r with laneUp := up, laneDown := down })

/-- A master that folds at X, the part of ring ID 1 at place 1, and Y at place 3: the part between is cut off. -/
theorem test_fold_cuts : (after (.fold 1 3 100 none) (ringed 1 (fun r => { r with
      roll := .run, table := [0xc0000024#32, 0x81000025#32, 0x82000026#32, 0x83000027#32] }))).map (fun t =>
      (t.ring.fold, t.ring.cutOff, t.ring.turning)) = some (1, [2], none) := by decide

theorem meets_RingRollCall : (rolling .idle).ringLive = true ∧ (rolling .idle).isMaster = true ∧ (rolling .idle).ring.roll = .idle ∧
    (ringed 1 (fun r => { r with retry := true })).ring.retry = true ∧ (rolling .idle).ring.retry = false ∧ (rolling .idle).foldEnabled = true ∧
    (rolling .collect).ring.roll = .collect ∧ (rolling .collect).ring.conflict = false ∧
    ([(0 : Word), 1].drop 1).all (fun w => !w.getLsbD 30) = true ∧ 15625 ≤ (rolling .collect).rotationLimit ∧ (rolling .collect).rotationLimit < 15626 ∧
    (rolling .assign).ring.collected = some [0] ∧ (ringed 4 id).isMaster = false ∧ (ringed 4 id).ringLive = true ∧
    (ringed 3 id).foldEnabled = false ∧
    (rolling .run).ring.roll = .run ∧ (ringed 4 id).foldEnabled = true ∧ (ringed 4 id).ring.turning = none ∧
    ((linked true false).ring.linkWhole .down = false ∧ (linked true false).ring.linkWhole .up = true ∧ (linked true false).ring.turning = none) ∧
    ((linked false true).ring.linkWhole .up = false ∧ (linked false true).ring.linkWhole .down = true) ∧
    ((linked true true).ring.linkWhole .up = true ∧ (linked true true).ring.linkWhole .down = true ∧ (linked true true).foldEnabled = true) ∧
    ((ringed 4 id).ring.linkWhole .up = false ∧ (ringed 4 id).ring.linkWhole .down = false) ∧ (ringed 5 id).isMember = true := by decide

theorem meets_RingRollCall_entries : [(0 : Word)][36 - 36]? = some 0 ∧ (∃ w ∈ [(0 : Word), 0x40000000].drop 1, w.getLsbD 30 = true) ∧
    (ringed 4 (fun r => { r with position := some 36 })).ring.position = some 36 :=
  ⟨rfl, ⟨0x40000000, List.mem_singleton.mpr rfl, by decide⟩, rfl⟩

/-- A lap with a header subtype. -/
def lap (h0 : Word) : Lap :=
  { clean := true, h0 := h0, h1 := 0, h2 := 0, h3 := 0x8000, slots := Vector.replicate 8 MessageSlot.freed, cells := Vector.replicate 92 .absent }

/-- A member with valid laps behind it. -/
def lapped (n : Nat) (err : Int) : State := ringed 4 (fun r => { r with validLaps := n, status := 0x80, strobeError := err })

theorem meets_RingLapsAndLock : validHeader (lap 0x00100000) = true ∧ validHeader (lap 0) = false ∧ (lapped 4 40).ringLive = true ∧
    (lapped 4 40).isMember = true ∧ (lapped 4 40).isMaster = false ∧ (lapped 4 40).ring.locked = false ∧ (lapped 4 40).clock.locked = true ∧
    (lapped 4 40).clock.holdover = false ∧ 4 ≤ (lapped 4 40).ring.validLaps ∧ (lapped 4 40).ring.status.getLsbD 7 = true ∧
    (lapped 4 (-40)).ring.strobeError.natAbs ≤ 40 ∧ (lapped 3 0).ring.validLaps < 4 ∧ 40 < (lapped 4 41).ring.strobeError.natAbs ∧
    (ringed 4 (fun r => { r with locked := true, missedLaps := 16 })).ring.locked = true ∧
    16 ≤ (ringed 4 (fun r => { r with locked := true, missedLaps := 16 })).ring.missedLaps ∧
    (ringed 4 (fun r => { r with locked := true, missedLaps := 15 })).ring.missedLaps < 16 ∧
    16 < (ringed 4 (fun r => { r with locked := true, holdoverLaps := 17 })).ring.holdoverLaps ∧
    (ringed 4 (fun r => { r with locked := true, validLaps := 1 })).ring.status.getLsbD 7 = false ∧
    RingLink.down ≠ (lapped 4 0).homeLink := by decide



/-- An end of a break whose link is whole again, before a new roll call. -/
def mended : State := ringed 4 (fun r => { r with turning := some .far, laneUp := true })

/-- The first lap of a roll call. -/
def rollLap : Lap := { lap 0x00100000 with h3 := 0x1100 }

theorem meets_RingLapsAndLock_unturns : mended.isMember = true ∧ validHeader rollLap = true ∧ rollLap.h3.getLsbD 12 = true ∧
    mended.ring.status.getLsbD 4 = false ∧ mended.ring.linkWhole .up = true ∧ (mended.unturn .up rollLap).homeLink = .up ∧
    mended.homeLink = .down ∧ (mended.unturn .up (lap 0)).homeLink ≠ .up := by decide

/-- A WRITE to ring ID 0 as it comes by, from ring ID 5. -/
def written : MessageSlot := ({ clean := true, w0 := 0x45000000, w1 := 0, w2 := 7, w3 := 0 } : MessageSlot).seal

set_option maxRecDepth 20000 in
theorem meets_RingLapsAndLock_messages : written.clean = true ∧ written.kind = 1 ∧ written.addressee = (lapped 4 0).ringId ∧
    written.replied = false ∧ written.w3.extractLsb' 0 8 = written.crc ∧ (lapped 4 0).ring.slots[0] = none ∧
    (lapped 4 0).ring.locked = false := by decide

/-- A member's map in which another part's one cell lies at position 36. -/
def mapped : State := ringed 4 (fun r => { r with locked := true, status := 0x80, table := [0x81001224#32] })

theorem meets_RingLapsAndLock_cells : mapped.ring.locked = true ∧ mapped.ring.status.getLsbD 7 = true ∧
    (physicalMap mapped.ring.table).filter (fun p => decide (p.1 = (37 : Fin 128).val) || decide (p.2 = 36 + (0 : Fin 92).val)) = [(37, 36)] ∧
    mapped.writesCell 37 = false ∧ (lap 0).h3.getLsbD 15 = true ∧ (lap 0).h3.getLsbD 12 = false := by decide

theorem meets_TapCommands : part.straps.devel = false ∧ (verifying [] 0).straps.devel = true ∧
    ((0x3ff00000000 : BitVec 42).extractLsb' 39 3).toNat = (7 : BenchId).val ∧
    ((0x3df00000000 : BitVec 42).extractLsb' 32 7).toNat = 64 + (31 : Fin 32).val ∧ (31#5 ≠ 8) ∧
    ((0x02300000000 : BitVec 42).extractLsb' 32 7).toNat = 35 ∧ ((0x3e000000000 : BitVec 42).extractLsb' 32 7).toNat = 96 := by decide

theorem meets_FusesAndFloorsStay : (∃ t, exec .idcode { part with otp := { keys := part.otp.keys.set 0 (some [1]), lock := 7 } } = .next t) ∧
    { part with otp := { keys := part.otp.keys.set 0 (some [1]), lock := 7 } }.otp.lock = 7 := ⟨⟨_, rfl⟩, rfl⟩

/-- A copy of the counter block as it is written is complete. -/
theorem copy_valid (b : CounterBlock) (k : Nat) : (b.copy k).valid = true := by
  simp [CounterCopy.valid, CounterBlock.copy]

theorem meets_FusesAndFloorsStay_settled : part.wb.nv.settled := ⟨copy_valid _ _, Or.inr (Nat.lt_succ_self 0)⟩

theorem meets_OnlyTheseChange : (∃ t, exec .logCommit part = .next t) ∧ Instr.isReset .logCommit = false ∧ part.power.state ≠ .por ∧
    part.power.state ≠ .strap := ⟨⟨_, rfl⟩, rfl, by decide, by decide⟩

theorem meets_MemoriesStayCanonical : part.memoriesWf ∧ ∃ t, step { part with pending := [.idcode] } = .next t :=
  ⟨by unfold State.memoriesWf; decide, ⟨_, rfl⟩⟩

end Sys2Proof.Tests
end

section
/-! SUPPORT. The compute steps that write one register, and leave all else but their issue position (R187 to R191 of
spec/08_compute_steps.md): what each puts on its way, and the bounds that keep a right shift in its word. -/
namespace Sys2Proof.Machine

/-! ### A step that only puts writes on their way -/

/-- What a change makes of its bench tells the state it makes. -/
theorem State.modBench_congr {s : State} {b : BenchId} {g g' : Bench → Bench} (h : g (s.bench b) = g' (s.bench b)) :
    s.modBench b g = s.modBench b g' := by
  unfold State.bench at h
  simp only [State.modBench, h]

/-- A step that performs takes its issue position and makes of its bench what its effect makes of the bench it sees. -/
theorem State.issueBench_eq_took {s : State} {b : BenchId} {op : BitVec 6} {f : StepFields}
    {act : Bench → StepFields → Nat → Bench} {g : Bench → Bench} (hi : s.issues b op f = true)
    (hp : (s.seen b).performs f = true) (hact : act (s.seen b) f (s.bench b).seq.position = g (s.seen b)) :
    s.issueBench b op f act = s.took b g := by
  rw [State.issueBench_performs hi hp]
  exact State.modBench_congr (congrArg (fun y : Bench => { y with seq := { y.seq with issued := y.seq.issued + 1 } }) hact)

/-- The outcome of a step that writes `v` to its destination register and does nothing else. -/
theorem next_writeReg {s : State} {b : BenchId} {op : BitVec 6} {f : StepFields} {act : Bench → StepFields → Nat → Bench}
    {v : Word} (hi : s.issues b op f = true) (hp : (s.seen b).performs f = true)
    (hact : ∀ r, act (s.seen b) f r = (s.seen b).writeReg f r v) :
    (.next (s.issueBench b op f act) : Out) = .next (s.stepped b [.reg f.rd v]) :=
  congrArg Host.Outcome.next (State.issueBench_eq_took hi hp (hact _))

/-- The overflow rule of R162 as the statements write it out: its register write, and its flag where it clamps. -/
theorem overflow32_writes (w : Word → PipeTarget) (f : StepFields) (v : Int) :
    w (overflow32 f.sat v).1 :: satFlag (overflow32 f.sat v).2 = overflowWrites w f v := by
  unfold overflow32 overflowWrites q31Min q31Max
  by_cases hmax : f.sat = true ∧ 2147483647 < v
  · have hmin : ¬(f.sat = true ∧ v < -2147483648) := fun h => by omega
    rw [if_neg hmin, if_pos hmax, if_pos hmax]
    rfl
  · by_cases hmin : f.sat = true ∧ v < -2147483648
    · rw [if_pos hmin, if_neg hmax, if_pos hmin]
      rfl
    · rw [if_neg hmin, if_neg hmax, if_neg hmax, if_neg hmin]
      rfl

/-- The outcome of a step that writes `v` to its destination register under the overflow rule and does nothing else. -/
theorem next_writeSat {s : State} {b : BenchId} {op : BitVec 6} {f : StepFields} {act : Bench → StepFields → Nat → Bench}
    {v : Int} (hi : s.issues b op f = true) (hp : (s.seen b).performs f = true)
    (hact : ∀ r, act (s.seen b) f r = (s.seen b).writeSat f r (overflow32 f.sat v)) :
    (.next (s.issueBench b op f act) : Out) = .next (s.stepped b (resultWrites f v)) := by
  refine congrArg Host.Outcome.next (State.issueBench_eq_took hi hp ?_)
  rw [hact, Bench.writeSat, overflow32_writes, resultWrites]

/-! ### A right shift stays in its word (R191) -/

/-- Rounding gives the quotient rounded down, or one more where something is left over. -/
theorem roundEven_cases (n : Int) (k : Nat) :
    roundEven n k = n / 2 ^ k ∨ (roundEven n k = n / 2 ^ k + 1 ∧ 0 < n % 2 ^ k) := by
  have hpos : (0 : Int) < 2 ^ k := by positivity
  unfold roundEven
  push_cast
  split_ifs <;> omega

/-- A quotient by a power of two lies in every range about 0 that holds the number. -/
theorem ediv_two_pow_mem {lo hi n : Int} (k : Nat) (hlo : lo ≤ 0) (hhi : 0 ≤ hi) (h : lo ≤ n ∧ n ≤ hi) :
    lo ≤ n / 2 ^ k ∧ n / 2 ^ k ≤ hi := by
  have hpos : (0 : Int) < 2 ^ k := by positivity
  constructor
  · rw [Int.le_ediv_iff_mul_le hpos]
    nlinarith
  · exact Int.ediv_le_of_le_mul hpos (by nlinarith)

/-- A number rounded by a power of two lies in every range about 0 that holds the number. -/
theorem roundEven_mem {lo hi n : Int} (k : Nat) (hlo : lo ≤ 0) (hhi : 0 ≤ hi) (h : lo ≤ n ∧ n ≤ hi) :
    lo ≤ roundEven n k ∧ roundEven n k ≤ hi := by
  have hpos : (0 : Int) < 2 ^ k := by positivity
  obtain ⟨qlo, qhi⟩ := ediv_two_pow_mem k hlo hhi h
  obtain hq | ⟨hq, hrest⟩ := roundEven_cases n k
  · exact ⟨hq ▸ qlo, hq ▸ qhi⟩
  · have hlt : n / 2 ^ k < hi := by
      by_contra hge
      have hsplit := Int.emod_add_mul_ediv n (2 ^ k)
      nlinarith
    omega

/-- A signed word lies in the Q1.31 range. -/
theorem word_toInt_mem (a : Word) : -2147483648 ≤ a.toInt ∧ a.toInt ≤ 2147483647 := by
  have hlo := BitVec.le_toInt a
  have hhi := BitVec.toInt_lt (x := a)
  omega

/-- A number in the Q1.31 range is the signed value of its word. -/
theorem toInt_ofInt_word {v : Int} (h : -2147483648 ≤ v ∧ v ≤ 2147483647) : (BitVec.ofInt 32 v).toInt = v :=
  BitVec.toInt_ofInt_eq_self (by decide) (by simpa using h.1) (by simp; omega)

/-- The word of a signed word shifted right and rounded down has that value. -/
theorem toInt_shra_down (a : Word) (n : Nat) : (BitVec.ofInt 32 (a.toInt / (2 ^ n : Nat))).toInt = a.toInt / 2 ^ n := by
  push_cast
  exact toInt_ofInt_word (ediv_two_pow_mem n (by decide) (by decide) (word_toInt_mem a))

/-- The word of a signed word shifted right and rounded to the nearest has that value. -/
theorem toInt_shra_nearest (a : Word) (n : Nat) : (BitVec.ofInt 32 (roundEven a.toInt n)).toInt = roundEven a.toInt n :=
  toInt_ofInt_word (roundEven_mem n (by decide) (by decide) (word_toInt_mem a))

/-! ### The compute steps that write one register -/

/-- Settles O16: NOP puts nothing on its way, MOV and MOVI put one register write there (R187). -/
theorem moveSteps : Obligations.MoveSteps := by
  intro b f s hp
  refine ⟨fun hi => ?nop, fun hi => ?mov, fun hi => ?movi⟩
  case nop => exact congrArg Host.Outcome.next (State.issueBench_eq_took hi hp rfl)
  case mov => exact next_writeReg hi hp fun _ => rfl
  case movi => exact next_writeReg hi hp fun _ => rfl

/-- Settles O17: the effect of each of the four is one register write under the overflow rule (R188). -/
theorem addSteps : Obligations.AddSteps := by
  intro b f s hp
  refine ⟨fun hi => ?add, fun hi => ?sub, fun hi => ?neg, fun hi => ?abs⟩
  case add => exact next_writeSat hi hp fun _ => rfl
  case sub => exact next_writeSat hi hp fun _ => rfl
  case neg => exact next_writeSat hi hp fun _ => rfl
  case abs => exact next_writeSat hi hp fun _ => rfl

/-- Settles O18: the effect of each of the five is one register write, whose word MIN and MAX choose by a signed comparison and
the logic steps form bit by bit (R189). -/
theorem minMaxLogicSteps : Obligations.MinMaxLogicSteps := by
  intro b f s hp
  refine ⟨fun hi => ⟨_, next_writeReg hi hp fun _ => rfl, ?min⟩, fun hi => ⟨_, next_writeReg hi hp fun _ => rfl, ?max⟩,
    fun hi => ⟨_, next_writeReg hi hp fun _ => rfl, ?and⟩, fun hi => ⟨_, next_writeReg hi hp fun _ => rfl, ?ior⟩,
    fun hi => ⟨_, next_writeReg hi hp fun _ => rfl, ?xor⟩⟩
  case min => split <;> omega
  case max => split <;> omega
  case and => exact fun i => BitVec.getLsbD_and
  case ior => exact fun i => BitVec.getLsbD_or
  case xor => exact fun i => BitVec.getLsbD_xor

/-- Settles O19: SHL falls under the overflow rule, and what SHRA and SHRL form is a word as it stands (R190, R191). -/
theorem shiftSteps : Obligations.ShiftSteps := by
  intro b f s n hp hn
  obtain rfl : n = (s.seen b).shiftAmount f := hn
  refine ⟨fun hi => ?shl, fun hi => ⟨_, next_writeReg hi hp fun _ => rfl, ?down, ?nearest⟩,
    fun hi => ⟨_, next_writeReg hi hp fun _ => rfl, ?shrl⟩⟩
  case shl => exact next_writeSat hi hp fun _ => by rw [Bench.stepShl, Nat.cast_pow, Nat.cast_ofNat]
  case down =>
    intro hrnd
    simp only [hrnd, Bool.false_eq_true, if_false]
    exact toInt_shra_down _ _
  case nearest =>
    intro hrnd
    simp only [hrnd, if_true]
    exact toInt_shra_nearest _ _
  case shrl => rw [BitVec.toNat_ushiftRight, Nat.shiftRight_eq_div_pow]

end Sys2Proof.Machine
end

section
/-! SUPPORT. What outlasts an operation: the straps as decoded, the frame counter, the fuses, the pit words, the coefficient banks and
delay memories of the benches and the write credits of the ports. One lemma for each operation that changes none of them; the few that do
have their own lemmas behind these. -/
namespace Sys2Proof.Machine

/-! ### What lasts -/

/-- The memories of a bench whose canonical form counts: its two coefficient banks and its delay memory. -/
def Bench.memories (x : Bench) : Sparse Word × Sparse Word × Sparse (Option Word) := (x.coefs.bank0, x.coefs.bank1, x.delay)

/-- A record update that keeps the delay memory keeps the memories, where the new banks are the old ones. -/
theorem Bench.memories_mk {x : Bench} {st d acc accSeen p pipe seq lines stage view pulses tags tagSeen reads writes prio prioSeen results status met goDue
    remotes generation remoteSeq shake acked glideOk glideFailed debug} {c : Coefs} (h0 : c.bank0 = x.coefs.bank0) (h1 : c.bank1 = x.coefs.bank1) :
    (Bench.mk st d acc accSeen p pipe seq x.delay lines stage view pulses c tags tagSeen reads writes prio prioSeen results status met goDue
      remotes generation remoteSeq shake acked glideOk glideFailed debug).memories = x.memories := by
  simp [Bench.memories, h0, h1]

/-- The parts of the state that most operations leave as they are. -/
structure Lasting where
  straps : Vector (BitVec 4) 8 × Bool × List Byte × List StrapFault
  frame : Nat
  strobed : Bool
  otp : Otp
  mem : Sparse (Option (BitVec 39))
  memories : Vector (Sparse Word × Sparse Word × Sparse (Option Word)) 8
  credits : Vector Nat 4

/-- What lasts, as a state has it. -/
def State.lasting (s : State) : Lasting :=
  { straps := (s.straps.codes, s.straps.devel, s.straps.snapshot, s.straps.faults), frame := s.clock.frame, strobed := s.clock.strobed
    otp := s.otp, mem := s.pit.mem
    memories := s.benches.map Bench.memories, credits := s.tenants.map (fun x => x.port.credits) }

theorem State.lasting_mk {s : State} {p : Power} {c : Clock} {f : Faults} {ts : Vector Tenant 4} {st : Staging} {bs : Vector Bench 8} {pit : Pit}
   {chs : List Channel} {au : Vector AudioPort 8} {se : Sense} {ri : Ring} {wb : Weighbridge} {tap : Tap} {dr : List Nat} {po fr : Nat}
       {pe : List Instr}
   (hf : c.frame = s.clock.frame) (hs : c.strobed = s.clock.strobed) (hp : pit.mem = s.pit.mem)
   (hb : bs.map Bench.memories = s.benches.map Bench.memories)
   (ht : ts.map (fun x => x.port.credits) = s.tenants.map (fun x => x.port.credits)) :
    (State.mk s.straps p c f ts st bs pit chs au se ri wb s.otp tap dr po fr pe).lasting = s.lasting := by
  simp [State.lasting, *]

/-! ### Bench and port operations that leave the memories and the credits -/

@[simp] theorem Bench.push_memories (x : Bench) (r : Nat) (t : PipeTarget) : (x.push r t).memories = x.memories := (rfl)

@[simp] theorem Bench.pushAll_memories (x : Bench) (r : Nat) (ts : List PipeTarget) : (x.pushAll r ts).memories = x.memories := by
  rw [Bench.pushAll_eq, Bench.memories, Bench.memories]

@[simp] theorem Bench.recordNow_memories (x : Bench) (code : Byte) (source addr frame : Nat) :
    (x.recordNow code source addr frame).memories = x.memories := (rfl)

@[simp] theorem Bench.recordAt_memories (x : Bench) (pos : Nat) (code : Byte) (source addr frame : Nat) :
    (x.recordAt pos code source addr frame).memories = x.memories := (rfl)

@[simp] theorem Bench.markTag_memories (x : Bench) (t r : Nat) : (x.markTag t r).memories = x.memories := (rfl)

@[simp] theorem Bench.refuseTag_memories (x : Bench) (t r : Nat) : (x.refuseTag t r).memories = x.memories := (rfl)

@[simp] theorem Bench.fillTag_memories (x : Bench) (q : BenchRequest) (v : Option Word) : (x.fillTag q v).memories = x.memories := (rfl)

@[simp] theorem Coefs.abandon_bank0 (c : Coefs) : c.abandon.bank0 = c.bank0 := by unfold Coefs.abandon; split <;> rfl

@[simp] theorem Coefs.abandon_bank1 (c : Coefs) : c.abandon.bank1 = c.bank1 := by unfold Coefs.abandon; split <;> rfl

@[simp] theorem Bench.reset_memories (x : Bench) : x.reset.memories = x.memories := by
  unfold Bench.reset; split <;> simp [Bench.memories]

@[simp] theorem Coefs.tick_bank0 (c : Coefs) : c.tick.bank0 = c.bank0 := (rfl)
@[simp] theorem Coefs.tick_bank1 (c : Coefs) : c.tick.bank1 = c.bank1 := (rfl)

@[simp] theorem Bench.strobe_memories (x : Bench) (frame cycles added : Nat) : (x.strobe frame cycles added).memories = x.memories := by
  unfold Bench.strobe Bench.memories; split <;> split <;> simp

@[simp] theorem Bench.judge_memories (x : Bench) (previous : Nat) (a g : Bool) : (x.judge previous a g).memories = x.memories := (rfl)

theorem foldl_memories {α : Type} (g : Bench → α → Bench) (h : ∀ x a, (g x a).memories = x.memories) (l : List α) (x : Bench) :
    (l.foldl g x).memories = x.memories := by
  induction l generalizing x with
  | nil => rfl
  | cons a l ih => rw [List.foldl_cons, ih, h]

@[simp] theorem Bench.consume_memories (x : Bench) (first : Nat) (carried : List Half) : (x.consume first carried).memories = x.memories := by
  exact foldl_memories (fun y (q : Half × Nat) => { y with results := vmod y.results (first + q.2) (fun r =>
    { r with fresh := r.fresh && decide (r.seq ≠ q.1) }) }) (fun _ _ => rfl) _ _

@[simp] theorem Tenant.assert_port (x : Tenant) (level : PinLevel) (next : Nat) : (x.assert level next).port = x.port := by
  unfold Tenant.assert; split <;> rfl

@[simp] theorem Tenant.atPorExit_port (x : Tenant) (level : PinLevel) : (x.atPorExit level).port = x.port := by
  unfold Tenant.atPorExit; split <;> rfl

@[simp] theorem Port.settleFrame_credits (p : Port) (v : Verdict) (seq : Half) : (p.settleFrame v seq).credits = p.credits := by
  unfold Port.settleFrame; split <;> (dsimp only; split <;> (try split) <;> rfl)

/-! ### Changes of one bench, one tenant, one port -/

@[simp] theorem State.modBench_lasting (s : State) (b : BenchId) (f : Bench → Bench) (h : ∀ x, (f x).memories = x.memories) :
    (s.modBench b f).lasting = s.lasting := by
  simp only [State.lasting, State.modBench]
  congr 1
  ext i hi : 1
  by_cases e : b.val = i <;> simp [e, h]

@[simp] theorem State.modTenant_lasting (s : State) (b : TenantId) (f : Tenant → Tenant) (h : ∀ x, (f x).port.credits = x.port.credits) :
    (s.modTenant b f).lasting = s.lasting := by
  simp only [State.lasting, State.modTenant]
  congr 1
  ext i hi : 1
  by_cases e : b.val = i <;> simp [e, h]

@[simp] theorem State.modPort_lasting (s : State) (b : TenantId) (f : Port → Port) (h : ∀ x, (f x).credits = x.credits) :
    (s.modPort b f).lasting = s.lasting := State.modTenant_lasting _ _ _ (fun x => h x.port)

@[simp] theorem ite_lasting (c : Prop) [Decidable c] (a b : State) :
    (if c then a else b).lasting = if c then a.lasting else b.lasting := by split <;> rfl

@[simp] theorem ite_snd_lasting {α : Type} (c : Prop) [Decidable c] (a b : α × State) :
    (if c then a else b).2.lasting = if c then a.2.lasting else b.2.lasting := by split <;> rfl

@[simp] theorem ite_next_lasting (c : Prop) [Decidable c] (a b : Verdict) :
    (if c then a else b).next.lasting = if c then a.next.lasting else b.next.lasting := by split <;> rfl

@[simp] theorem foldl_lasting {α : Type} (g : State → α → State) (h : ∀ u a, (g u a).lasting = u.lasting) (l : List α) (s : State) :
    (l.foldl g s).lasting = s.lasting := by
  induction l generalizing s with
  | nil => rfl
  | cons a l ih => simp only [List.foldl_cons]; rw [ih, h]

@[simp] theorem foldl_snd_lasting {α β : Type} (g : β × State → α → β × State) (h : ∀ u a, (g u a).2.lasting = u.2.lasting)
    (l : List α) (s : β × State) : (l.foldl g s).2.lasting = s.2.lasting := by
  induction l generalizing s with
  | nil => rfl
  | cons a l ih => simp only [List.foldl_cons]; rw [ih, h]

theorem State.nextMessage_lasting {s u : State} {n : MessageSlot} {m : SentMessage} (h : s.nextMessage = some (n, m, u)) :
    u.lasting = s.lasting := by
  unfold State.nextMessage at h
  split at h
  · cases h; rfl
  · split at h <;> cases h; rfl

/-! ### Ops -/

@[simp] theorem State.raise_lasting (s : State) (t : TenantId) (bit : Nat) :
    (s.raise t bit).lasting = s.lasting := by simp [State.raise]

@[simp] theorem State.raiseAll_lasting (s : State) (bit : Nat) :
    (s.raiseAll bit).lasting = s.lasting := by simp [State.raiseAll]

@[simp] theorem State.raiseOwner_lasting (s : State) (b : BenchId) (bit : Nat) :
    (s.raiseOwner b bit).lasting = s.lasting := by unfold State.raiseOwner; split <;> simp

@[simp] theorem State.drop_lasting (s : State) (t : TenantId) (source : Nat) :
    (s.drop t source).lasting = s.lasting := by simp [↓State.lasting_mk, State.drop]

@[simp] theorem State.newEpoch_lasting (s : State) :
    s.newEpoch.lasting = s.lasting := by simp [↓State.lasting_mk, State.newEpoch]

@[simp] theorem State.takeFree_lasting (s : State) :
    s.takeFree.2.lasting = s.lasting := by simp [↓State.lasting_mk, State.takeFree]

@[simp] theorem State.recognise_lasting (s : State) (ns never sure : Nat) :
    (s.recognise ns never sure).2.lasting = s.lasting := by simp [↓State.lasting_mk, State.recognise]

@[simp] theorem State.modChannel_lasting (s : State) (id : Nat) (f : Channel → Channel) :
    (s.modChannel id f).lasting = s.lasting := by simp [↓State.lasting_mk, State.modChannel]

/-! ### Audio -/

@[simp] theorem State.modSap_lasting (s : State) (p : SapId) (f : AudioPort → AudioPort) :
    (s.modSap p f).lasting = s.lasting := by simp [↓State.lasting_mk, State.modSap]

@[simp] theorem State.portEvents_lasting (s : State) (t : TenantId) (slip : Option Slip) (faded : Bool) :
    (s.portEvents t slip faded).lasting = s.lasting := by unfold State.portEvents; split <;> simp

@[simp] theorem State.sapStrobe_lasting (s : State) (frame : Nat) (frames : Vector (List Word) 8) (p : SapId) :
    (s.sapStrobe frame frames p).lasting = s.lasting := by unfold State.sapStrobe; split <;> simp

@[simp] theorem State.audioStrobe_lasting (s : State) (frame : Nat) (frames : Vector (List Word) 8) :
    (s.audioStrobe frame frames).lasting = s.lasting := by simp [State.audioStrobe]

@[simp] theorem State.publishSap_lasting (s : State) (b : BenchId) (outputs : List (Nat × Word)) (p : SapId) :
    (s.publishSap b outputs p).lasting = s.lasting := by unfold State.publishSap; split <;> simp

@[simp] theorem State.publishAudio_lasting (s : State) (b : BenchId) (outputs : List (Nat × Word)) :
    (s.publishAudio b outputs).lasting = s.lasting := by simp [State.publishAudio]

@[simp] theorem State.followerFrameComplete_lasting (s : State) (p : SapId) (bits : Nat) (samples : List Word) (cycle : Nat) :
    (s.followerFrameComplete p bits samples cycle).lasting = s.lasting := by unfold State.followerFrameComplete; split <;> simp

@[simp] theorem State.loadOne_lasting (s : State) (p : SapId) (now q : Nat) (lead : Bool) (slip : Option Slip) :
    (s.loadOne p now q lead slip).lasting = s.lasting := by unfold State.loadOne; split <;> simp

@[simp] theorem State.followLead_lasting (s : State) (m : SapId) (now q : Nat) (slip : Option Slip) :
    (s.followLead m now q slip).lasting = s.lasting := by simp [State.followLead]

@[simp] theorem State.followerCapture_lasting (s : State) (p : SapId) :
    (s.followerCapture p).lasting = s.lasting := by simp [State.followerCapture]

@[simp] theorem State.followerOutputLoad_lasting (s : State) (p : SapId) (cycle : Nat) :
    (s.followerOutputLoad p cycle).lasting = s.lasting := by simp [State.followerOutputLoad]

@[simp] theorem State.startPorts_lasting (s : State) (f : Nat) :
    (s.startPorts f).lasting = s.lasting := by simp [State.startPorts]

@[simp] theorem State.dropStarts_lasting (s : State) :
    s.dropStarts.lasting = s.lasting := by simp [↓State.lasting_mk, State.dropStarts]

@[simp] theorem State.masterPortStart_lasting (s : State) (p : SapId) :
    (s.masterPortStart p).lasting = s.lasting := by simp [State.masterPortStart]

@[simp] theorem State.nameSap_lasting (s : State) (t : TenantId) (p : SapId) (e : Option PortEntry) :
    (s.nameSap t p e).lasting = s.lasting := by unfold State.nameSap; split <;> simp

@[simp] theorem State.stopAudio_lasting (s : State) :
    s.stopAudio.lasting = s.lasting := by simp [↓State.lasting_mk, State.stopAudio]

@[simp] theorem State.gapAudio_lasting (s : State) :
    s.gapAudio.lasting = s.lasting := by simp [State.gapAudio]

/-! ### Glide -/

@[simp] theorem State.requestCommit_lasting (s : State) (t : TenantId) (mask : Byte) (crcs : Option (List Word)) :
    (State.requestCommit s t mask crcs).2.lasting = s.lasting := by
  unfold State.requestCommit
  dsimp only
  split
  · apply foldl_lasting
    exact fun u b => u.modBench_lasting b _ fun _ => rfl
  · rfl

@[simp] theorem State.commitDone_lasting (s : State) (t : TenantId) :
    (State.commitDone s t).lasting = s.lasting := by
  unfold State.commitDone
  dsimp only
  split
  · rfl
  · rw [State.raise_lasting]
    apply foldl_lasting
    exact fun u b => u.modBench_lasting b _ fun _ => rfl

/-! ### Log -/

@[simp] theorem State.takeAnchor_lasting (s : State) (r : Region) :
    (s.takeAnchor r).2.lasting = s.lasting := by simp [↓State.lasting_mk, State.takeAnchor]

@[simp] theorem State.takeEra_lasting (s : State) :
    s.takeEra.2.lasting = s.lasting := by simp [↓State.lasting_mk, State.takeEra]

@[simp] theorem State.takeEntry_lasting (s : State) (source kind : Byte) (payload : List Byte) :
    (s.takeEntry source kind payload).2.lasting = s.lasting := by simp [↓State.lasting_mk, State.takeEntry]

@[simp] theorem State.logDirect_lasting (s : State) (kind : Byte) (payload : List Byte) :
    (s.logDirect kind payload).lasting = s.lasting := by simp [↓State.lasting_mk, State.logDirect]

@[simp] theorem State.logPart_lasting (s : State) (kind : Byte) (payload : List Byte) :
    (s.logPart kind payload).lasting = s.lasting := by simp [↓State.lasting_mk, State.logPart]

@[simp] theorem State.logWitness_lasting (s : State) (source kind : Byte) (payload : List Byte) :
    (s.logWitness source kind payload).2.lasting = s.lasting := by simp [↓State.lasting_mk, State.logWitness]

@[simp] theorem State.appendEntry_lasting (s : State) (t : TenantId) (witness : Bool) (source kind : Byte) (payload : List Byte) :
    (s.appendEntry t witness source kind payload).2.2.lasting = s.lasting := by unfold State.appendEntry; (repeat' split) <;> simp [↓State.lasting_mk]

@[simp] theorem State.commitNext_lasting (s : State) :
    s.commitNext.lasting = s.lasting := by unfold State.commitNext; (repeat' split) <;> simp [↓State.lasting_mk]

@[simp] theorem State.budgetSecondEnd_lasting (s : State) :
    s.budgetSecondEnd.lasting = s.lasting := by unfold State.budgetSecondEnd; split <;> simp [↓State.lasting_mk]

/-! ### Sense -/

@[simp] theorem State.modChan_lasting (s : State) (ch : SenseId) (f : SenseChannel → SenseChannel) :
    (s.modChan ch f).lasting = s.lasting := by simp [↓State.lasting_mk, State.modChan]

@[simp] theorem State.writeDiag_lasting (s : State) (c : DiagChange) :
    (s.writeDiag c).lasting = s.lasting := by simp [↓State.lasting_mk, State.writeDiag]

@[simp] theorem State.amendDiag_lasting (s : State) (c : DiagChange) :
    (s.amendDiag c).lasting = s.lasting := by simp [↓State.lasting_mk, State.amendDiag]

@[simp] theorem State.recordDiags_lasting (s : State) (cs : List DiagChange) :
    (s.recordDiags cs).lasting = s.lasting := by unfold State.recordDiags; split <;> simp [↓State.lasting_mk]

@[simp] theorem State.recordDiag_lasting (s : State) (c : DiagChange) :
    (s.recordDiag c).lasting = s.lasting := by simp [State.recordDiag]

@[simp] theorem State.diagHeldDue_lasting (s : State) :
    s.diagHeldDue.lasting = s.lasting := by unfold State.diagHeldDue; split <;> simp

@[simp] theorem State.raiseChan_lasting (s : State) (ch : SenseId) (bit : Nat) :
    (s.raiseChan ch bit).lasting = s.lasting := by unfold State.raiseChan; split <;> simp

@[simp] theorem State.trip_lasting (s : State) (ch : SenseId) (how mv ua : Nat) :
    (s.trip ch how mv ua).lasting = s.lasting := by simp [↓State.lasting_mk, State.trip]

@[simp] theorem State.limiterTrip_lasting (s : State) (ch : SenseId) (ua1 ua2 mv : Nat) :
    (s.limiterTrip ch ua1 ua2 mv).lasting = s.lasting := by simp [State.limiterTrip]

@[simp] theorem State.meterWindowEnd_lasting (s : State) (ch : SenseId) (nj mv ua : Nat) :
    (s.meterWindowEnd ch nj mv ua).lasting = s.lasting := by simp [State.meterWindowEnd]

@[simp] theorem State.tripRetry_lasting (s : State) (ch : SenseId) (ms : Nat) :
    (s.tripRetry ch ms).lasting = s.lasting := by simp [State.tripRetry]

@[simp] theorem State.allExcOff_lasting (s : State) :
    s.allExcOff.lasting = s.lasting := by simp [↓State.lasting_mk, State.allExcOff]

@[simp] theorem State.removeExcitation_lasting (s : State) :
    s.removeExcitation.lasting = s.lasting := by simp [↓State.lasting_mk, State.removeExcitation]

@[simp] theorem State.excOff_lasting (s : State) (mv us : Nat) :
    (s.excOff mv us).lasting = s.lasting := by simp [↓State.lasting_mk, State.excOff]

@[simp] theorem State.excRestore_lasting (s : State) (mvLow mvHigh ms : Nat) :
    (s.excRestore mvLow mvHigh ms).lasting = s.lasting := by simp [↓State.lasting_mk, State.excRestore]

@[simp] theorem State.diagDeclare_lasting (s : State) (ch : SenseId) (mv ua : Int) (ms : Nat) :
    (s.diagDeclare ch mv ua ms).lasting = s.lasting := by unfold State.diagDeclare; split <;> simp

@[simp] theorem State.diagClear_lasting (s : State) (ch : SenseId) (mv ua : Int) (ms : Nat) :
    (s.diagClear ch mv ua ms).lasting = s.lasting := by unfold State.diagClear; split <;> simp

@[simp] theorem State.settleComplete_lasting (s : State) (ch : SenseId) :
    (s.settleComplete ch).lasting = s.lasting := by unfold State.settleComplete; split <;> simp

@[simp] theorem State.pulseEdge_lasting (s : State) (ch : SenseId) (mv : Int) (ts persistNs window : Nat) :
    (s.pulseEdge ch mv ts persistNs window).lasting = s.lasting := by unfold State.pulseEdge; (repeat' split) <;> simp

@[simp] theorem State.pulseFaultDeclare_lasting (s : State) (ch : SenseId) (reason measure : Nat) (mv : Int) :
    (s.pulseFaultDeclare ch reason measure mv).lasting = s.lasting := by unfold State.pulseFaultDeclare; split <;> simp

@[simp] theorem State.pulseFaultClear_lasting (s : State) (ch : SenseId) (mv : Int) (ms : Nat) :
    (s.pulseFaultClear ch mv ms).lasting = s.lasting := by simp [State.pulseFaultClear]

@[simp] theorem State.reconfigure_lasting (s : State) (t : TenantId) (decl : SenseId → Option SenseDecl) (cal : SenseId → Option CalDecl)
    (mv : SenseId → Int) :
    (s.reconfigure t decl cal mv).lasting = s.lasting := by simp [↓State.lasting_mk, State.reconfigure]

/-! ### Benches -/

@[simp] theorem State.setBenchState_lasting (s : State) (b : BenchId) (st : BenchState) :
    (s.setBenchState b st).lasting = s.lasting := by simp [↓Bench.memories_mk, State.setBenchState]

@[simp] theorem State.modCells_lasting (s : State) (cs : List Nat) (f : OwnCell → OwnCell) :
    (s.modCells cs f).lasting = s.lasting := by simp [↓State.lasting_mk, State.modCells]

@[simp] theorem State.judgeBench_lasting (s : State) (b : BenchId) :
    (s.judgeBench b).lasting = s.lasting := by simp [↓Bench.memories_mk, State.judgeBench]

@[simp] theorem State.judgeReleases_lasting (s : State) :
    s.judgeReleases.lasting = s.lasting := by simp [State.judgeReleases]

@[simp] theorem State.armBench_lasting (s : State) (b : BenchId) :
    (s.armBench b).lasting = s.lasting := by simp [↓Bench.memories_mk, State.armBench]

@[simp] theorem State.beginPeriod_lasting (s : State) (b : BenchId) (first : Bool) (vector before : Nat) :
    (s.beginPeriod b first vector before).lasting = s.lasting := by simp [↓Bench.memories_mk, State.beginPeriod]

@[simp] theorem State.requestPlan_lasting (s : State) (b : BenchId) (p : Option (BitVec 3)) :
    (s.requestPlan b p).lasting = s.lasting := by unfold State.requestPlan; (repeat' split) <;> simp [↓State.lasting_mk]

@[simp] theorem State.publish_lasting (s : State) (b : BenchId) :
    (s.publish b).lasting = s.lasting := by simp [↓Bench.memories_mk, State.publish]

@[simp] theorem State.loadPlan_lasting (s : State) (w : Word) :
    (State.loadPlan s w).lasting = s.lasting := by
  refine State.lasting_mk rfl rfl rfl ?_ rfl
  ext j hj : 1
  simp only [Vector.getElem_map]
  split <;> rfl

@[simp] theorem State.planSwitch_lasting (s : State) :
    s.planSwitch.lasting = s.lasting := by unfold State.planSwitch; split <;> simp [↓State.lasting_mk]

@[simp] theorem State.cancelPlan_lasting (s : State) (t : TenantId) :
    (s.cancelPlan t).lasting = s.lasting := by simp [↓State.lasting_mk, State.cancelPlan]

@[simp] theorem State.droops_lasting (s : State) (mv : Nat) :
    (s.droops mv).2.lasting = s.lasting := by simp [State.droops]

@[simp] theorem State.stretchCycle_lasting (s : State) (b : BenchId) (mv cycle : Nat) :
    (s.stretchCycle b mv cycle).lasting = s.lasting := by simp [↓Bench.memories_mk, State.stretchCycle]

@[simp] theorem State.takeStart_lasting (s : State) :
    s.takeStart.lasting = s.lasting := by simp [↓State.lasting_mk, State.takeStart]

@[simp] theorem State.startEdge_lasting (s : State) (before : PinInput) (lowNs : Nat) (after : PinInput) (highNs : Nat) :
    (s.startEdge before lowNs after highNs).lasting = s.lasting := by simp [State.startEdge]

/-! ### Straps -/

@[simp] theorem State.provNObserve_lasting (s : State) (mv vddIo : Nat) :
    (State.provNObserve s mv vddIo).lasting = s.lasting := by
  unfold State.provNObserve
  (repeat' split) <;> rfl

/-! ### Weighbridge -/

@[simp] theorem State.serviceStart_lasting (s : State) (bad : List (Fin 4096 × Vector Byte 64)) :
    (s.serviceStart bad).lasting = s.lasting := by unfold State.serviceStart; (repeat' split) <;> simp [↓State.lasting_mk]

@[simp] theorem State.completeTag_lasting (s : State) (t : TenantId) (tag : Nat) (data : List Word) (code : Byte) (marks : SeqPair × SeqPair) :
    (s.completeTag t tag data code marks).lasting = s.lasting := by simp [State.completeTag]

@[simp] theorem State.sign_lasting (s : State) (words : List Word) :
    (s.sign words).2.lasting = s.lasting := by simp [↓State.lasting_mk, State.sign]

@[simp] theorem State.programFloor_lasting (s : State) (t : TenantId) (i : TenantId) (v : Word) :
    (s.programFloor t i v).lasting = s.lasting := by simp [↓State.lasting_mk, State.programFloor]

@[simp] theorem State.request_lasting (s : State) (t : TenantId) (tag : Nat) (op : TagOp) (q : WbRequest) :
    (State.request s t tag op q).lasting = s.lasting := by
  unfold State.request
  have e := fun g => s.modPort_lasting t (fun p => { p with tags := vmod p.tags tag g }) fun _ => rfl
  split
  · rw [State.completeTag_lasting]; exact e _
  · rw [State.lasting_mk (s := s.modPort t _) rfl rfl rfl rfl rfl]; exact e _

@[simp] theorem State.retireRequests_lasting (s : State) (t : TenantId) :
    (s.retireRequests t).lasting = s.lasting := by simp [↓State.lasting_mk, State.retireRequests]

@[simp] theorem State.raiseMarks_lasting (s : State) (m : SeqPair × SeqPair) :
    (s.raiseMarks m).lasting = s.lasting := by simp [↓State.lasting_mk, State.raiseMarks]

@[simp] theorem State.poisonWeighbridge_lasting (s : State) (cut : CommitCut) :
    (s.poisonWeighbridge cut).lasting = s.lasting := by simp [↓State.lasting_mk, State.poisonWeighbridge]

/-! ### Power -/

@[simp] theorem State.logSupply_lasting (s : State) (i mv : Nat) :
    (s.logSupply i mv).lasting = s.lasting := by simp [↓State.lasting_mk, State.logSupply]

@[simp] theorem State.supplyWarning_lasting (s : State) (i mv ns : Nat) :
    (s.supplyWarning i mv ns).lasting = s.lasting := by simp [State.supplyWarning]

@[simp] theorem State.vexcOvervoltage_lasting (s : State) (mv : Nat) :
    (s.vexcOvervoltage mv).lasting = s.lasting := by simp [↓State.lasting_mk, State.vexcOvervoltage]

@[simp] theorem State.vexcReconnect_lasting (s : State) (mv ms : Nat) :
    (s.vexcReconnect mv ms).lasting = s.lasting := by simp [↓State.lasting_mk, State.vexcReconnect]

@[simp] theorem State.porExit_lasting (s : State) (mv : Vector Nat 8) (resetN : Option Nat) (heldUs tapUs : Nat) (trstN : Vector (Option Nat) 4) :
    (State.porExit s mv resetN heldUs tapUs trstN).lasting = s.lasting := by
  unfold State.porExit
  dsimp only
  split
  · have e : (s.tenants.mapIdx (fun i x => x.atPorExit (inputLevel (vget mv 2 0) (vget trstN i none)))).map (fun x => x.port.credits) =
        s.tenants.map (fun x => x.port.credits) := by
      ext j hj : 1
      simp
    simp [State.lasting, e]
  · rfl

@[simp] theorem State.startUnitFault_lasting (s : State) :
    s.startUnitFault.lasting = s.lasting := by simp [↓State.lasting_mk, State.startUnitFault]

@[simp] theorem State.faultNPattern_lasting (s : State) :
    s.faultNPattern.lasting = s.lasting := by unfold State.faultNPattern; split <;> simp [↓State.lasting_mk]

@[simp] theorem State.heldThermal_lasting (s : State) :
    s.heldThermal.lasting = s.lasting := by simp [↓State.lasting_mk, State.heldThermal]

@[simp] theorem State.raiseThermal_lasting (s : State) (celsius : Int) :
    (s.raiseThermal celsius).lasting = s.lasting := by simp [↓State.lasting_mk, State.raiseThermal]

@[simp] theorem State.thermalReading_lasting (s : State) (celsius : Int) :
    (s.thermalReading celsius).lasting = s.lasting := by simp [↓State.lasting_mk, State.thermalReading]

@[simp] theorem State.openLog_lasting (s : State) (n : Nv) (p g : Nat × List Byte) :
    (s.openLog n p g).lasting = s.lasting := by simp [↓State.lasting_mk, State.openLog]

@[simp] theorem State.logIf_lasting (s : State) (c : Bool) (kind : Byte) (payload : List Byte) :
    (s.logIf c kind payload).lasting = s.lasting := by simp [State.logIf]

@[simp] theorem State.takeReference_lasting (s : State) (seq : Word) :
    (s.takeReference seq).lasting = s.lasting := by simp [↓State.lasting_mk, State.takeReference]

@[simp] theorem State.commitNote_lasting (s : State) :
    s.commitNote.lasting = s.lasting := by unfold State.commitNote; split <;> simp [↓State.lasting_mk]

@[simp] theorem State.powerUpRest_lasting (s : State) (at_ : Nv) (p g : Nat × List Byte) :
    (s.powerUpRest at_ p g).lasting = s.lasting := by unfold State.powerUpRest; split <;> simp

@[simp] theorem State.powerUpLog_lasting (s : State) (w : TrustWork) :
    (s.powerUpLog w).lasting = s.lasting := by simp [State.powerUpLog]

@[simp] theorem State.exitTrust_lasting (s : State) (temp : Int) :
    (s.exitTrust temp).lasting = s.lasting := by simp [↓State.lasting_mk, State.exitTrust]

@[simp] theorem State.trustEnd_lasting (s : State) (w : TrustWork) :
    (s.trustEnd w).lasting = s.lasting := by simp [↓State.lasting_mk, State.trustEnd]

/-! ### Clock -/

@[simp] theorem State.takeRefLink_lasting (s : State) (up down : Bool) :
    (s.takeRefLink up down).lasting = s.lasting := by simp [↓State.lasting_mk, State.takeRefLink]

@[simp] theorem State.referencePresent_lasting (s : State) (ppm1 ppm2 : Int) (aligned up down : Bool) :
    (s.referencePresent ppm1 ppm2 aligned up down).lasting = s.lasting := by simp [↓State.lasting_mk, State.referencePresent]

@[simp] theorem State.clockFault_lasting (s : State) (cause : Byte) (tried : List (BitVec 6)) (vt : Nat) :
    (s.clockFault cause tried vt).lasting = s.lasting := by simp [↓State.lasting_mk, State.clockFault]

@[simp] theorem State.referenceDeadline_lasting (s : State) (ms : Nat) :
    (s.referenceDeadline ms).lasting = s.lasting := by simp [State.referenceDeadline]

@[simp] theorem State.firstLock_lasting (s : State) (vt : Nat) :
    (s.firstLock vt).lasting = s.lasting := by simp [↓State.lasting_mk, State.firstLock]

@[simp] theorem State.lockAttemptEnd_lasting (s : State) (a : LockAttempt) :
    (s.lockAttemptEnd a).lasting = s.lasting := by unfold State.lockAttemptEnd; (repeat' split) <;> simp [↓State.lasting_mk]

@[simp] theorem State.lockLost_lasting (s : State) (c : LockLoss) :
    (s.lockLost c).lasting = s.lasting := by simp [↓State.lasting_mk, State.lockLost]

@[simp] theorem State.relock_lasting (s : State) (a : LockAttempt) :
    (s.relock a).lasting = s.lasting := by simp [↓State.lasting_mk, State.relock]

@[simp] theorem State.steppedRelock_lasting (s : State) (attempts : List LockAttempt) (gap : Half) (cycles : Nat) :
    (s.steppedRelock attempts gap cycles).lasting = s.lasting := by unfold State.steppedRelock; (repeat' split) <;> simp [↓State.lasting_mk]

/-! ### Mailbox -/

@[simp] theorem State.postNotice_lasting (s : State) (sender receiver : Nat) (notice : Word) (waitFor : Nat) :
    (s.postNotice sender receiver notice waitFor).2.lasting = s.lasting := by simp [↓State.lasting_mk, State.postNotice]

@[simp] theorem State.withdrawNotice_lasting (s : State) (sender receiver : Nat) :
    (s.withdrawNotice sender receiver).2.lasting = s.lasting := by unfold State.withdrawNotice; split <;> simp

@[simp] theorem State.pruneChannels_lasting (s : State) :
    s.pruneChannels.lasting = s.lasting := by simp [↓State.lasting_mk, State.pruneChannels]

@[simp] theorem State.takeNotice_lasting (s : State) (sender receiver : Nat) :
    (s.takeNotice sender receiver).2.lasting = s.lasting := by unfold State.takeNotice; split <;> simp

@[simp] theorem State.ackNotice_lasting (s : State) (sender receiver : Nat) (code : Half) (waitFor : Nat) :
    (s.ackNotice sender receiver code waitFor).2.lasting = s.lasting := by unfold State.ackNotice; split <;> simp

@[simp] theorem State.noticeVisible_lasting (s : State) (id : Nat) :
    (s.noticeVisible id).lasting = s.lasting := by unfold State.noticeVisible; split <;> simp

@[simp] theorem State.ackVisible_lasting (s : State) (id : Nat) :
    (s.ackVisible id).lasting = s.lasting := by unfold State.ackVisible; (repeat' split) <;> simp

@[simp] theorem State.raiseChannel_lasting (s : State) (c : Channel) (bit : Nat) :
    (s.raiseChannel c bit).lasting = s.lasting := by unfold State.raiseChannel; split <;> simp

@[simp] theorem State.mbxTimeout_lasting (s : State) (id : Nat) :
    (s.mbxTimeout id).lasting = s.lasting := by unfold State.mbxTimeout; split <;> simp

@[simp] theorem State.emptyTo_lasting (s : State) (b : BenchId) :
    (s.emptyTo b).lasting = s.lasting := by simp [↓State.lasting_mk, State.emptyTo]

@[simp] theorem State.emptyTenant_lasting (s : State) (t : TenantId) :
    (s.emptyTenant t).lasting = s.lasting := by simp [↓State.lasting_mk, State.emptyTenant]

@[simp] theorem State.restartTenant_lasting (s : State) (t : TenantId) :
    (s.restartTenant t).lasting = s.lasting := by simp [↓State.lasting_mk, State.restartTenant]

@[simp] theorem State.activateChannels_lasting (s : State) (t : TenantId) (decls : List ChannelDecl) :
    (s.activateChannels t decls).lasting = s.lasting := by simp [↓State.lasting_mk, State.activateChannels]

/-! ### Pit -/

@[simp] theorem State.pitScrub_lasting (s : State) (a : Nat) (v : Word) :
    (s.pitScrub a v).lasting = s.lasting := by simp [↓State.lasting_mk, State.pitScrub]

@[simp] theorem State.raiseFor_lasting (s : State) (t : Option TenantId) (bit : Nat) :
    (s.raiseFor t bit).lasting = s.lasting := by unfold State.raiseFor; split <;> simp

@[simp] theorem State.pitRead_lasting (s : State) (a : Nat) (ecc : EccRead) (t : Option TenantId) :
    (s.pitRead a ecc t).2.lasting = s.lasting := by unfold State.pitRead; (repeat' split) <;> simp

@[simp] theorem State.failPwr_lasting (s : State) (b : BenchId) (q : BenchRequest) (code : Byte) :
    (State.failPwr s b q code).lasting = s.lasting := by
  unfold State.failPwr
  (repeat' split) <;> simp

@[simp] theorem State.failHost_lasting (s : State) (t : TenantId) (j : PortJob) (code : Byte) :
    (s.failHost t j code).lasting = s.lasting := by simp [State.failHost]

@[simp] theorem State.queueLateFail_lasting (s : State) (w : LatchedWrite) (code : Byte) :
    (s.queueLateFail w code).lasting = s.lasting := by simp [↓State.lasting_mk, State.queueLateFail]

@[simp] theorem State.poisonBench_lasting (s : State) (b : BenchId) :
    (State.poisonBench s b).lasting = s.lasting := by
  unfold State.poisonBench
  rw [foldl_lasting _ fun u q => u.failPwr_lasting b q 0x1b]
  exact s.modBench_lasting b _ fun x => foldl_memories _ (fun y q => y.fillTag_memories q none) _ _

@[simp] theorem State.failWords_lasting (s : State) (t : TenantId) (j : PortJob) (code : Byte) (ws : List Word) :
    (s.failWords t j code ws).lasting = s.lasting := by
  induction ws generalizing s j with
  | nil => rfl
  | cons w rest ih => unfold State.failWords; simp [ih]

@[simp] theorem State.poisonRing_lasting (s : State) :
    s.poisonRing.lasting = s.lasting := by simp [↓State.lasting_mk, State.poisonRing]

@[simp] theorem State.poisonSystem_lasting (s : State) :
    s.poisonSystem.lasting = s.lasting := by simp [↓State.lasting_mk, State.poisonSystem]

/-! ### Ring -/

@[simp] theorem State.modRing_lasting (s : State) (f : Ring → Ring) :
    (s.modRing f).lasting = s.lasting := by simp [↓State.lasting_mk, State.modRing]

@[simp] theorem State.ringEvent_lasting (s : State) (bit : Nat) :
    (s.ringEvent bit).lasting = s.lasting := by simp [State.ringEvent]

@[simp] theorem State.raiseRing_lasting (s : State) :
    s.raiseRing.lasting = s.lasting := by simp [State.raiseRing]

@[simp] theorem State.ringLog_lasting (s : State) (k : Nat) (kind : Byte) (payload : Word → List Byte) :
    (s.ringLog k kind payload).lasting = s.lasting := by simp [State.ringLog]

@[simp] theorem State.failRwr_lasting (s : State) (b : BenchId) (tag : BitVec 12) (addr : Nat) (code : Byte) :
    (State.failRwr s b tag addr code).lasting = s.lasting := by
  unfold State.failRwr
  (repeat' split) <;> simp

@[simp] theorem State.endMessage_lasting (s : State) (m : SentMessage) (reply : Option Byte) :
    (s.endMessage m reply).lasting = s.lasting := by unfold State.endMessage; (repeat' split) <;> simp [↓Bench.memories_mk]

@[simp] theorem State.loseMessages_lasting (s : State) :
    s.loseMessages.lasting = s.lasting := by simp [State.loseMessages]

@[simp] theorem State.failInFlight_lasting (s : State) :
    s.failInFlight.lasting = s.lasting := by
  unfold State.failInFlight
  rw [foldl_lasting _ (fun u m => by split <;> simp)]
  simp

@[simp] theorem State.failQueued_lasting (s : State) (b : BenchId) :
    (s.failQueued b).lasting = s.lasting := by simp [State.failQueued]

@[simp] theorem State.loseLock_lasting (s : State) :
    s.loseLock.lasting = s.lasting := by simp [State.loseLock]

@[simp] theorem State.lossCode_lasting (s : State) (cause : Nat) :
    (s.lossCode cause).2.lasting = s.lasting := by simp [State.lossCode]

@[simp] theorem State.dropLock_lasting (s : State) (cause : Nat) :
    (s.dropLock cause).lasting = s.lasting := by simp [State.dropLock]

@[simp] theorem State.latchWrite_lasting (s : State) (i : Nat) (w : LatchedWrite) :
    (s.latchWrite i w).lasting = s.lasting := by simp [State.latchWrite]

@[simp] theorem State.judgeWrite_lasting (s : State) (i : Nat) (m : MessageSlot) :
    (s.judgeWrite i m).2.lasting = s.lasting := by simp [State.judgeWrite]

@[simp] theorem State.takeLateFail_lasting (s : State) (m : MessageSlot) :
    (s.takeLateFail m).lasting = s.lasting := by simp [State.takeLateFail]

@[simp] theorem State.judgeSlot_lasting (s : State) (i : Nat) (m : MessageSlot) :
    (s.judgeSlot i m).2.lasting = s.lasting := by simp [State.judgeSlot]

@[simp] theorem State.takeReply_lasting (s : State) (i : Nat) (sent : SentMessage) (m : MessageSlot) :
    (s.takeReply i sent m).2.lasting = s.lasting := by simp [State.takeReply]

@[simp] theorem State.visitSlot_lasting (s : State) (i : Nat) (m : MessageSlot) (inserted : Bool) :
    (s.visitSlot i m inserted).2.2.lasting = s.lasting := by
  unfold State.visitSlot
  simp only
  split
  · simp
  · split
    · split
      · simp
      · next h => simp [State.nextMessage_lasting h]
    · simp

@[simp] theorem State.visitSlots_lasting (s : State) (i : Nat) (inserted : Bool) (ms : List MessageSlot) :
    (s.visitSlots i inserted ms).2.lasting = s.lasting := by
  induction ms generalizing s i inserted with
  | nil => rfl
  | cons m rest ih => unfold State.visitSlots; simp [ih]

@[simp] theorem State.takeRingStart_lasting (s : State) :
    s.takeRingStart.lasting = s.lasting := by unfold State.takeRingStart; (repeat' split) <;> simp

@[simp] theorem State.logFold_lasting (s : State) (folded : Bool) (x : Nat) (rotation : Word) :
    (s.logFold folded x rotation).lasting = s.lasting := by simp [State.logFold]

@[simp] theorem State.seeFold_lasting (s : State) (f : Byte) :
    (s.seeFold f).lasting = s.lasting := by simp [State.seeFold]

@[simp] theorem State.rollConflict_lasting (s : State) (heard id rotation : Nat) :
    (s.rollConflict heard id rotation).lasting = s.lasting := by simp [State.rollConflict]

@[simp] theorem State.seeConflict_lasting (s : State) :
    s.seeConflict.lasting = s.lasting := by simp [State.seeConflict]

@[simp] theorem State.visitMessages_lasting (s : State) (l : Lap) :
    (s.visitMessages l).2.lasting = s.lasting := by simp [State.visitMessages]

@[simp] theorem State.visitCells_lasting (s : State) (l : Lap) :
    (s.visitCells l).2.lasting = s.lasting := by simp [State.visitCells]

@[simp] theorem State.memberLap_lasting (s : State) (l : Lap) (collects : Bool) :
    (s.memberLap l collects).lasting = s.lasting := by simp [State.memberLap]

@[simp] theorem State.memberVisit_lasting (s : State) (l : Lap) (err : Int) :
    (s.memberVisit l err).lasting = s.lasting := by simp [State.memberVisit]

@[simp] theorem State.sendLap_lasting (s : State) (n : Nat) (l : Lap) :
    (s.sendLap n l).lasting = s.lasting := by simp [State.sendLap]

@[simp] theorem State.masterVisit_lasting (s : State) (l : Lap) (err : Int) :
    (s.masterVisit l err).lasting = s.lasting := by simp [State.masterVisit]

@[simp] theorem State.unturn_lasting (s : State) (link : RingLink) (l : Lap) :
    (s.unturn link l).lasting = s.lasting := by unfold State.unturn; split <;> simp

@[simp] theorem State.lapArrives_lasting (s : State) (link : RingLink) (chars : LapChars) (l : Lap) (err : Int) :
    (s.lapArrives link chars l err).lasting = s.lasting := by unfold State.lapArrives; (repeat' split) <;> simp

@[simp] theorem State.homeVisit_lasting (s : State) (link : RingLink) (chars : LapChars) (err : Int) :
    (s.homeVisit link chars err).lasting = s.lasting := by simp [State.homeVisit]

@[simp] theorem State.missLap_lasting (s : State) :
    s.missLap.lasting = s.lasting := by simp [State.missLap]

@[simp] theorem State.ringStrobe_lasting (s : State) :
    s.ringStrobe.lasting = s.lasting := by simp [State.ringStrobe]

@[simp] theorem State.lockBench_lasting (s : State) (b : BenchId) :
    (s.lockBench b).lasting = s.lasting := by simp [↓Bench.memories_mk, State.lockBench]

@[simp] theorem State.ringLockGain_lasting (s : State) :
    s.ringLockGain.lasting = s.lasting := by simp [State.ringLockGain]

@[simp] theorem State.ringLoss_lasting (s : State) (cause : Nat) :
    (s.ringLoss cause).lasting = s.lasting := by simp [State.ringLoss]

@[simp] theorem State.phaseStep_lasting (s : State) (cycles : Nat) :
    (s.phaseStep cycles).lasting = s.lasting := by simp [↓State.lasting_mk, State.phaseStep]

@[simp] theorem State.laneDown_lasting (s : State) (l : HeardLink) (silentChars errors : Nat) :
    (s.laneDown l silentChars errors).lasting = s.lasting := by simp [State.laneDown]

@[simp] theorem State.laneUp_lasting (s : State) (l : HeardLink) (laps idleChars : Nat) :
    (s.laneUp l laps idleChars).lasting = s.lasting := by simp [State.laneUp]

@[simp] theorem State.rollcallStart_lasting (s : State) (idleSeen : Bool) (ms : Nat) :
    (s.rollcallStart idleSeen ms).lasting = s.lasting := by simp [State.rollcallStart]

@[simp] theorem State.collectionLap_lasting (s : State) (table : List Word) (rotationNs : Nat) (foreign : Bool) :
    (s.collectionLap table rotationNs foreign).lasting = s.lasting := by simp [State.collectionLap]

@[simp] theorem State.takeAssignment_lasting (s : State) (table : List Word) :
    (s.takeAssignment table).lasting = s.lasting := by simp [State.takeAssignment]

@[simp] theorem State.assignmentLap_lasting (s : State) (table : List Word) :
    (s.assignmentLap table).lasting = s.lasting := by unfold State.assignmentLap; (repeat' split) <;> simp

@[simp] theorem State.masterFold_lasting (s : State) (x y rotationNs : Nat) :
    (s.masterFold x y rotationNs).lasting = s.lasting := by simp [State.masterFold]

@[simp] theorem State.foldRing_lasting (s : State) (x y rotationNs : Nat) (idleBeyond : Option RingLink) :
    (s.foldRing x y rotationNs idleBeyond).lasting = s.lasting := by unfold State.foldRing; (repeat' split) <;> simp

@[simp] theorem State.stepTod_lasting (s : State) (m : Nat) (sec : Word) (fos : Half) :
    (s.stepTod m sec fos).lasting = s.lasting := by simp [State.stepTod]

@[simp] theorem State.todMarkApply_lasting (s : State) :
    s.todMarkApply.lasting = s.lasting := by unfold State.todMarkApply; (repeat' split) <;> simp

/-! ### Faults -/

@[simp] theorem State.ownerByte_lasting (s : State) (b : BenchId) :
    (s.ownerByte b).2.lasting = s.lasting := by unfold State.ownerByte; split <;> simp

@[simp] theorem State.dropOwner_lasting (s : State) (b : BenchId) (source : Nat) :
    (s.dropOwner b source).lasting = s.lasting := by unfold State.dropOwner; split <;> simp

@[simp] theorem State.discardRwr_lasting (s : State) (b : BenchId) :
    (State.discardRwr s b).lasting = s.lasting := by
  unfold State.discardRwr
  rw [foldl_lasting _ fun u a => ?_]
  · exact State.modRing_lasting _ _
  · rw [State.dropOwner_lasting]; exact u.modBench_lasting b _ fun _ => rfl

@[simp] theorem State.refuseCommit_lasting (s : State) (b : BenchId) :
    (s.refuseCommit b).lasting = s.lasting := by simp [↓Bench.memories_mk, State.refuseCommit]

@[simp] theorem State.dropJob_lasting (s : State) (t : TenantId) (j : PortJob) :
    (s.dropJob t j).lasting = s.lasting := by simp [State.dropJob]

@[simp] theorem State.retireTags_lasting (s : State) (t : TenantId) (which : HostTag → Bool) :
    (s.retireTags t which).lasting = s.lasting := by simp [State.retireTags]

@[simp] theorem State.endGrant_lasting (s : State) (t : TenantId) :
    (s.endGrant t).lasting = s.lasting := by simp [↓State.lasting_mk, State.endGrant]

@[simp] theorem State.wedgePort_lasting (s : State) (t : TenantId) :
    (s.wedgePort t).lasting = s.lasting := by simp [State.wedgePort]

@[simp] theorem State.wedgeRing_lasting (s : State) :
    s.wedgeRing.lasting = s.lasting := by simp [State.wedgeRing]

@[simp] theorem State.writeNote_lasting (s : State) (watchdog : Nat) :
    (s.writeNote watchdog).lasting = s.lasting := by simp [↓State.lasting_mk, State.writeNote]

/-! ### Port -/

@[simp] theorem State.refuse_lasting (s : State) (code : Byte) :
    (s.refuse code).next.lasting = s.lasting := by simp [State.refuse]

@[simp] theorem State.accept_lasting (s : State) (reply : List Word) :
    (s.accept reply).next.lasting = s.lasting := by simp [State.accept]

@[simp] theorem State.acceptLater_lasting (s : State) (code : Byte) (reply : List Word) :
    (s.acceptLater code reply).next.lasting = s.lasting := by simp [State.acceptLater]

@[simp] theorem State.acceptCross_lasting (s : State) (g : InFlight) :
    (s.acceptCross g).next.lasting = s.lasting := by simp [State.acceptCross]

@[simp] theorem State.judge_lasting (s : State) (x : TenantId) (f : HostFrame) (o : OpSpec) (hasReply unknown : Bool) (act : State → Verdict)
    (h : ∀ u, (act u).next.lasting = u.lasting) :
    (s.judge x f o hasReply unknown act).next.lasting = s.lasting := by simp [State.judge, h]

@[simp] theorem State.hostFrame_lasting (s : State) (x : TenantId) (f : HostFrame) (o : OpSpec) (hasReply unknown : Bool)
    (act : State → Verdict) (h : ∀ u, (act u).next.lasting = u.lasting) :
    (s.hostFrame x f o hasReply unknown act).lasting = s.lasting := by simp [State.hostFrame, h]

@[simp] theorem State.hostStatus_lasting (s : State) (x : TenantId) (f : HostFrame) :
    (s.hostStatus x f).lasting = s.lasting := by simp [State.hostStatus]

@[simp] theorem State.hostPoll_lasting (s : State) (x : TenantId) (f : HostFrame) :
    (s.hostPoll x f).lasting = s.lasting := by simp [State.hostPoll]

@[simp] theorem State.hostResult_lasting (s : State) (x : TenantId) (f : HostFrame) (seen : List (Option SlotSeen)) :
    (s.hostResult x f seen).lasting = s.lasting := by simp [State.hostResult]

@[simp] theorem State.hostEvents_lasting (s : State) (x : TenantId) (f : HostFrame) :
    (s.hostEvents x f).lasting = s.lasting := by simp [State.hostEvents]

@[simp] theorem State.hostTimeRead_lasting (s : State) (x : TenantId) (f : HostFrame) :
    (s.hostTimeRead x f).lasting = s.lasting := by simp [State.hostTimeRead]

@[simp] theorem State.hostTimeMark_lasting (s : State) (x : TenantId) (f : HostFrame) :
    (s.hostTimeMark x f).lasting = s.lasting := by simp [↓State.lasting_mk, State.hostTimeMark]

@[simp] theorem State.addJob_lasting (s : State) (x : TenantId) (j : PortJob) :
    (s.addJob x j).lasting = s.lasting := by simp [State.addJob]

@[simp] theorem State.collect_lasting (s : State) (x : TenantId) (f : HostFrame) (off : Nat) (only : TagOp → Bool) :
    (s.collect x f off only).next.lasting = s.lasting := by simp [State.collect]

@[simp] theorem State.hostFetch_lasting (s : State) (x : TenantId) (f : HostFrame) :
    (s.hostFetch x f).lasting = s.lasting := by simp [State.hostFetch]

@[simp] theorem State.hostPost_lasting (s : State) (x : TenantId) (f : HostFrame) :
    (s.hostPost x f).lasting = s.lasting := by simp [State.hostPost]

@[simp] theorem State.hostWithdraw_lasting (s : State) (x : TenantId) (f : HostFrame) :
    (s.hostWithdraw x f).lasting = s.lasting := by simp [State.hostWithdraw]

@[simp] theorem State.hostTake_lasting (s : State) (x : TenantId) (f : HostFrame) (seen : Option NoticeSeen) :
    (s.hostTake x f seen).lasting = s.lasting := by
  unfold State.hostTake
  apply State.hostFrame_lasting
  intro u
  iterate 3 (all_goals (try simp); all_goals (try split))

@[simp] theorem State.hostAck_lasting (s : State) (x : TenantId) (f : HostFrame) :
    (s.hostAck x f).lasting = s.lasting := by simp [State.hostAck]

@[simp] theorem State.hostCommitStage_lasting (s : State) (x : TenantId) (f : HostFrame) :
    (s.hostCommitStage x f).lasting = s.lasting := by simp [State.hostCommitStage]

@[simp] theorem State.hostCommitGroup_lasting (s : State) (x : TenantId) (f : HostFrame) :
    (s.hostCommitGroup x f).lasting = s.lasting := by simp [State.hostCommitGroup]

@[simp] theorem State.goBench_lasting (s : State) (b : BenchId) :
    (s.goBench b).lasting = s.lasting := by simp [↓Bench.memories_mk, State.goBench]

@[simp] theorem State.hostGo_lasting (s : State) (x : TenantId) (f : HostFrame) :
    (s.hostGo x f).lasting = s.lasting := by simp [State.hostGo]

@[simp] theorem State.tagged_lasting (s : State) (x : TenantId) (f : HostFrame) (op : TagOp) (q : WbRequest) :
    (s.tagged x f op q).next.lasting = s.lasting := by simp [State.tagged]

@[simp] theorem State.hostLogHead_lasting (s : State) (x : TenantId) (f : HostFrame) :
    (s.hostLogHead x f).lasting = s.lasting := by simp [State.hostLogHead]

@[simp] theorem State.hostLogEntries_lasting (s : State) (x : TenantId) (f : HostFrame) :
    (s.hostLogEntries x f).lasting = s.lasting := by simp [State.hostLogEntries]

@[simp] theorem State.hostLogExport_lasting (s : State) (x : TenantId) (f : HostFrame) :
    (s.hostLogExport x f).lasting = s.lasting := by simp [State.hostLogExport]

@[simp] theorem State.hostLogAppend_lasting (s : State) (x : TenantId) (f : HostFrame) :
    (s.hostLogAppend x f).lasting = s.lasting := by simp [State.hostLogAppend]

@[simp] theorem State.hostLogCollect_lasting (s : State) (x : TenantId) (f : HostFrame) :
    (s.hostLogCollect x f).lasting = s.lasting := by simp [State.hostLogCollect]

@[simp] theorem State.hostAttestRequest_lasting (s : State) (x : TenantId) (f : HostFrame) :
    (s.hostAttestRequest x f).lasting = s.lasting := by simp [State.hostAttestRequest]

@[simp] theorem State.hostAttestCollect_lasting (s : State) (x : TenantId) (f : HostFrame) :
    (s.hostAttestCollect x f).lasting = s.lasting := by simp [State.hostAttestCollect]

@[simp] theorem State.provision_lasting (s : State) (x : TenantId) (f : HostFrame) (q : WbRequest) :
    (s.provision x f q).next.lasting = s.lasting := by simp [State.provision]

@[simp] theorem State.hostProvisionIdentify_lasting (s : State) (x : TenantId) (f : HostFrame) :
    (s.hostProvisionIdentify x f).lasting = s.lasting := by simp [State.hostProvisionIdentify]

@[simp] theorem State.hostProvisionSlot_lasting (s : State) (x : TenantId) (f : HostFrame) :
    (s.hostProvisionSlot x f).lasting = s.lasting := by simp [State.hostProvisionSlot]

@[simp] theorem State.hostProvisionFloor_lasting (s : State) (x : TenantId) (f : HostFrame) :
    (s.hostProvisionFloor x f).lasting = s.lasting := by simp [State.hostProvisionFloor]

@[simp] theorem State.hostSelftest_lasting (s : State) (x : TenantId) (f : HostFrame) :
    (s.hostSelftest x f).lasting = s.lasting := by simp [State.hostSelftest]

/-! ### TenantReset -/

@[simp] theorem State.trstNLow_lasting (s : State) (t : TenantId) (pin : PinInput) (ns : Nat) :
    (s.trstNLow t pin ns).lasting = s.lasting := by simp [State.trstNLow]

@[simp] theorem State.trstNHigh_lasting (s : State) (t : TenantId) (pin : PinInput) (ns : Nat) :
    (s.trstNHigh t pin ns).lasting = s.lasting := by simp [State.trstNHigh]

@[simp] theorem State.holdPort_lasting (s : State) (t : TenantId) :
    (s.holdPort t).lasting = s.lasting := by simp [State.holdPort]

@[simp] theorem State.holdStaging_lasting (s : State) (t : TenantId) :
    (s.holdStaging t).lasting = s.lasting := by simp [↓State.lasting_mk, State.holdStaging]

/-! ### Images -/

@[simp] theorem State.verifyStart_lasting (s : State) :
    s.verifyStart.lasting = s.lasting := by unfold State.verifyStart; split <;> simp [↓State.lasting_mk]

@[simp] theorem State.logRefused_lasting (s : State) (t : TenantId) (r : ImageRefusal) :
    (s.logRefused t r).lasting = s.lasting := by simp [State.logRefused]

@[simp] theorem State.refuseImage_lasting (s : State) (t : TenantId) (r : ImageRefusal) :
    (State.refuseImage s t r).lasting = s.lasting := by
  unfold State.refuseImage
  rw [State.logRefused_lasting, State.lasting_mk (s := (s.modTenant t _).raise t 4) rfl rfl rfl rfl rfl, State.raise_lasting]
  exact s.modTenant_lasting t _ fun _ => rfl

@[simp] theorem State.passImage_lasting (s : State) (t : TenantId) (i : Image) :
    (State.passImage s t i).lasting = s.lasting := by
  unfold State.passImage
  rw [State.lasting_mk (s := s.modTenant t _) rfl rfl rfl rfl rfl]
  exact s.modTenant_lasting t _ fun _ => rfl

@[simp] theorem State.verifyEnd_lasting (s : State) :
    s.verifyEnd.lasting = s.lasting := by unfold State.verifyEnd; (repeat' split) <;> simp

@[simp] theorem State.stagingTimeout_lasting (s : State) :
    s.stagingTimeout.lasting = s.lasting := by simp [↓State.lasting_mk, State.stagingTimeout]

@[simp] theorem State.activatePorts_lasting (s : State) (t : TenantId) (i : Image) :
    (s.activatePorts t i).lasting = s.lasting := by simp [State.activatePorts]

@[simp] theorem State.activateSense_lasting (s : State) (t : TenantId) (i : Image) (terminals : Vector Int 16) :
    (s.activateSense t i terminals).lasting = s.lasting := by simp [State.activateSense]

@[simp] theorem State.activateClock_lasting (s : State) (t : TenantId) (i : Image) :
    (s.activateClock t i).lasting = s.lasting := by simp [↓State.lasting_mk, State.activateClock]

@[simp] theorem State.raiseFloor_lasting (s : State) (t : TenantId) (i : Image) :
    (s.raiseFloor t i).lasting = s.lasting := by simp [↓State.lasting_mk, State.raiseFloor]

@[simp] theorem State.enterOperating_lasting (s : State) :
    s.enterOperating.lasting = s.lasting := by simp [↓State.lasting_mk, State.enterOperating]

/-! ### Traffic -/

@[simp] theorem State.pushStep_lasting (s : State) (b : BenchId) (r : Nat) (ts : List PipeTarget) :
    (s.pushStep b r ts).lasting = s.lasting := by simp [State.pushStep]

@[simp] theorem State.stepPrd_lasting (s : State) (b : BenchId) (f : StepFields) (r : Nat) :
    (State.stepPrd s b f r).lasting = s.lasting := by
  unfold State.stepPrd
  dsimp only
  (repeat' split) <;> simp [↓Bench.memories_mk]

@[simp] theorem State.refusePwr_lasting (s : State) (b : BenchId) (r : Nat) (code : Byte) (refused : Bool) :
    (State.refusePwr s b r code refused).lasting = s.lasting := by
  unfold State.refusePwr
  split <;> simp

@[simp] theorem State.stepPwr_lasting (s : State) (b : BenchId) (f : StepFields) (r : Nat) :
    (s.stepPwr b f r).lasting = s.lasting := by simp [↓Bench.memories_mk, State.stepPwr]

@[simp] theorem State.reply_lasting (s : State) (b : BenchId) (f : StepFields) (r : Nat) (v : Word) (flag : Bool) :
    (s.reply b f r v flag).lasting = s.lasting := by simp [State.reply]

@[simp] theorem State.replyCode_lasting (s : State) (b : BenchId) (f : StepFields) (r : Nat) (code : Byte) :
    (s.replyCode b f r code).lasting = s.lasting := by simp [State.replyCode]

@[simp] theorem State.stepPost_lasting (s : State) (b : BenchId) (f : StepFields) (r : Nat) :
    (s.stepPost b f r).lasting = s.lasting := by simp [State.stepPost]

@[simp] theorem State.stepWithdraw_lasting (s : State) (b : BenchId) (f : StepFields) (r : Nat) :
    (s.stepWithdraw b f r).lasting = s.lasting := by simp [State.stepWithdraw]

@[simp] theorem State.stepQuery_lasting (s : State) (b : BenchId) (f : StepFields) (r : Nat) :
    (s.stepQuery b f r).lasting = s.lasting := by simp [State.stepQuery]

@[simp] theorem State.stepTake_lasting (s : State) (b : BenchId) (f : StepFields) (r : Nat) :
    (s.stepTake b f r).lasting = s.lasting := by simp [State.stepTake]

@[simp] theorem State.stepAckn_lasting (s : State) (b : BenchId) (f : StepFields) (r : Nat) :
    (s.stepAckn b f r).lasting = s.lasting := by simp [State.stepAckn]

@[simp] theorem State.stepWit_lasting (s : State) (b : BenchId) (f : StepFields) (r : Nat) :
    (s.stepWit b f r).lasting = s.lasting := by unfold State.stepWit; split <;> simp

@[simp] theorem State.stepCommit_lasting (s : State) (b : BenchId) (f : StepFields) (r : Nat) :
    (s.stepCommit b f r).lasting = s.lasting := by unfold State.stepCommit; split <;> simp

@[simp] theorem State.stepRwr_lasting (s : State) (b : BenchId) (f : StepFields) (r : Nat) :
    (s.stepRwr b f r).lasting = s.lasting := by simp [↓State.lasting_mk, ↓Bench.memories_mk, State.stepRwr]

@[simp] theorem State.stepEvt_lasting (s : State) (b : BenchId) :
    (s.stepEvt b).lasting = s.lasting := by simp [State.stepEvt]

@[simp] theorem State.stepStat_lasting (s : State) (b : BenchId) (f : StepFields) (r : Nat) :
    (s.stepStat b f r).lasting = s.lasting := by simp [State.stepStat]

/-! ### Tap -/

@[simp] theorem State.loadIr_lasting (s : State) (code : BitVec 5) :
    (s.loadIr code).lasting = s.lasting := by simp [↓State.lasting_mk, State.loadIr]

@[simp] theorem State.scanBypass_lasting (s : State) (last : Bool) :
    (s.scanBypass last).lasting = s.lasting := by simp [↓State.lasting_mk, State.scanBypass]

@[simp] theorem State.scanBoundary_lasting (s : State) (shiftIn pins : BitVec 114) :
    (s.scanBoundary shiftIn pins).lasting = s.lasting := by simp [↓State.lasting_mk, State.scanBoundary]

/-! ### Strobe -/

@[simp] theorem State.judgeStrobe_lasting (s : State) (i : StrobeInputs) (previous : Nat) (gap : Bool) :
    (State.judgeStrobe s i previous gap).lasting = s.lasting := by
  refine State.lasting_mk rfl rfl rfl ?_ rfl
  ext j hj : 1
  simp

@[simp] theorem State.pitProgress_lasting (s : State) :
    s.pitProgress.lasting = s.lasting := by simp [↓State.lasting_mk, State.pitProgress]

@[simp] theorem State.turnSecond_lasting (s : State) :
    s.turnSecond.lasting = s.lasting := by simp [↓State.lasting_mk, State.turnSecond]

@[simp] theorem State.raiseNearFull_lasting (s : State) :
    s.raiseNearFull.lasting = s.lasting := by simp [↓State.lasting_mk, State.raiseNearFull]

@[simp] theorem State.strobeBenches_lasting (s : State) (added : Nat) :
    (s.strobeBenches added).lasting = s.lasting := by simp [↓State.lasting_mk, State.strobeBenches]

@[simp] theorem State.strobeChannel_lasting (s : State) (i : StrobeInputs) (ch : SenseId) :
    (s.strobeChannel i ch).lasting = s.lasting := by simp [State.strobeChannel]

@[simp] theorem State.strobeSense_lasting (s : State) (i : StrobeInputs) :
    (State.strobeSense s i).lasting = s.lasting := by
  have e : ∀ u : State, (if u.senseLive then (List.finRange 16).foldl (fun s ch => s.strobeChannel i ch) u else u).lasting = u.lasting := by
    intro u
    split
    · exact foldl_lasting _ (fun v ch => v.strobeChannel_lasting i ch) _ _
    · rfl
  refine Eq.trans (State.lasting_mk rfl rfl rfl ?_ rfl) (e s)
  ext j hj : 1
  rw [Vector.getElem_map, Vector.getElem_map, Vector.getElem_map, apply_ite Bench.memories]
  exact ite_self _

end Sys2Proof.Machine
end

section
/-! SUPPORT. The relation between a state and a later one that every operation keeps, but for what the operation may write: the fuses or the pit
words. Bench steps keep it (R163, R173). -/
namespace Sys2Proof.Machine

/-- Which part of the state an operation may write beyond the ordinary: none, the fuses, or the pit words. -/
inductive Writes where
  | none
  | otp
  | mem

/-- The canonical form of the memories is a matter of what lasts. -/
theorem State.memoriesWf_iff (s : State) : s.memoriesWf ↔
    Sparse.wf none s.lasting.mem = true ∧
    (∀ b : BenchId, Sparse.wf 0 (s.lasting.memories[b]).1 = true ∧ Sparse.wf 0 (s.lasting.memories[b]).2.1 = true ∧
      Sparse.wf none (s.lasting.memories[b]).2.2 = true) ∧
    (∀ x : TenantId, s.lasting.credits[x] ≤ 8) := by
  simp [State.memoriesWf, State.lasting, Bench.memories, State.bench, State.tenant]

/-- What holds from a state to a later one when nothing but ordinary operations, and those that write `k`, lie between. -/
structure State.Lasts (k : Writes) (s t : State) : Prop where
  straps : t.lasting.straps = s.lasting.straps
  frame : t.lasting.frame = s.lasting.frame
  strobed : t.lasting.strobed = s.lasting.strobed
  otp : k ≠ .otp → t.otp = s.otp
  mem : k ≠ .mem → t.pit.mem = s.pit.mem
  wf : s.memoriesWf → t.memoriesWf

theorem State.Lasts.of_eq {k : Writes} {s t : State} (h : t.lasting = s.lasting) : s.Lasts k t where
  straps := by rw [h]
  frame := by rw [h]
  strobed := by rw [h]
  otp _ := congrArg Lasting.otp h
  mem _ := congrArg Lasting.mem h
  wf := by rw [memoriesWf_iff, memoriesWf_iff, h]; exact id

theorem State.Lasts.refl (k : Writes) (s : State) : s.Lasts k s := .of_eq rfl

theorem State.Lasts.trans {k : Writes} {s t u : State} (h : s.Lasts k t) (g : t.Lasts k u) : s.Lasts k u where
  straps := g.straps.trans h.straps
  frame := g.frame.trans h.frame
  strobed := g.strobed.trans h.strobed
  otp e := (g.otp e).trans (h.otp e)
  mem e := (g.mem e).trans (h.mem e)
  wf e := g.wf (h.wf e)

/-- An operation that changes none of this comes after. -/
theorem State.Lasts.then_eq {k : Writes} {s t u : State} (h : s.Lasts k t) (g : u.lasting = t.lasting) : s.Lasts k u :=
  h.trans (.of_eq g)

theorem State.Lasts.ite {k : Writes} {s t u : State} {c : Prop} [Decidable c] (h : c → s.Lasts k t) (g : ¬c → s.Lasts k u) :
    s.Lasts k (if c then t else u) := by
  split
  · exact h ‹_›
  · exact g ‹_›

theorem State.Lasts.foldl {k : Writes} {α : Type} {g : State → α → State} (h : ∀ (u : State) a, u.Lasts k (g u a)) (l : List α) (s : State) :
    s.Lasts k (l.foldl g s) := by
  induction l generalizing s with
  | nil => exact .refl k s
  | cons a l ih => exact (h s a).trans (ih _)

/-! ### Benches -/

/-- The canonical form of one bench's memories. -/
def Bench.memoriesWf (x : Bench) : Prop :=
  Sparse.wf 0 x.coefs.bank0 = true ∧ Sparse.wf 0 x.coefs.bank1 = true ∧ Sparse.wf none x.delay = true

theorem Bench.memoriesWf_congr {x y : Bench} (h : y.memories = x.memories) (g : x.memoriesWf) : y.memoriesWf := by
  simp only [Bench.memories, Prod.mk.injEq] at h
  obtain ⟨h0, h1, hd⟩ := h
  unfold Bench.memoriesWf
  rwa [h0, h1, hd]

theorem State.modBench_lasts (k : Writes) (s : State) (b : BenchId) (f : Bench → Bench) (h : ∀ x, x.memoriesWf → (f x).memoriesWf) :
    s.Lasts k (s.modBench b f) where
  straps := rfl
  frame := rfl
  strobed := rfl
  otp _ := rfl
  mem _ := rfl
  wf := by
    rintro ⟨hm, hb, ht⟩
    refine ⟨hm, fun c => ?_, ht⟩
    by_cases e : c = b
    · subst e; rw [State.modBench_bench_self]; exact h _ (hb c)
    · rw [State.modBench_bench_of_ne s f e]; exact hb c

theorem PipeTarget.apply_memoriesWf (t : PipeTarget) {x : Bench} (h : x.memoriesWf) : (t.apply x).memoriesWf := by
  obtain ⟨h0, h1, hd⟩ := h
  cases t with
  | delay line addr v => exact ⟨h0, h1, Sparse.write_wf (v := some v) addr hd⟩
  | _ => exact ⟨h0, h1, hd⟩

theorem foldl_apply_memoriesWf (ws : List PipeWrite) {x : Bench} (h : x.memoriesWf) :
    (ws.foldl (fun b w => w.target.apply b) x).memoriesWf := by
  induction ws generalizing x with
  | nil => exact h
  | cons w ws ih => exact ih (w.target.apply_memoriesWf h)

theorem Bench.settle_memoriesWf (r : Nat) {x : Bench} (h : x.memoriesWf) : (x.settle r).memoriesWf := foldl_apply_memoriesWf _ h

theorem Bench.drain_memoriesWf {x : Bench} (h : x.memoriesWf) : x.drain.memoriesWf := foldl_apply_memoriesWf _ h

theorem Bench.rewriteDelay_memoriesWf (a : Option Nat) {x : Bench} (h : x.memoriesWf) : (x.rewriteDelay a).memoriesWf := by
  cases a with
  | none => exact h
  | some a => exact ⟨h.1, h.2.1, Sparse.write_wf (v := none) a h.2.2⟩

theorem Coefs.active_wf {x : Bench} (h : x.memoriesWf) : Sparse.wf 0 x.coefs.active = true := by
  unfold Coefs.active; split
  · exact h.2.1
  · exact h.1

theorem Coefs.shadow_wf {x : Bench} (h : x.memoriesWf) : Sparse.wf 0 x.coefs.shadow = true := by
  unfold Coefs.shadow; split
  · exact h.1
  · exact h.2.1

/-! ### Steps -/

theorem State.issue_lasts {k : Writes} (s : State) (b : BenchId) (op : BitVec 6) (f : StepFields) {act : State → Nat → State}
    (h : ∀ (u : State) r, u.Lasts k (act u r)) : s.Lasts k (s.issue b op f act) := by
  unfold State.issue
  refine .ite (fun _ => ?_) fun _ => .refl k s
  refine (State.Lasts.trans ?_ (State.Lasts.ite (fun _ => h _ _) fun _ => .refl k _)).then_eq (State.modBench_lasting _ b _ fun _ => rfl)
  exact s.modBench_lasts k b _ fun x => x.settle_memoriesWf _

theorem State.issueBench_lasts (k : Writes) (s : State) (b : BenchId) (op : BitVec 6) (f : StepFields) {act : Bench → StepFields → Nat → Bench}
    (h : ∀ x r, x.memoriesWf → (act x f r).memoriesWf) : s.Lasts k (s.issueBench b op f act) :=
  s.issue_lasts b op f fun u r => u.modBench_lasts k b _ fun x => h x r

/-- A step whose own effect leaves the memories alone. -/
theorem State.issueBench_lasts_of_eq (k : Writes) (s : State) (b : BenchId) (op : BitVec 6) (f : StepFields)
    {act : Bench → StepFields → Nat → Bench} (h : ∀ x r, (act x f r).memories = x.memories) : s.Lasts k (s.issueBench b op f act) :=
  s.issueBench_lasts k b op f fun x r => Bench.memoriesWf_congr (h x r)

end Sys2Proof.Machine
end

section
/-! SUPPORT. The operations that change a write credit, a coefficient bank, a delay memory, a pit word or a fuse, each by what it keeps. -/
namespace Sys2Proof.Machine

/-! ### Ports -/

theorem State.modPort_lasts (k : Writes) (s : State) (x : TenantId) (f : Port → Port) (h : ∀ p, p.credits ≤ 8 → (f p).credits ≤ 8) :
    s.Lasts k (s.modPort x f) where
  straps := rfl
  frame := rfl
  strobed := rfl
  otp _ := rfl
  mem _ := rfl
  wf := by
    rintro ⟨hm, hb, ht⟩
    refine ⟨hm, hb, fun y => ?_⟩
    by_cases e : y = x
    · subst e; rw [State.modPort, State.modTenant_tenant_self]; exact h _ (ht y)
    · rw [State.modPort, State.modTenant_tenant_of_ne s _ e]; exact ht y

theorem Port.finish_credits_le (j : PortJob) {p : Port} (h : p.credits ≤ 8) : (p.finish j).credits ≤ 8 := by
  unfold Port.finish
  split
  · split <;> exact h
  · split
    · exact Nat.min_le_left 8 _
    · exact h

theorem State.putJob_lasts (k : Writes) (s : State) (t : TenantId) (j : PortJob) : s.Lasts k (s.putJob t j) := by
  unfold State.putJob
  dsimp only
  split
  · refine State.Lasts.trans (s.modPort_lasts k t (fun p => ({ p with jobs := p.jobs.drop 1 }).finish j) ?_) ?_
    · exact fun p hp => Port.finish_credits_le j hp
    · exact .ite (fun _ => .of_eq rfl) fun _ => .refl k _
  · exact s.modPort_lasts k t _ fun _ hp => hp

theorem State.poisonJob_lasts (k : Writes) (s : State) (t : TenantId) (j : PortJob) : s.Lasts k (s.poisonJob t j) := by
  have hf : ∀ (u : State) (j : PortJob), u.Lasts k (u.modPort t fun p => p.finish j) :=
    fun u j => u.modPort_lasts k t _ fun _ => Port.finish_credits_le j
  unfold State.poisonJob
  split
  · exact hf _ _
  · exact State.Lasts.trans (.of_eq (State.failWords_lasting _ _ _ _ _)) (hf _ _)
  · exact State.Lasts.trans (.of_eq (State.failWords_lasting _ _ _ _ _)) (hf _ _)

theorem State.poisonPort_lasts (k : Writes) (s : State) (t : TenantId) : s.Lasts k (s.poisonPort t) :=
  (s.modPort_lasts k t (fun p => { p with jobs := [] }) fun _ hp => hp).trans (.foldl (fun u j => u.poisonJob_lasts k t j) _ _)

theorem State.startWords_lasts (k : Writes) (s : State) (x : TenantId) (j : PortJob) : s.Lasts k (s.startWords x j) := by
  unfold State.startWords
  refine State.Lasts.trans (s.modPort_lasts k x (fun p => { p with credits := p.credits - 1 }) fun p hp => ?_) ?_
  · exact (Nat.sub_le _ _).trans hp
  · exact .ite (fun _ => State.poisonJob_lasts k _ x j) fun _ => .of_eq (State.addJob_lasting _ x j)

theorem State.startRead_lasts (k : Writes) (s : State) (x : TenantId) (f : HostFrame) (d : WindowDecl) (n : Nat) :
    s.Lasts k (s.startRead x f d n) := by
  unfold State.startRead
  refine State.Lasts.trans (s.modPort_lasts k x (fun p => { p with tags := vmod p.tags f.tag.toNat (fun _ =>
    { state := .pending, op := .read, data := [], code := 0, marks := (⟨0, 0⟩, ⟨0, 0⟩) }) }) fun _ hp => hp) ?_
  exact .ite (fun _ => State.poisonJob_lasts k _ x _) fun _ => .of_eq (State.addJob_lasting _ x _)

/-- A frame that is judged changes what its op changes, and its port's counters and reply. -/
theorem State.hostFrame_lasts {k : Writes} (s : State) (x : TenantId) (f : HostFrame) (o : OpSpec) (hasReply unknown : Bool) {act : State → Verdict}
    (h : s.Lasts k (act s).next) : s.Lasts k (s.hostFrame x f o hasReply unknown act) := by
  have hj : s.Lasts k (s.judge x f o hasReply unknown act).next := by
    unfold State.judge
    dsimp only
    split
    · exact h
    · exact .refl k s
  unfold State.hostFrame
  refine .ite (fun _ => .refl k s) fun _ => .ite (fun _ => s.modPort_lasts k x _ fun _ hp => hp) fun _ => ?_
  dsimp only
  refine State.Lasts.trans ?_ (State.modPort_lasts k _ x _ fun p hp => (p.settleFrame_credits _ _).trans_le hp)
  split
  · exact hj
  · exact .refl k s

theorem State.hostRead_lasts (k : Writes) (s : State) (x : TenantId) (f : HostFrame) : s.Lasts k (s.hostRead x f) := by
  refine s.hostFrame_lasts x f _ _ _ ?_
  dsimp only
  split
  · exact .refl k s
  split
  · exact .refl k s
  split
  · exact .refl k s
  · exact s.startRead_lasts k x f _ _

theorem State.hostWrite_lasts (k : Writes) (s : State) (x : TenantId) (f : HostFrame) : s.Lasts k (s.hostWrite x f) := by
  refine s.hostFrame_lasts x f _ _ _ ?_
  dsimp only
  split
  · exact .refl k s
  split
  · exact .refl k s
  split
  · exact .refl k s
  · exact s.startWords_lasts k x _

theorem State.hostLoad_lasts (k : Writes) (s : State) (x : TenantId) (f : HostFrame) : s.Lasts k (s.hostLoad x f) := by
  have hs : ∀ g, s.Lasts k ({ s with staging := g } : State) := fun _ => .of_eq rfl
  refine s.hostFrame_lasts x f _ _ _ ?_
  dsimp only
  split
  · exact .refl k s
  split
  · exact hs _
  · exact (hs _).trans (State.startWords_lasts k _ x _)

theorem State.lockOtp_lasts (s : State) (t : TenantId) : s.Lasts .otp (s.lockOtp t) := by
  unfold State.lockOtp
  refine .ite (fun _ => .refl _ s) fun _ => State.Lasts.then_eq ?_ (State.logPart_lasting _ _ _)
  exact ⟨rfl, rfl, rfl, fun h => absurd rfl h, fun _ => rfl, id⟩

theorem State.hostLock_lasts (s : State) (x : TenantId) (f : HostFrame) : s.Lasts .otp (s.hostLock x f) := by
  refine s.hostFrame_lasts x f _ _ _ ?_
  split
  · exact .refl _ s
  · exact s.lockOtp_lasts x

/-! ### The weighbridge -/

theorem State.programSlot_lasts (s : State) (t : TenantId) (i : Nat) (hash : List Word) : s.Lasts .otp (s.programSlot t i hash).2 := by
  unfold State.programSlot
  dsimp only
  split
  · exact .refl _ s
  · split
    · exact .refl _ s
    · refine State.Lasts.then_eq ?_ (State.logPart_lasting _ _ _)
      exact ⟨rfl, rfl, rfl, fun h => absurd rfl h, fun _ => rfl, id⟩

theorem State.requestDone_lasts (s : State) (selftest : BitVec 4) (us : Word) : s.Lasts .otp (s.requestDone selftest us) := by
  unfold State.requestDone
  split
  · exact .refl _ s
  next v _ =>
    have hu : s.Lasts .otp ({ s with wb := { s.wb with service := none } } : State) := .of_eq rfl
    dsimp only
    split
    case h_3 => exact (hu.trans (State.programSlot_lasts _ _ _ _)).then_eq (State.completeTag_lasting _ _ _ _ _ _)
    all_goals exact hu.then_eq (by simp)

/-! ### Coefficients and commits -/

theorem Coefs.setShadow_memoriesWf {x : Bench} (h : x.memoriesWf) {m : Sparse Word} (hm : Sparse.wf 0 m = true) :
    ({ x with coefs := x.coefs.setShadow m } : Bench).memoriesWf := by
  obtain ⟨h0, h1, hd⟩ := h
  unfold Coefs.setShadow
  split
  · exact ⟨hm, h1, hd⟩
  · exact ⟨h0, hm, hd⟩

theorem State.stageCoefs_lasts (k : Writes) (s : State) (t : TenantId) (b : BenchId) (first : Nat) (words : List Word) :
    s.Lasts k (s.stageCoefs t b first words).2 := by
  unfold State.stageCoefs
  split
  · exact .refl k s
  split
  · exact .refl k s
  split
  · exact .refl k s
  split
  · exact .refl k s
  · exact s.modBench_lasts k b _ fun x hx => Coefs.setShadow_memoriesWf hx (Sparse.writeAll_wf first (Coefs.shadow_wf hx))

theorem State.arrive_lasts (k : Writes) (s : State) (x : TenantId) (g : InFlight) : s.Lasts k (s.arrive x g).2 := by
  unfold State.arrive
  split
  case h_4 => exact s.stageCoefs_lasts k x _ _ _
  all_goals exact .of_eq (by simp)

theorem State.outcomeFinal_lasts (k : Writes) (s : State) (x : TenantId) : s.Lasts k (s.outcomeFinal x) := by
  unfold State.outcomeFinal
  split
  · exact .refl k s
  · exact (s.arrive_lasts k x _).trans (State.modPort_lasts k _ x _ fun _ hp => hp)

theorem Bench.flip_memoriesWf (frame : Nat) {x : Bench} (h : x.memoriesWf) : (x.flip frame).memoriesWf := by
  have hs := Coefs.shadow_wf h
  have hd := h.2.2
  unfold Bench.flip
  dsimp only
  split <;> exact ⟨hs, hs, hd⟩

theorem State.commitFlip_lasts (k : Writes) (s : State) (t : TenantId) : s.Lasts k (s.commitFlip t) :=
  .ite (fun _ => .foldl (fun u b => .ite (fun _ => u.modBench_lasts k b _ fun _ => Bench.flip_memoriesWf _) fun _ => .refl k u) _ _)
    fun _ => .refl k s

/-! ### Benches that stop, start and end a period -/

theorem Bench.stop_memoriesWf {x : Bench} (h : x.memoriesWf) : x.stop.memoriesWf := Bench.drain_memoriesWf h

theorem Bench.endPeriod_memoriesWf (late : Bool) {x : Bench} (h : x.memoriesWf) : (x.endPeriod late).memoriesWf := Bench.drain_memoriesWf h

theorem Bench.clear_memoriesWf (entering : SenseId → List Nat) (frame : Nat) {x : Bench} (h : x.memoriesWf) : (x.clear entering frame).memoriesWf :=
  ⟨h.1, h.2.1, rfl⟩

theorem State.stopBench_lasts (k : Writes) (s : State) (b : BenchId) (st : BenchState) : s.Lasts k (s.stopBench b st) := by
  refine State.Lasts.then_eq ?_ (State.setBenchState_lasting _ b st)
  exact (s.modBench_lasts k b _ fun _ => Bench.stop_memoriesWf).then_eq (State.modCells_lasting _ _ _)

theorem State.benchRelease_lasts (k : Writes) (s : State) (b : BenchId) : s.Lasts k (s.benchRelease b) := by
  unfold State.benchRelease
  refine State.Lasts.trans (.of_eq (s.judgeBench_lasting b)) (.ite (fun _ => ?_) fun _ => .refl k _)
  refine (State.modBench_lasts k _ b (fun y => y.clear (fun c => ((s.judgeBench b).chan c).entering) (s.judgeBench b).clock.frame)
    fun _ => Bench.clear_memoriesWf _ _).then_eq ?_
  rw [State.judgeReleases_lasting, State.beginPeriod_lasting, State.setBenchState_lasting, State.modCells_lasting]

theorem State.benchPeriodEnd_lasts (k : Writes) (s : State) (b : BenchId) : s.Lasts k (s.benchPeriodEnd b) := by
  unfold State.benchPeriodEnd
  refine .ite (fun _ => ?_) fun _ => .refl k s
  refine (s.modBench_lasts k b (fun y => y.endPeriod (decide ((s.bench b).seq.issued < (s.bench b).seq.length) && (s.bench b).acked))
    fun _ => Bench.endPeriod_memoriesWf _).then_eq ?_
  rw [State.judgeReleases_lasting, State.beginPeriod_lasting, State.setBenchState_lasting]
  split
  · exact State.raiseOwner_lasting _ b 0
  · split
    · exact State.publish_lasting _ b
    · rfl

/-! ### Tenant reset -/

theorem State.holdTenant_lasts (k : Writes) (s : State) (t : TenantId) : s.Lasts k (s.holdTenant t) := by
  unfold State.holdTenant
  have hu : s.Lasts k ((s.owned t).foldl (fun s b => if (s.bench b).holds then s.stopBench b .held else s) s) :=
    .foldl (fun u b => .ite (fun _ => u.stopBench_lasts k b .held) fun _ => .refl k u) _ _
  have hv := hu.then_eq (foldl_lasting (fun s b => s.modBench b Bench.reset) (fun u b => u.modBench_lasting b _ Bench.reset_memories) (s.owned t) _)
  refine hv.then_eq ?_
  rw [State.logPart_lasting, State.modTenant_lasting, State.cancelPlan_lasting, State.holdStaging_lasting, State.emptyTenant_lasting,
    State.newEpoch_lasting]
  exact fun _ => rfl

theorem State.tenantResetHold_lasts (k : Writes) (s : State) (t : TenantId) : s.Lasts k (s.tenantResetHold t) := by
  unfold State.tenantResetHold
  refine .ite (fun _ => ?_) fun _ => .refl k s
  have hu : ((s.holdPort t).modTenant t fun x => { x with held := true, holdDue := none }).lasting = s.lasting := by
    rw [State.modTenant_lasting, State.holdPort_lasting]
    exact fun _ => rfl
  exact State.Lasts.trans (.of_eq hu) (.ite (fun _ => .refl k _) fun _ => State.holdTenant_lasts k _ t)

theorem Coefs.restart_memoriesWf {x : Bench} (h : x.memoriesWf) :
    ({ x with coefs := x.coefs.restart, results := emptyResults } : Bench).memoriesWf :=
  ⟨Coefs.active_wf h, Coefs.active_wf h, h.2.2⟩

theorem State.releaseBench_lasts (k : Writes) (s : State) (t : TenantId) (b : BenchId) : s.Lasts k (s.releaseBench t b) := by
  unfold State.releaseBench
  have hu : s.Lasts k (if (s.bench b).state = .fenced then s else s.modBench b fun x => { x with status := x.status.clearFailures }) :=
    .ite (fun _ => .refl k s) fun _ => .of_eq (s.modBench_lasting b _ fun _ => rfl)
  refine .ite (fun _ => ?_) fun _ => hu
  exact (hu.then_eq (State.armBench_lasting _ b)).trans (State.modBench_lasts k _ b _ fun _ => Coefs.restart_memoriesWf)

theorem State.tenantResetRelease_lasts (k : Writes) (s : State) (t : TenantId) : s.Lasts k (s.tenantResetRelease t) := by
  unfold State.tenantResetRelease
  refine .ite (fun _ => ?_) fun _ => .refl k s
  have hu : s.Lasts k (s.modPort t Port.restart) := s.modPort_lasts k t _ fun _ _ => Nat.le_refl 8
  refine State.Lasts.then_eq ?_ ((State.judgeReleases_lasting _).trans (State.modTenant_lasting _ t _ ?_))
  · refine .ite (fun _ => hu) fun _ => .then_eq ?_ ((State.restartTenant_lasting _ t).trans (State.newEpoch_lasting _))
    exact hu.trans (.foldl (fun u b => u.releaseBench_lasts k t b) _ _)
  · exact fun _ => rfl

/-! ### Fences and wedges -/

theorem State.fence_lasts (k : Writes) (s : State) (b : BenchId) : s.Lasts k (s.fence b) := by
  unfold State.fence
  have hu := (State.Lasts.of_eq (k := k) ((s.startUnitFault.ownerByte_lasting b).trans s.startUnitFault_lasting)).trans
    (State.stopBench_lasts k _ b .fenced)
  refine hu.then_eq ?_
  rw [State.logPart_lasting, State.raiseOwner_lasting, State.discardRwr_lasting, State.refuseCommit_lasting, State.emptyTo_lasting,
    State.newEpoch_lasting, State.modBench_lasting]
  exact fun _ => rfl

theorem State.poisonPit_lasts (k : Writes) (s : State) : s.Lasts k s.poisonPit := by
  unfold State.poisonPit
  have hb := foldl_lasting State.poisonBench (fun u b => u.poisonBench_lasting b) (List.finRange 8) s
  refine (State.Lasts.trans (.of_eq hb) (.foldl (fun u t => u.poisonPort_lasts k t) (List.finRange 4) _)).then_eq ?_
  rw [State.raiseAll_lasting, State.poisonSystem_lasting, State.poisonRing_lasting]

theorem State.wedgeOutcome_lasts (k : Writes) (s : State) (i : SharedIsland) (watchdog : Nat) (cut : CommitCut) :
    s.Lasts k (s.wedgeOutcome i watchdog cut) := by
  cases i with
  | pit => exact s.poisonPit_lasts k
  | _ => exact .of_eq (by simp [State.wedgeOutcome])

theorem State.wedge_lasts (k : Writes) (s : State) (i : SharedIsland) (watchdog : Nat) (cut : CommitCut) : s.Lasts k (s.wedge i watchdog cut) := by
  unfold State.wedge
  refine State.Lasts.then_eq ?_ (State.logPart_lasting _ _ _)
  exact (State.Lasts.trans (.of_eq s.startUnitFault_lasting) (State.wedgeOutcome_lasts k _ i watchdog cut)).then_eq rfl

/-! ### Pit accesses -/

theorem State.pitWrite_lasts (s : State) (a : Nat) (v : Word) : s.Lasts .mem (s.pitWrite a v) :=
  ⟨rfl, rfl, rfl, fun _ => rfl, fun h => absurd rfl h, fun ⟨hm, hb, ht⟩ => ⟨Sparse.write_wf (v := some (pitCode v)) a hm, hb, ht⟩⟩

theorem State.performPwr_lasts (s : State) (b : BenchId) (q : BenchRequest) : s.Lasts .mem (s.performPwr b q).2 := by
  unfold State.performPwr
  split
  · exact s.pitWrite_lasts _ _
  · exact .of_eq (s.failPwr_lasting b q 0x1a)

theorem State.performAll_lasts (s : State) (b : BenchId) (qs : List BenchRequest) : s.Lasts .mem (s.performAll b qs).2 := by
  suffices h : ∀ x : Byte × State, x.2.Lasts .mem (qs.foldl (fun x q => x.2.performPwr b q) x).2 from h (0, s)
  induction qs with
  | nil => exact fun x => .refl _ x.2
  | cons q qs ih => exact fun x => (x.2.performPwr_lasts b q).trans (ih _)

theorem State.servePrd_lasts (s : State) (b : BenchId) (q : BenchRequest) (rest : List BenchRequest) (ecc : EccRead) :
    s.Lasts .mem (s.servePrd b q rest ecc) := by
  unfold State.servePrd
  have hw := (s.modBench_lasts .mem b (fun x => { x with reads := rest, writes := x.writes.filter (fun w => !w.precedes q) }) fun _ h => h).trans
    (State.performAll_lasts _ b ((s.bench b).writes.filter fun w => w.precedes q))
  refine hw.trans (.ite (fun _ => .of_eq ?_) fun _ => .ite (fun _ => .of_eq ?_) fun _ => .of_eq ?_)
  · rw [State.raiseOwner_lasting, State.modBench_lasting _ b _ fun x => x.fillTag_memories q none]
  · rw [State.modBench_lasting _ b _ fun x => x.fillTag_memories q _, State.pitRead_lasting]
  · rw [State.modBench_lasting _ b _ fun x => x.fillTag_memories q _]

theorem State.serveBench_lasts (s : State) (b : BenchId) (ecc : EccRead) : s.Lasts .mem (s.serveBench b ecc) := by
  unfold State.serveBench
  split
  · exact s.servePrd_lasts b _ _ ecc
  · next q rest _ _ => exact (s.modBench_lasts .mem b (fun x => { x with writes := rest }) fun _ h => h).trans (State.performPwr_lasts _ b q)
  · exact .refl _ s

theorem State.servePort_lasts (s : State) (t : TenantId) (ecc : EccRead) : s.Lasts .mem (s.servePort t ecc) := by
  have put : ∀ {u : State} (j : PortJob), s.Lasts .mem u → s.Lasts .mem (u.putJob t j) := fun j h => h.trans (State.putJob_lasts _ _ t j)
  have read : ∀ a, s.Lasts .mem (s.pitRead a ecc (some t)).2 := fun a => .of_eq (s.pitRead_lasting a ecc _)
  have fail : ∀ {u : State} (j : PortJob) (code : Byte), s.Lasts .mem u → s.Lasts .mem (u.failHost t j code) :=
    fun j code h => h.then_eq (State.failHost_lasting _ t j code)
  unfold State.servePort
  split
  · exact .refl _ s
  · dsimp only
    split
    · refine .ite (fun _ => ?_) fun _ => put _ (.refl _ s)
      split <;> exact put _ (read _)
    · exact put _ (.ite (fun _ => s.pitWrite_lasts _ _) fun _ => .refl _ s)
    · refine .ite (fun _ => .ite (fun _ => put _ (s.pitWrite_lasts _ _)) fun _ => ?_) fun _ => put _ (fail _ _ (.refl _ s))
      split
      · exact put _ (s.pitWrite_lasts _ _)
      · split
        · exact put _ (read _)
        · exact put _ (fail _ _ (read _))

theorem State.serveRing_lasts (s : State) : s.Lasts .mem s.serveRing := by
  unfold State.serveRing
  split
  · exact .refl _ s
  · next i w _ =>
    have hs : s.Lasts .mem ({ s with ring := { s.ring with latches := vmod s.ring.latches i (fun _ => none) } } : State) := .of_eq rfl
    exact hs.trans (.ite (fun _ => State.pitWrite_lasts _ _ _) fun _ => .of_eq (State.queueLateFail_lasting _ _ _))

theorem State.serveSystem_lasts (s : State) (ecc : EccRead) : s.Lasts .mem (s.serveSystem ecc) := by
  unfold State.serveSystem
  split
  · have h := s.pitRead_lasting
    dsimp only
    split <;> exact .of_eq (h _ ecc _)
  · split
    · exact .refl _ s
    · next x rest _ =>
      have hs : s.Lasts .mem ({ s with pit := { s.pit with scrub := rest } } : State) := .of_eq rfl
      exact hs.trans (State.pitWrite_lasts _ _ _)

theorem State.serve_lasts (s : State) (r : Nat) (ecc : EccRead) : s.Lasts .mem (s.serve r ecc) :=
  .ite (fun _ => s.serveBench_lasts _ ecc) fun _ => .ite (fun _ => s.servePort_lasts _ ecc) fun _ =>
    .ite (fun _ => s.serveRing_lasts) fun _ => s.serveSystem_lasts ecc

theorem State.serveSpare_lasts (s : State) (ecc : EccRead) : s.Lasts .mem (s.serveSpare ecc).1 := by
  unfold State.serveSpare
  split
  · split
    · exact s.serve_lasts _ ecc
    · exact .refl _ s
  · split
    · exact .refl _ s
    · next r _ =>
      have h := State.Lasts.trans (.of_eq (k := .mem) (s := s) (t := { s with pit := { s.pit with pointer := (r + 1) % 14 } }) rfl)
          (State.serve_lasts _ r ecc)
      exact h.trans (.ite (fun _ => .of_eq rfl) fun _ => .refl _ _)

theorem State.pitSlot_lasts (s : State) (slot : Nat) (ecc : EccRead) : s.Lasts .mem (s.pitSlot slot ecc) := by
  unfold State.pitSlot
  refine .ite (fun _ => .refl _ s) fun _ => ?_
  have hs : s.Lasts .mem ({ s with pit := { s.pit with nextSlot := slot + 1 } } : State) := .of_eq rfl
  dsimp only
  split
  · exact (hs.trans (State.serve_lasts _ _ ecc)).trans (.ite (fun _ => .of_eq rfl) fun _ => .refl _ _)
  · exact (hs.trans (State.serveSpare_lasts _ ecc)).trans (.ite (fun _ => .of_eq rfl) fun _ => .refl _ _)

end Sys2Proof.Machine
end

section
/-! SUPPORT. What every command keeps: its queue, its canonical memories, and the parts that only named commands change. -/
namespace Sys2Proof.Machine

/-! ### Images -/

theorem Sparse.filter_wfFrom {α : Type} [DecidableEq α] {d : α} {m : Sparse α} {lo : Nat} (p : Nat × α → Bool)
    (h : Sparse.wfFrom d lo m = true) : Sparse.wfFrom d lo (m.filter p) = true := by
  induction m generalizing lo with
  | nil => rfl
  | cons x rest ih =>
    simp only [Sparse.wfFrom, Bool.and_eq_true, decide_eq_true_eq] at h
    rw [List.filter_cons]
    split
    · simp only [Sparse.wfFrom, Bool.and_eq_true, decide_eq_true_eq]
      exact ⟨h.1, ih h.2⟩
    · exact ih (Sparse.wfFrom_mono h.2 (by omega))

theorem State.holdBench_lasts (k : Writes) (s : State) (i : Image) (b : BenchId) : s.Lasts k (s.holdBench i b) := by
  unfold State.holdBench
  refine State.Lasts.then_eq (t := if (s.bench b).holds then s.stopBench b .held else s) ?_ ?_
  · exact .ite (fun _ => s.stopBench_lasts k b .held) fun _ => .refl k s
  · dsimp only
    split <;> simp

theorem State.holdStrobe_lasts (k : Writes) (s : State) : s.Lasts k s.holdStrobe := by
  unfold State.holdStrobe
  split
  · next t i _ _ =>
    refine .ite (fun _ => ?_) fun _ => .refl k s
    refine State.Lasts.then_eq ?_ (State.cancelPlan_lasting _ t)
    have hu : s.Lasts k ((s.owned t).foldl (fun s b => s.holdBench i b) s) := .foldl (fun u b => u.holdBench_lasts k i b) _ _
    exact hu.then_eq rfl
  · exact .refl k s

theorem foldl_writeAll_wf (l : List CoefRange) {m : Sparse Word} (h : Sparse.wf 0 m = true) :
    Sparse.wf 0 (l.foldl (fun m c => Sparse.writeAll 0 m c.first c.values) m) = true := by
  induction l generalizing m with
  | nil => exact h
  | cons c l ih => exact ih (Sparse.writeAll_wf _ h)

theorem Bench.install_memoriesWf (x : Bench) (i : Image) (b : BenchId) : (x.install i b).memoriesWf :=
  ⟨foldl_writeAll_wf _ rfl, foldl_writeAll_wf _ rfl, rfl⟩

theorem State.activateBench_lasts (k : Writes) (s : State) (t : TenantId) (i : Image) (spoiled : Byte) (b : BenchId) :
    s.Lasts k (s.activateBench t i spoiled b) := by
  unfold State.activateBench
  refine .ite (fun _ => .refl k s) fun _ => .ite (fun _ => ?_) fun _ => ?_
  · refine (s.modBench_lasts k b (fun x => x.install i b) fun x _ => x.install_memoriesWf i b).trans ?_
    exact .ite (fun _ => .of_eq (State.setBenchState_lasting _ b .held)) fun _ => .of_eq (State.armBench_lasting _ b)
  · exact (s.modBench_lasts k b (fun x => { x with results := emptyResults }) fun _ h => h).then_eq (State.setBenchState_lasting _ b .off)

theorem State.activateUnits_lasts (s : State) (t : TenantId) (i : Image) (spoiled : Byte) (terminals : Vector Int 16) :
    s.Lasts .mem (s.activateUnits t i spoiled terminals) := by
  unfold State.activateUnits
  refine State.Lasts.trans ?_ (.foldl (fun u b => u.activateBench_lasts .mem t i spoiled b) _ _)
  have hp : s.Lasts .mem ({ s with pit := s.pit.clearNew (s.tenant t).image i } : State) :=
    ⟨rfl, rfl, rfl, fun _ => rfl, fun h => absurd rfl h, fun ⟨hm, hb, ht⟩ => ⟨Sparse.filter_wfFrom _ hm, hb, ht⟩⟩
  refine hp.then_eq ?_
  rw [State.activateClock_lasting, State.activateSense_lasting, State.activatePorts_lasting, State.activateChannels_lasting,
    State.newEpoch_lasting, State.modTenant_lasting]
  exact fun _ => rfl

theorem State.activationStrobe_lasts (s : State) (terminals : Vector Int 16) : s.Lasts .mem (s.activationStrobe terminals) := by
  unfold State.activationStrobe
  split
  · next t captured _ _ =>
    refine .ite (fun _ => ?_) fun _ => .refl _ s
    have hs : s.Lasts .mem ({ s with staging := s.staging.release } : State) := .of_eq rfl
    refine (hs.trans (State.activateUnits_lasts _ t (s.installedImage captured) s.staging.spoiled terminals)).then_eq ?_
    rw [State.judgeReleases_lasting, State.logPart_lasting, State.raise_lasting, State.enterOperating_lasting, State.raiseFloor_lasting]
  · exact .refl _ s

/-! ### Commands -/

/-- Which of the two a command may write. -/
def writesOf (c : Instr) : Writes :=
  match c with
  | .lock _ _ => .otp
  | .weighbridgeRequestDone _ _ => .otp
  | .pitAccess _ _ => .mem
  | .activationStrobe _ => .mem
  | _ => .none

/-- What every command but a full reset, a frame strobe and the end of the STRAP phase keeps. -/
theorem exec_lasts {c : Instr} {s t : State} (h : exec c s = .next t) (hr : c.isReset = false) (hf : ∀ i, c ≠ .frameStrobe i)
    (hs : ∀ r, c ≠ .strapPhaseEnd r) : s.Lasts (writesOf c) t := by
  cases c with
  | supplyReset | resetNLow => cases hr
  | frameStrobe i => exact absurd rfl (hf i)
  | strapPhaseEnd r => exact absurd rfl (hs r)
  | pitAccess slot ecc => cases h; exact s.pitSlot_lasts _ ecc
  | activationStrobe v => cases h; exact s.activationStrobe_lasts v
  | weighbridgeRequestDone selftest us => cases h; exact s.requestDone_lasts selftest us
  | lock x f => cases h; exact .ite (fun _ => s.hostLock_lasts x f) fun _ => .refl _ s
  | load x f => cases h; exact .ite (fun _ => s.hostLoad_lasts _ x f) fun _ => .refl _ s
  | write x f => cases h; exact .ite (fun _ => s.hostWrite_lasts _ x f) fun _ => .refl _ s
  | read x f => cases h; exact .ite (fun _ => s.hostRead_lasts _ x f) fun _ => .refl _ s
  | outcomeFinal x => cases h; exact s.outcomeFinal_lasts _ x
  | commitFlip x => cases h; exact s.commitFlip_lasts _ x
  | holdStrobe => cases h; exact s.holdStrobe_lasts _
  | tenantResetHold x => cases h; exact s.tenantResetHold_lasts _ x
  | tenantResetRelease x => cases h; exact s.tenantResetRelease_lasts _ x
  | benchRelease b => cases h; exact s.benchRelease_lasts _ b
  | benchPeriodEnd b => cases h; exact s.benchPeriodEnd_lasts _ b
  | benchFence b => cases h; exact .ite (fun _ => s.fence_lasts _ b) fun _ => .refl _ s
  | islandWedge i cut => cases h; exact .ite (fun _ => s.wedge_lasts _ i 1 cut) fun _ => .refl _ s
  | pitProgressWedge => cases h; exact .ite (fun _ => s.wedge_lasts _ .pit 2 .none) fun _ => .refl _ s
  | nvWriterWedge us answers cut => cases h; exact .ite (fun _ => s.wedge_lasts _ .weighbridge 3 cut) fun _ => .refl _ s
  | drd b f ecc =>
    cases h
    exact s.issueBench_lasts _ b _ f fun x r hx => Bench.memoriesWf_congr (Bench.pushAll_memories _ _ _) (Bench.rewriteDelay_memoriesWf _ hx)
  | drdf b f ecc0 ecc1 =>
    cases h
    refine s.issueBench_lasts _ b _ f fun x r hx => ?_
    dsimp only [Bench.stepDrdf]
    split
    · exact Bench.memoriesWf_congr (Bench.pushAll_memories _ _ _) (Bench.rewriteDelay_memoriesWf _ hx)
    · exact Bench.memoriesWf_congr (Bench.pushAll_memories _ _ _) (Bench.rewriteDelay_memoriesWf _ (Bench.rewriteDelay_memoriesWf _ hx))
  | lut b f =>
    cases h
    refine s.issueBench_lasts_of_eq _ b _ f fun x r => ?_
    dsimp only [Bench.stepLut]
    (repeat' split) <;> rfl
  | log2 b f | exp2 b f | rsq b f =>
    cases h
    refine s.issueBench_lasts_of_eq _ b _ f fun x r => ?_
    simp only [Bench.stepLog2, Bench.stepExp2, Bench.stepRsq]
    split <;> simp
  | mac b f | macc b f | msu b f | msuc b f | aclr b f | ald b f =>
    cases h
    exact s.issueBench_lasts_of_eq _ b _ f fun x r => Bench.pushAll_memories _ _ _
  | pout b f | rout b f | rslt b f | plan b f | prio b f => cases h; exact s.issueBench_lasts_of_eq _ b _ f fun _ _ => rfl
  | add b f | sub b f | neg b f | abs b f | shl b f | mul b f | mulc b f | ast b f | clamp b f | dwra b f | envf b f | pget b f | sin b f | pls b f
  | rin b f | tod b f | fcnt b f => cases h; exact s.issueBench_lasts_of_eq _ b _ f fun x r => Bench.pushAll_memories _ _ _
  | nop b f | mov b f | movi b f | min b f | max b f | and b f | ior b f | xor b f | shra b f | shrl b f | cmp b f | sel b f | dwr b f | crd b f
  | pin b f => cases h; exact s.issueBench_lasts_of_eq _ b _ f fun _ _ => rfl
  | prd b f | pwr b f | takeStep b f | ackn b f | evt b f | wit b f | commitStep b f | rwr b f | stat b f =>
    cases h
    exact s.issue_lasts b _ f fun u r => .of_eq (by simp)
  | postStep b f | withdrawStep b f | queryStep b f =>
    cases h
    exact .ite (fun _ => s.issue_lasts b _ f fun u r => .of_eq (by simp)) fun _ => .refl _ s
  | _ => cases h; exact .of_eq (by simp [↓State.lasting_mk])

theorem writesOf_otp {c : Instr} (h : writesOf c = .otp) : (∃ x f, c = .lock x f) ∨ ∃ a b, c = .weighbridgeRequestDone a b := by
  cases c with
  | lock x f => exact .inl ⟨x, f, rfl⟩
  | weighbridgeRequestDone a b => exact .inr ⟨a, b, rfl⟩
  | _ => cases h

theorem writesOf_mem {c : Instr} (h : writesOf c = .mem) : (∃ a b, c = .pitAccess a b) ∨ ∃ v, c = .activationStrobe v := by
  cases c with
  | pitAccess a b => exact .inl ⟨a, b, rfl⟩
  | activationStrobe v => exact .inr ⟨v, rfl⟩
  | _ => cases h

theorem State.Lasts.straps_eq {k : Writes} {s t : State} (h : s.Lasts k t) : t.straps.codes = s.straps.codes ∧ t.straps.devel = s.straps.devel ∧
    t.straps.snapshot = s.straps.snapshot ∧ t.straps.faults = s.straps.faults := by
  simpa [State.lasting] using h.straps

/-! ### The commands that the table sets apart -/

theorem State.frameStrobe_lasts (k : Writes) (s : State) (i : StrobeInputs) :
    s.running = true → s.clock.stepped ≠ .stopped →
    ({ s with clock := s.clock.strobe } : State).Lasts k (s.frameStrobe i) := by
  intro h g
  unfold State.frameStrobe
  rw [if_pos ⟨h, g⟩]
  exact .of_eq (by simp [↓State.lasting_mk])

theorem State.fullReset_memoriesWf (s : State) (supply pin : Bool) (cut : CommitCut) : (s.fullReset supply pin cut).memoriesWf := by
  refine ⟨rfl, fun b => ?_, fun x => ?_⟩
  · simp [State.fullReset, State.reset, State.bench, Bench.init, Coefs.init]
  · simp [State.fullReset, State.reset, State.tenant, Tenant.init, Port.init]

/-- Every command keeps the canonical form of the memories and the limit of the credits. -/
theorem exec_memoriesWf {c : Instr} {s t : State} (h : exec c s = .next t) (hs : s.memoriesWf) : t.memoriesWf := by
  cases c with
  | supplyReset supply mv ns cut =>
    cases h
    dsimp only [State.supplyReset]
    split
    · exact s.fullReset_memoriesWf _ _ _
    · exact hs
  | resetNLow pin ns cut =>
    cases h
    have hr := (State.Lasts.of_eq (k := .none) (s.recognise_lasting ns 500 2000)).wf hs
    dsimp only [State.resetNLow]
    split
    · exact hs
    · split
      · exact State.fullReset_memoriesWf _ _ _ _
      · exact hr
  | frameStrobe i =>
    cases h
    by_cases g : s.running = true ∧ s.clock.stepped ≠ .stopped
    · exact (s.frameStrobe_lasts .none i g.1 g.2).wf hs
    · rw [State.frameStrobe, if_neg g]; exact hs
  | strapPhaseEnd r =>
    cases h
    dsimp only [State.strapPhaseEnd]
    split <;> exact hs
  | _ => exact (exec_lasts h rfl (by simp) (by simp)).wf hs

/-- Settles O60: an idle step changes nothing, and every command keeps the invariant. -/
theorem memoriesStayCanonical : Obligations.MemoriesStayCanonical := by
  intro s t hs h
  unfold step at h
  split at h
  · cases h; exact hs
  · exact exec_memoriesWf h hs

/-- Settles O59: every command but a frame strobe and the end of the STRAP phase keeps the straps and the frame counter, and writes the fuses
or the pit words only where `writesOf` says so. -/
theorem onlyTheseChange : Obligations.OnlyTheseChange := by
  intro c s t h hr
  by_cases hf : ∃ i, c = .frameStrobe i
  · obtain ⟨i, rfl⟩ := hf
    cases h
    by_cases g : s.running = true ∧ s.clock.stepped ≠ .stopped
    · have L := s.frameStrobe_lasts .none i g.1 g.2
      obtain ⟨hcodes, hdevel, hsnap, hfaults⟩ := State.Lasts.straps_eq L
      exact ⟨fun _ _ => ⟨hcodes, hdevel, hsnap, hfaults⟩, fun hn => absurd rfl (hn i), fun _ _ => L.otp (by simp), fun _ _ => L.mem (by simp)⟩
    · rw [State.frameStrobe, if_neg g]
      exact ⟨fun _ _ => ⟨rfl, rfl, rfl, rfl⟩, fun _ => ⟨rfl, rfl⟩, fun _ _ => rfl, fun _ _ => rfl⟩
  by_cases hs : ∃ r, c = .strapPhaseEnd r
  · obtain ⟨r, rfl⟩ := hs
    cases h
    dsimp only [State.strapPhaseEnd]
    split
    · next g => exact ⟨fun _ n => absurd g n, fun _ => ⟨rfl, rfl⟩, fun _ _ => rfl, fun _ _ => rfl⟩
    · exact ⟨fun _ _ => ⟨rfl, rfl, rfl, rfl⟩, fun _ => ⟨rfl, rfl⟩, fun _ _ => rfl, fun _ _ => rfl⟩
  have L := exec_lasts h hr (fun i e => hf ⟨i, e⟩) fun r e => hs ⟨r, e⟩
  obtain ⟨hcodes, hdevel, hsnap, hfaults⟩ := State.Lasts.straps_eq L
  refine ⟨fun _ _ => ⟨hcodes, hdevel, hsnap, hfaults⟩, fun _ => ⟨L.frame, L.strobed⟩, fun hl hw => L.otp fun e => ?_, fun hp ha => L.mem fun e => ?_⟩
  · obtain ⟨x, f, rfl⟩ | ⟨a, b, rfl⟩ := writesOf_otp e
    · exact hl x f rfl
    · exact hw a b rfl
  · obtain ⟨a, b, rfl⟩ | ⟨v, rfl⟩ := writesOf_mem e
    · exact hp a b rfl
    · exact ha v rfl

/-- Settles O2, by the lemma of each command's operation. -/
theorem queueKept : Obligations.QueueKept := by
  intro c s t h
  cases c with
  | postStep b f | withdrawStep b f | queryStep b f => cases h; simp
  | _ => cases h; simp


/-- A command whose operands no part could meet is the state as it is, any other one what its family says. -/
theorem exec_eq_ifWf (c : Instr) (s : State) : ∃ t, exec c s = ifWf c.wf s t := by
  cases c <;> exact ⟨_, rfl⟩

/-- Settles O3: `exec` answers no fault and no refusal, and an ill-formed command is cut off by `ifWf`. -/
theorem wellFormedCommandsRun : Obligations.WellFormedCommandsRun := by
  intro c s
  obtain ⟨t, e⟩ := exec_eq_ifWf c s
  exact ⟨⟨_, e⟩, fun h => by rw [e, h]; rfl⟩

end Sys2Proof.Machine
end

section
/-! SUPPORT. The step word (Table BEN-2 of spec/07_bench_model.md): each field is read back where it was put. -/
namespace Sys2Proof.Machine

/-- A field that lies above the low part of a word is a field of the high part. -/
theorem extractLsb'_append_high {m n : Nat} (x : BitVec m) (y : BitVec n) (k l : Nat) :
    (x ++ y).extractLsb' (n + k) l = x.extractLsb' k l := by
  rw [BitVec.extractLsb'_append_eq_of_le (Nat.le_add_right n k), Nat.add_sub_cancel_left]

/-- A bit that lies above the low part of a word is a bit of the high part. -/
theorem getLsbD_append_high {m n : Nat} (x : BitVec m) (y : BitVec n) (k : Nat) : (x ++ y).getLsbD (n + k) = x.getLsbD k := by
  simp [BitVec.getLsbD_append]

theorem ofBool_append_bit {m : Nat} (x : BitVec m) (c : Bool) : (x ++ BitVec.ofBool c).getLsbD 0 = c := by
  rw [BitVec.getLsbD_append, if_pos Nat.zero_lt_one, BitVec.getLsbD_ofBool]
  exact Bool.true_and c

/-- A bit of a word as a field of one bit. -/
theorem ofBool_getLsbD {w : Nat} (x : BitVec w) (i : Nat) : BitVec.ofBool (x.getLsbD i) = x.extractLsb' i 1 := by
  ext j hj
  obtain rfl : j = 0 := by omega
  simp

/-- The part of a word above its extension, and above each of its register fields (Table BEN-2). -/
theorem extractLsb'_above_regs {m : Nat} (x : BitVec m) (d a b : BitVec 5) (e : BitVec 38) (k l : Nat) :
    (x ++ d ++ a ++ b ++ e).extractLsb' (38 + (5 + (5 + (5 + k)))) l = x.extractLsb' k l := by
  simp only [extractLsb'_append_high]

theorem getLsbD_above_regs {m : Nat} (x : BitVec m) (d a b : BitVec 5) (e : BitVec 38) (k : Nat) :
    (x ++ d ++ a ++ b ++ e).getLsbD (38 + (5 + (5 + (5 + k)))) = x.getLsbD k := by
  simp only [getLsbD_append_high]

/-- The opcode of the word that an opcode and fields spell is that opcode (Table BEN-2). -/
theorem stepOp_encodeStep (op : BitVec 6) (f : StepFields) : stepOp (encodeStep op f) = op :=
  calc (encodeStep op f).extractLsb' 58 6
    _ = (op ++ f.sel ++ BitVec.ofBool f.inv ++ BitVec.ofBool f.sat).extractLsb' (1 + (1 + (3 + 0))) 6 :=
      extractLsb'_above_regs (op ++ f.sel ++ BitVec.ofBool f.inv ++ BitVec.ofBool f.sat) f.dst f.sa f.sb f.ext (1 + (1 + (3 + 0))) 6
    _ = op := by simp only [extractLsb'_append_high, BitVec.extractLsb'_eq_self]

/-- The fields of the word that an opcode and fields spell are those fields (Table BEN-2). -/
theorem stepFields_encodeStep (op : BitVec 6) (f : StepFields) : stepFields (encodeStep op f) = f := by
  have hsel : (encodeStep op f).extractLsb' 55 3 = f.sel := 
    (extractLsb'_above_regs (op ++ f.sel ++ BitVec.ofBool f.inv ++ BitVec.ofBool f.sat) f.dst f.sa f.sb f.ext (1 + (1 + 0)) 3).trans
     (by simp only [extractLsb'_append_high, BitVec.extractLsb'_append_eq_right])
  have hinv : (encodeStep op f).getLsbD 54 = f.inv := 
    (getLsbD_above_regs (op ++ f.sel ++ BitVec.ofBool f.inv ++ BitVec.ofBool f.sat) f.dst f.sa f.sb f.ext (1 + 0)).trans
     (by simp only [getLsbD_append_high, ofBool_append_bit])
  have hsat : (encodeStep op f).getLsbD 53 = f.sat := 
    (getLsbD_above_regs (op ++ f.sel ++ BitVec.ofBool f.inv ++ BitVec.ofBool f.sat) f.dst f.sa f.sb f.ext 0).trans (ofBool_append_bit _ _)
  have hdst : (encodeStep op f).extractLsb' 48 5 = f.dst :=
    (extractLsb'_append_high _ f.ext 10 5).trans <| (extractLsb'_append_high _ f.sb 5 5).trans <|
      (extractLsb'_append_high _ f.sa 0 5).trans BitVec.extractLsb'_append_eq_right
  have hsa : (encodeStep op f).extractLsb' 43 5 = f.sa :=
    (extractLsb'_append_high _ f.ext 5 5).trans <| (extractLsb'_append_high _ f.sb 0 5).trans BitVec.extractLsb'_append_eq_right
  have hsb : (encodeStep op f).extractLsb' 38 5 = f.sb :=
    (extractLsb'_append_high _ f.ext 0 5).trans BitVec.extractLsb'_append_eq_right
  have hext : (encodeStep op f).extractLsb' 0 38 = f.ext := BitVec.extractLsb'_append_eq_right
  rw [stepFields, hsel, hinv, hsat, hdst, hsa, hsb, hext]

/-- Two neighbouring fields of a word, one behind the other, are one field. -/
theorem extractLsb'_join {w : Nat} (x : BitVec w) (lo n m : Nat) :
    x.extractLsb' (lo + n) m ++ x.extractLsb' lo n = x.extractLsb' lo (m + n) :=
  BitVec.extractLsb'_append_extractLsb'_eq_extractLsb' rfl

/-- Every word is spelled by its own opcode and fields (Table BEN-2). -/
theorem encodeStep_stepFields (w : StepWord) : encodeStep (stepOp w) (stepFields w) = w := by
  rw [encodeStep, stepOp, stepFields, ofBool_getLsbD, ofBool_getLsbD, extractLsb'_join w 55 3 6, extractLsb'_join w 54 1 9,
    extractLsb'_join w 53 1 10, extractLsb'_join w 48 5 11, extractLsb'_join w 43 5 16, extractLsb'_join w 38 5 21]
  exact (extractLsb'_join w 0 38 26).trans BitVec.extractLsb'_eq_self
end Sys2Proof.Machine
end

section
/-! SUPPORT. The compute steps of products, accumulators, stores, comparisons and delay lines (R192 to R201 of spec/08_compute_steps.md). -/
namespace Sys2Proof.Machine

/-! ### Rounding, products, accumulators and stores -/

/-- Settles O20: below half the quotient stays, above half it goes up, and at half the even one is chosen (R162). -/
theorem roundingIsNearestEven : Obligations.RoundingIsNearestEven := by
  intro n k
  have hpos : (0 : Int) < 2 ^ k := by positivity
  have hsplit := Int.emod_add_mul_ediv n (2 ^ k)
  have hrest := Int.emod_nonneg n hpos.ne'
  have hlt := Int.emod_lt_of_pos n hpos
  unfold roundEven
  push_cast
  generalize (2 : Int) ^ k = m at *
  generalize n / m = q at *
  generalize n % m = r at *
  have down : n - q * m = r := by linarith
  have up : n - (q + 1) * m = r - m := by linarith
  split_ifs <;> simp only [down, up] <;> omega

/-- The shifted product of R160 is the product times a power of two. -/
theorem shiftedProduct_eq (x y : Word) (sh : Nat) : shiftedProduct x y sh = x.toInt * y.toInt * 2 ^ sh := by
  rw [shiftedProduct, Nat.cast_pow, Nat.cast_ofNat]

/-- Settles O21: each of the two is one register write of a narrowed product under the overflow rule (R192). -/
theorem productSteps : Obligations.ProductSteps := by
  intro b f s hp
  refine ⟨fun hi => ?mul, fun hi => ?mulc⟩
  case mul => exact next_writeSat hi hp fun _ => by rw [Bench.stepMul, narrow32, shiftedProduct_eq]
  case mulc => exact next_writeSat hi hp fun _ => by rw [Bench.stepMulc, narrow32, shiftedProduct_eq]

/-- An accumulator field counts modulo 4 (R183). -/
theorem accField_eq (x : BitVec 5) : accField x = x.toNat % 4 := by simp [accField, BitVec.extractLsb'_toNat]

/-- The sticky flag that a chain write sets, where it sets one. -/
def chainFlag (o : Option Nat) : List PipeTarget :=
  match o with
  | none => []
  | some i => [.flag i]

/-- The outcome of a step that writes the accumulator that dst names. -/
theorem next_chainWrite {s : State} {b : BenchId} {op : BitVec 6} {f : StepFields} {act : Bench → StepFields → Nat → Bench}
    {v : BitVec 72 × Option Nat} (hi : s.issues b op f = true) (hp : (s.seen b).performs f = true)
    (hact : ∀ r, act (s.seen b) f r = (s.seen b).chainWrite (accField f.dst) r v) :
    (.next (s.issueBench b op f act) : Out) = .next (s.chained b (f.dst.toNat % 4) v.1 (chainFlag v.2)) := by
  refine congrArg Host.Outcome.next (State.issueBench_eq_took hi hp ?_)
  rw [hact, Bench.chainWrite, accField_eq]
  rfl

/-- The state after a chain step whose exact value is `v` (R161). -/
def State.chainedTo (s : State) (b : BenchId) (f : StepFields) (v : Int) : State :=
  s.chained b (f.dst.toNat % 4) (chain72 f.sat v).1 (chainFlag (chain72 f.sat v).2)

/-- The outcome of a step that adds `p` to the accumulator that dst names. -/
theorem next_chainAdd {s : State} {b : BenchId} {op : BitVec 6} {f : StepFields} {act : Bench → StepFields → Nat → Bench}
    {p : Int} (hi : s.issues b op f = true) (hp : (s.seen b).performs f = true)
    (hact : ∀ r, act (s.seen b) f r = (s.seen b).chainAdd f r p) :
    (.next (s.issueBench b op f act) : Out) =
      .next (s.chainedTo b f ((vget (s.seen b).acc (f.dst.toNat % 4) 0).toInt + p)) := by
  rw [← accField_eq]
  exact next_chainWrite hi hp hact

/-- What R161 keeps of a value in the Q10.62 range. -/
theorem chain72_of_mem (sat : Bool) {v : Int} (hlo : -(2 ^ 71) ≤ v) (hhi : v < 2 ^ 71) :
    chain72 sat v = (BitVec.ofInt 72 v, none) := by
  unfold chain72 q62Min q62Max
  rw [if_neg (by omega), if_neg (by omega)]

/-- What R161 keeps of a value outside the Q10.62 range without saturate. -/
theorem chain72_wrap {v : Int} (h : v < -(2 ^ 71) ∨ 2 ^ 71 ≤ v) : chain72 false v = (BitVec.ofInt 72 v, some flagWrap) := by
  unfold chain72 q62Min q62Max
  obtain h | h := h
  · rw [if_pos (by omega)]
    rfl
  · rw [if_neg (by omega), if_pos (by omega)]
    rfl

/-- What R161 keeps of a value below the Q10.62 range with saturate. -/
theorem chain72_below {v : Int} (h : v < -(2 ^ 71)) : chain72 true v = (BitVec.ofInt 72 (-(2 ^ 71)), some flagSat) := by
  unfold chain72 q62Min
  rw [if_pos (by omega)]
  rfl

/-- What R161 keeps of a value above the Q10.62 range with saturate. -/
theorem chain72_above {v : Int} (h : 2 ^ 71 ≤ v) : chain72 true v = (BitVec.ofInt 72 (2 ^ 71 - 1), some flagSat) := by
  unfold chain72 q62Min q62Max
  rw [if_neg (by omega), if_pos (by omega)]
  rfl

/-- Settles O22: the six are chain writes, the first four of a sum under R161 and the last two of a value as it is (R193, R194). -/
theorem accumulatorSteps : Obligations.AccumulatorSteps := by
  rintro b f s A p k hp rfl rfl rfl
  refine ⟨s.chainedTo b f, ?kept, ?wrap, ?below, ?above, fun hi => ?mac, fun hi => ?macc, fun hi => ?msu, fun hi => ?msuc,
    fun hi => ?aclr, fun hi => ?ald⟩
  case kept => intro v hlo hhi; rw [State.chainedTo, chain72_of_mem _ hlo hhi]; rfl
  case wrap => intro v h hsat; rw [State.chainedTo, hsat, chain72_wrap h]; rfl
  case below => intro v h hsat; rw [State.chainedTo, hsat, chain72_below h]; rfl
  case above => intro v h hsat; rw [State.chainedTo, hsat, chain72_above h]; rfl
  case mac => exact next_chainAdd hi hp fun _ => by rw [Bench.stepMac, shiftedProduct_eq]
  case macc => exact next_chainAdd hi hp fun _ => by rw [Bench.stepMacc, shiftedProduct_eq]
  case msu => exact next_chainAdd hi hp fun _ => by rw [Bench.stepMsu, shiftedProduct_eq]
  case msuc => exact next_chainAdd hi hp fun _ => by rw [Bench.stepMsuc, shiftedProduct_eq]
  case aclr => exact next_chainWrite (act := Bench.stepAclr) (v := (0, none)) hi hp fun _ => rfl
  case ald =>
    refine next_chainWrite (act := Bench.stepAld) (v := (BitVec.ofInt 72 _, none)) hi hp fun _ => ?_
    rw [Bench.stepAld, Nat.cast_pow, Nat.cast_pow, Nat.cast_ofNat]

/-- The outcome of a step that puts the writes `ws` on their way and does nothing else. -/
theorem next_pushAll {s : State} {b : BenchId} {op : BitVec 6} {f : StepFields} {act : Bench → StepFields → Nat → Bench}
    {ws : List PipeTarget} (hi : s.issues b op f = true) (hp : (s.seen b).performs f = true)
    (hact : ∀ r, act (s.seen b) f r = (s.seen b).pushAll r ws) :
    (.next (s.issueBench b op f act) : Out) = .next (s.stepped b ws) :=
  congrArg Host.Outcome.next (State.issueBench_eq_took hi hp (hact _))

/-- Settles O23: what AST and DWRA write is narrowed under the overflow rule, what DWR writes is the register (R195, R201). -/
theorem storeSteps : Obligations.StoreSteps := by
  rintro b f s v hp rfl
  refine ⟨fun hi => ?ast, fun hi => ?dwra, fun hi => ?dwr⟩
  case ast => exact next_writeSat hi hp fun _ => by rw [Bench.stepAst, Bench.narrowAcc, narrow32, accField_eq]
  case dwra =>
    refine next_pushAll hi hp fun r => ?_
    rw [Bench.stepDwra, Bench.narrowAcc, narrow32, accField_eq]
    exact congrArg _ (overflow32_writes _ f _)
  case dwr => exact next_pushAll hi hp fun _ => rfl

/-! ### Comparisons -/

/-- Two words have a set bit in common exactly when their conjunction is not 0. -/
theorem and_bne_zero (x y : Word) : ((x &&& y) != 0) = decide (∃ i : Fin 32, x.getLsbD i.val = true ∧ y.getLsbD i.val = true) := by
  rw [Bool.eq_iff_iff, bne_iff_ne, decide_eq_true_iff, ne_eq, BitVec.eq_of_getLsbD_eq_iff]
  have hzero : ∀ i, (0 : Word).getLsbD i = false := fun _ => BitVec.getLsbD_zero
  simp only [BitVec.getLsbD_and, hzero, Fin.exists_iff, not_forall, exists_prop, Bool.not_eq_false, Bool.and_eq_true]

/-- COMB 0 to 3 give the condition alone, or its conjunction, disjunction or exclusive disjunction with P_q (Table CMP-2). -/
theorem cmpComb_spec (comb : Nat) (c q : Bool) :
    (comb = 0 → cmpComb comb c q = c) ∧ (comb = 1 → cmpComb comb c q = (c && q)) ∧
    (comb = 2 → cmpComb comb c q = (c || q)) ∧ (comb = 3 → cmpComb comb c q = (c != q)) := by
  refine ⟨?_, ?_, ?_, ?_⟩ <;> rintro rfl <;> rfl

/-- Settles O24: CMP puts one predicate write on its way, SEL a register write, CLAMP a register write and its flag (R196 to R198). -/
theorem compareSteps : Obligations.CompareSteps := by
  rintro b f s y c hp rfl
  refine ⟨fun hi hc => ⟨_, next_pushAll hi hp fun _ => rfl, ?cmp⟩, fun hi => ?sel, fun hi => ⟨_, next_pushAll hi hp fun _ => rfl, ?clamp⟩⟩
  case cmp =>
    have hcond : cmpCond (f.bits 34 4) ((s.seen b).reg f.ra)
        (if f.ext.getLsbD 25 then BitVec.ofNat 32 (f.bits 0 16 * 2 ^ 16) else (s.seen b).reg f.rb) = c := by
      obtain ⟨h, rfl⟩ | ⟨h, rfl⟩ | ⟨h, rfl⟩ | ⟨h, rfl⟩ | ⟨h, rfl⟩ | ⟨h, rfl⟩ | ⟨h, rfl⟩ | ⟨h, rfl⟩ | ⟨h, rfl⟩ | ⟨h, rfl⟩ | ⟨h, rfl⟩ |
        ⟨h, rfl⟩ := hc <;> rw [h, cmpCond]
      · rfl
      · exact decide_not.symm
      · exact and_bne_zero _ _
      · rw [decide_not, ← and_bne_zero, bne, Bool.not_not]
    exact hcond ▸ cmpComb_spec _ _ _
  case sel => exact next_writeReg hi hp fun _ => rfl
  case clamp => split_ifs <;> omega

/-! ### Delay reads -/

/-- Settles O25: the branches of a tap read are those of the statement, and each step puts the tap's writes on its way (R170 to R173). -/
theorem delaySteps : Obligations.DelaySteps := by
  refine ⟨?tap, ?steps⟩
  case tap =>
    rintro x line t addr frame ecc u rfl
    refine ⟨fun cold => ?_, fun warm v hv => ⟨?_, ?_, ?_⟩⟩
    · exact if_pos cold
    · rintro rfl; rw [hv]; exact if_neg warm
    · rintro rfl; rw [hv]; exact if_neg warm
    · rintro rfl; exact if_neg warm
  case steps =>
    rintro b f e g s t tau hp rfl rfl x y
    refine ⟨fun hi hx => ?_, fun hi hx => ⟨fun h0 => ?_, fun h0 hy => ?_⟩⟩
    · subst hx
      exact congrArg Host.Outcome.next (State.issueBench_eq_took hi hp rfl)
    · subst hx
      refine congrArg Host.Outcome.next (State.issueBench_eq_took hi hp ?_)
      exact if_pos h0
    · subst hx hy
      refine congrArg Host.Outcome.next (State.issueBench_eq_took hi hp ?_)
      exact if_neg h0
end Sys2Proof.Machine
end

section
/-! SUPPORT. The table and function steps (R202 to R207 of spec/08_compute_steps.md), and when a write is seen (R163 of spec/07_bench_model.md). -/
namespace Sys2Proof.Machine

/-! ### LOG2 and EXP2 where they are exact (R204, R205) -/

/-- The highest bit of a power of two. -/
theorem topBit_two_pow (k : Fin 31) : topBit 31 (2 ^ k.val) = k.val := by decide +revert

/-- The logarithm of the mantissa 1 is 0: no bit is added to those so far. -/
theorem log2Bits_one (n acc : Nat) : log2Bits 0 n (2 ^ 128) acc = 2 ^ n * acc := by
  induction n generalizing acc with
  | zero => exact (Nat.one_mul acc).symm
  | succ n ih =>
    have hstep : log2Bits 0 (n + 1) (2 ^ 128) acc = log2Bits 0 n (2 ^ 128) (2 * acc) := by
      rw [log2Bits]
      norm_num
    rw [hstep, ih, pow_succ, Nat.mul_assoc]

/-- The value in force where both bounds agree. -/
theorem climb_zero (reach : Int → Nat) (a : Nat) {lo hi : Int} (h : hi = lo) : climb reach a lo (hi - lo).toNat = lo := by
  rw [h, Int.sub_self]
  rfl

/-- LOG2 of 2^(k - 31) is k - 31. -/
theorem log2Result_two_pow (k : Fin 31) : log2Result (2 ^ k.val) = ((k.val : Int) - 31) * 2 ^ 26 := by
  have hmantissa : 2 ^ k.val * 2 ^ (128 - k.val) = 2 ^ 128 := by
    rw [← pow_add]
    congr 1
    omega
  have hlow : log2Low (2 ^ k.val) = ((k.val : Int) - 31) * 2 ^ 60 := by
    rw [log2Low, topBit_two_pow, hmantissa, log2Bits_one, Nat.mul_zero, Nat.cast_zero, Int.zero_add, Nat.cast_pow, Nat.cast_ofNat]
  have hlo : log2Lo (2 ^ k.val) = ((k.val : Int) - 31) * 2 ^ 26 := by
    rw [log2Lo, hlow, topBit_two_pow]
    omega
  have hhi : log2Hi (2 ^ k.val) = ((k.val : Int) - 31) * 2 ^ 26 := by
    rw [log2Hi, topBit_two_pow, if_pos rfl, Nat.cast_pow, Nat.cast_ofNat]
  rw [log2Result, climb_zero _ _ (hhi.trans hlo.symm), hlo]

/-- The mantissa of a whole exponent is 1, rounded down or up. -/
theorem exp2Bits_zero (up n root acc : Nat) : exp2Bits up n 0 root acc = acc := by
  induction n generalizing root with
  | zero => rfl
  | succ n ih => rw [exp2Bits, Nat.zero_testBit]; exact ih _

/-- EXP2 of k - 31 is 2^(k - 31). -/
theorem exp2Result_whole (k : Fin 31) : exp2Result ((k.val + 1) * 2 ^ 26) = 2 ^ k.val := by
  have hwhole : (k.val + 1) * 2 ^ 26 / 2 ^ 26 = k.val + 1 := Nat.mul_div_cancel _ (by decide)
  have hfrac : (k.val + 1) * 2 ^ 26 % 2 ^ 26 = 0 := Nat.mul_mod_left _ _
  have hone (up : Nat) : exp2Mantissa up 0 = 2 ^ 128 := exp2Bits_zero up 26 _ _
  have hhi : exp2Hi ((k.val + 1) * 2 ^ 26) = 2 ^ k.val := by
    rw [exp2Hi, hwhole, hfrac, if_pos ⟨rfl, Nat.succ_pos _⟩, Nat.add_sub_cancel, Nat.cast_pow, Nat.cast_ofNat]
  have hlo : exp2Lo ((k.val + 1) * 2 ^ 26) = 2 ^ k.val := by
    rw [exp2Lo, hwhole, hfrac, hone, hone, if_neg (Nat.succ_ne_zero _), Nat.add_sub_cancel]
    push_cast
    rw [pow_succ]
    have hpos : (0 : Int) < 2 ^ k.val := by positivity
    generalize (2 : Int) ^ k.val = p at *
    omega
  rw [exp2Result, climb_zero _ _ (hhi.trans hlo.symm), hlo]

/-- The signed value of a word that is not negative is its value. -/
theorem toNat_of_toInt_nonneg {a : Word} {n : Nat} (h : a.toInt = n) : a.toNat = n := by
  rw [BitVec.toInt_eq_toNat_cond] at h
  split at h <;> omega

/-- Settles O26: CRD, LUT and ENVF by their branches, and LOG2 and EXP2 exact where both bounds of R204 and R205 agree (R202 to R207). -/
theorem tableAndFunctionSteps : Obligations.TableAndFunctionSteps := by
  refine ⟨?tables, ?functions⟩
  case tables =>
    rintro b f s v E u hp rfl hE rfl
    obtain rfl : E = fun i => (s.seen b).coef (3072 + 256 * f.bits 0 2 + i) := funext hE
    refine ⟨fun hi => ?crd, fun hi h255 => ?last, fun hi h255 => ?between, fun hi a k ha hk => ?envf⟩
    case crd => exact next_writeReg hi hp fun _ => rfl
    case last => exact next_writeReg hi hp fun _ => if_pos h255
    case between => exact next_writeReg hi hp fun _ => if_neg h255
    case envf =>
      subst ha hk
      refine next_pushAll hi hp fun r => ?_
      rw [Bench.stepEnvf, resultWrites, ← overflow32_writes]
      rfl
  case functions =>
    rintro b f s a F hp rfl hF
    obtain rfl : F = flagWrite f := funext hF
    refine ⟨fun hi => ⟨fun h => ?log0, fun h => ⟨BitVec.ofInt 32 (log2Result ((s.seen b).reg f.ra).toNat), ?log⟩, fun k h => ?logPow⟩,
        fun hi => ⟨fun h => ?exp0, fun h => ⟨BitVec.ofInt 32 (exp2Result (((s.seen b).reg f.ra).toInt + 2147483648).toNat), ?exp⟩,
        fun k h => ?expPow⟩,
      fun hi => ⟨fun h => ?rsq0, fun h => ?rsq⟩⟩
    case log0 => exact next_pushAll hi hp fun r => if_pos h
    case log => exact next_pushAll hi hp fun r => if_neg (not_le.mpr h)
    case logPow =>
      have hpos : (0 : Int) < 2 ^ k.val := by positivity
      refine next_pushAll hi hp fun r => ?_
      rw [Bench.stepLog2, if_neg (by omega), toNat_of_toInt_nonneg (n := 2 ^ k.val) (by exact_mod_cast h), log2Result_two_pow]
    case exp0 => exact next_pushAll hi hp fun r => if_pos h
    case exp => exact next_pushAll hi hp fun r => if_neg (not_le.mpr h)
    case expPow =>
      have hm : (((s.seen b).reg f.ra).toInt + 2147483648).toNat = (k.val + 1) * 2 ^ 26 := by omega
      refine next_pushAll hi hp fun r => ?_
      rw [Bench.stepExp2, if_neg (by omega), hm, exp2Result_whole]
    case rsq0 => exact next_pushAll hi hp fun r => if_pos (.inl h)
    case rsq =>
      by_cases hc : rsqClamps ((s.seen b).reg f.ra).toNat (f.bits 0 5) = true
      · refine ⟨_, true, next_pushAll hi hp fun r => if_pos (.inr hc), ?_, fun _ => rfl⟩
        rw [pow_two]
        exact iff_of_true rfl (of_decide_eq_true hc)
      · refine ⟨_, false, next_pushAll hi hp fun r => if_neg (not_or.mpr ⟨not_le.mpr h, hc⟩), ?_, nofun⟩
        rw [pow_two]
        exact iff_of_false Bool.false_ne_true fun hle => hc (decide_eq_true hle)

/-! ### When a write is seen (R163) -/

/-- A bench with other writes on their way. -/
def Bench.withPipe (x : Bench) (p : List PipeWrite) : Bench := { x with pipe := p }

/-- The bench once these writes are done. -/
def Bench.applyAll (x : Bench) (ws : List PipeWrite) : Bench := ws.foldl (fun b w => w.target.apply b) x

/-- What a write changes does not depend on the writes still on their way. -/
theorem PipeTarget.apply_withPipe (t : PipeTarget) (x : Bench) (p : List PipeWrite) : t.apply (x.withPipe p) = (t.apply x).withPipe p := by
  cases t <;> rfl

theorem Bench.applyAll_withPipe (x : Bench) (ws p : List PipeWrite) : (x.withPipe p).applyAll ws = (x.applyAll ws).withPipe p := by
  induction ws generalizing x with
  | nil => rfl
  | cons w rest ih =>
    have hstep := ih (w.target.apply x)
    rwa [← PipeTarget.apply_withPipe] at hstep

/-- The writes that a step at position `r` sees done. -/
def Bench.done (x : Bench) (r : Nat) : List PipeWrite := x.pipe.filter (fun w => decide (w.pos + 3 ≤ r))

/-- The writes still on their way at position `r`. -/
def Bench.left (x : Bench) (r : Nat) : List PipeWrite := x.pipe.filter (fun w => !decide (w.pos + 3 ≤ r))

theorem Bench.settle_eq (x : Bench) (r : Nat) : x.settle r = (x.applyAll (x.done r)).withPipe (x.left r) :=
  x.applyAll_withPipe (x.done r) (x.left r)

/-- A write put on its way behind none of a later position stands last. -/
theorem pipeInsert_last {w : PipeWrite} {ws : List PipeWrite} (h : ∀ x ∈ ws, x.pos ≤ w.pos) : pipeInsert w ws = ws ++ [w] := by
  induction ws with
  | nil => rfl
  | cons x rest ih =>
    rw [List.forall_mem_cons] at h
    rw [pipeInsert, if_neg (by omega), ih h.2]
    rfl

theorem Bench.push_last {x : Bench} {p : Nat} (hx : ∀ w ∈ x.pipe, w.pos ≤ p) (t : PipeTarget) :
    x.push p t = x.withPipe (x.pipe ++ [{ pos := p, target := t }]) := by
  rw [Bench.push, pipeInsert_last hx]
  rfl

/-- A write of the latest position is done, after all others, exactly from the third position on. -/
theorem Bench.settle_push {x : Bench} {p : Nat} (hx : ∀ w ∈ x.pipe, w.pos ≤ p) (t : PipeTarget) (r : Nat) :
    ∃ ws, (x.push p t).settle r = (if p + 3 ≤ r then t.apply (x.settle r) else x.settle r).withPipe ws := by
  have hdone : (x.withPipe (x.pipe ++ [{ pos := p, target := t }])).done r =
      x.done r ++ [({ pos := p, target := t } : PipeWrite)].filter (fun w => decide (w.pos + 3 ≤ r)) := List.filter_append _ _
  refine ⟨(x.push p t).left r, ?_⟩
  rw [Bench.settle_eq, Bench.push_last hx, Bench.applyAll_withPipe, hdone, Bench.settle_eq x]
  split_ifs with h
  · rw [List.filter_cons_of_pos (by simpa using h), List.filter_nil, PipeTarget.apply_withPipe, Bench.applyAll, List.foldl_append]
    rfl
  · rw [List.filter_cons_of_neg (by simpa using h), List.filter_nil, List.append_nil]
    rfl

/-- Settles O27: a write behind none of a later position is the last to be done, and done exactly from the third position on (R163). -/
theorem registerSeenFromThirdPosition : Obligations.RegisterSeenFromThirdPosition := by
  intro x p n r v hx hn
  obtain ⟨ws, hseen⟩ := Bench.settle_push hx (.reg n v) r
  rw [hseen]
  refine ⟨fun h => ?_, fun h => ⟨?_, fun m hm => ?_⟩⟩
  · rw [if_neg (by omega)]
    rfl
  · rw [if_pos h]
    simp [Bench.reg, Bench.withPipe, PipeTarget.apply, vget, vmod, hn]
  · rw [if_pos h]
    simp [Bench.reg, Bench.withPipe, PipeTarget.apply, vget, vmod, hn, hm.symm]
end Sys2Proof.Machine
end

section
/-! SUPPORT. The issue of a step (R152 to R157 of spec/07_bench_model.md): every step command issues its own opcode and fields, and leaves the
sequencer of its bench but for the position it takes. -/
namespace Sys2Proof.Machine

/-! ### The issue of a step (R152, R156) -/

@[simp] theorem PipeTarget.apply_seq (t : PipeTarget) (x : Bench) : (t.apply x).seq = x.seq := by cases t <;> rfl

@[simp] theorem Bench.applyAll_seq (x : Bench) (ws : List PipeWrite) : (x.applyAll ws).seq = x.seq := by
  induction ws generalizing x with
  | nil => rfl
  | cons w rest ih => exact (ih _).trans (w.target.apply_seq x)

@[simp] theorem Bench.settle_seq (x : Bench) (r : Nat) : (x.settle r).seq = x.seq := by
  rw [Bench.settle_eq]
  exact x.applyAll_seq _

@[simp] theorem Bench.pushAll_seq (x : Bench) (r : Nat) (ws : List PipeTarget) : (x.pushAll r ws).seq = x.seq := by
  rw [Bench.pushAll_eq]

@[simp] theorem Bench.push_seq (x : Bench) (r : Nat) (w : PipeTarget) : (x.push r w).seq = x.seq := rfl

@[simp] theorem Bench.rewriteDelay_seq (x : Bench) (a : Option Nat) : (x.rewriteDelay a).seq = x.seq := by cases a <;> rfl

/-- What an effect on the part leaves of the bench that issues it: its sequencer. -/
def Effect.keepsSeq (b : BenchId) (act : State → Nat → State) : Prop := ∀ u r, ((act u r).bench b).seq = (u.bench b).seq

/-- A step whose effect lies in its bench alone. -/
theorem State.issueBench_keepsSeq {s : State} {b : BenchId} {op : BitVec 6} {f : StepFields} {act : Bench → StepFields → Nat → Bench}
    (h : ∀ x r, (act x f r).seq = x.seq) :
    ∃ act', (.next (s.issueBench b op f act) : Out) = .next (s.issue b op f act') ∧ Effect.keepsSeq b act' :=
  ⟨_, rfl, fun u r => by rw [State.modBench_bench_self, h]⟩

/-- A step with an effect beyond its bench. -/
theorem State.issue_keepsSeq {s : State} {b : BenchId} {op : BitVec 6} {f : StepFields} {act : State → Nat → State}
    (h : ∀ u r, ((act u r).bench b).seq = (u.bench b).seq) :
    ∃ act', (.next (s.issue b op f act) : Out) = .next (s.issue b op f act') ∧ Effect.keepsSeq b act' := ⟨act, rfl, h⟩

@[simp] theorem State.raise_bench (s : State) (t : TenantId) (n : Nat) (c : BenchId) : (s.raise t n).bench c = s.bench c :=
  congrArg (·[c]) (State.raise_benches s t n)

@[simp] theorem State.raiseOwner_bench (s : State) (b : BenchId) (n : Nat) (c : BenchId) : (s.raiseOwner b n).bench c = s.bench c :=
  congrArg (·[c]) (State.raiseOwner_benches s b n)

@[simp] theorem State.modChannel_bench (s : State) (n : Nat) (g : Channel → Channel) (c : BenchId) : (s.modChannel n g).bench c = s.bench c := rfl

@[simp] theorem State.pruneChannels_bench (s : State) (c : BenchId) : s.pruneChannels.bench c = s.bench c := rfl

@[simp] theorem State.postNotice_bench (s : State) (x y : Nat) (n : Word) (w : Nat) (c : BenchId) : (s.postNotice x y n w).2.bench c = s.bench c := by
  rw [State.postNotice]
  split <;> rfl

@[simp] theorem State.withdrawNotice_bench (s : State) (x y : Nat) (c : BenchId) : (s.withdrawNotice x y).2.bench c = s.bench c := by
  rw [State.withdrawNotice]
  split
  · rfl
  · split_ifs <;> rfl

@[simp] theorem State.takeNotice_bench (s : State) (x y : Nat) (c : BenchId) : (s.takeNotice x y).2.bench c = s.bench c := by
  rw [State.takeNotice]
  split
  · rfl
  · split_ifs <;> rfl

@[simp] theorem State.ackNotice_bench (s : State) (x y : Nat) (k : Half) (w : Nat) (c : BenchId) : (s.ackNotice x y k w).2.bench c = s.bench c := by
  rw [State.ackNotice]
  split
  · rfl
  · split_ifs <;> rfl

@[simp] theorem State.logWitness_bench (s : State) (source kind : Byte) (payload : List Byte) (c : BenchId) :
    (s.logWitness source kind payload).2.bench c = s.bench c := congrArg (·[c]) (State.logWitness_benches s source kind payload)

@[simp] theorem State.appendEntry_bench (s : State) (t : TenantId) (w : Bool) (source kind : Byte) (payload : List Byte) (c : BenchId) :
    (s.appendEntry t w source kind payload).2.2.bench c = s.bench c := by
  rw [State.appendEntry]
  split_ifs
  · rfl
  · rfl
  · rfl
  · rfl
  · exact State.logWitness_bench s source kind payload c

@[simp] theorem State.reply_seq (s : State) (b : BenchId) (f : StepFields) (r : Nat) (v : Word) (flag : Bool) :
    ((s.reply b f r v flag).bench b).seq = (s.bench b).seq := by simp [State.reply, State.pushStep]

@[simp] theorem State.replyCode_seq (s : State) (b : BenchId) (f : StepFields) (r : Nat) (code : Byte) :
    ((s.replyCode b f r code).bench b).seq = (s.bench b).seq := by simp [State.replyCode]


/-- A bench with a commit requested at strobe `n`. -/
def Bench.pendCommit (n : Nat) (x : Bench) : Bench := { x with coefs := { x.coefs with commit := some ⟨n, false⟩ } }

/-- The state with a commit of strobe `n` requested on each of these benches. -/
def State.pendCommits (s : State) (n : Nat) (bs : List BenchId) : State := bs.foldl (fun u b => u.modBench b (Bench.pendCommit n)) s

theorem State.pendCommits_eq (s : State) (n : Nat) (bs : List BenchId) : s.pendCommits n bs = { s with benches := (s.pendCommits n bs).benches } := by
  unfold State.pendCommits
  induction bs generalizing s with
  | nil => rfl
  | cons b rest ih => exact ih _

/-- Exactly the benches named have the commit requested. -/
theorem State.pendCommits_bench (s : State) (n : Nat) (bs : List BenchId) (c : BenchId) :
    (s.pendCommits n bs).bench c = if c ∈ bs then (s.bench c).pendCommit n else s.bench c := by
  unfold State.pendCommits
  induction bs generalizing s with
  | nil => rfl
  | cons b rest ih =>
    rw [List.foldl_cons, ih]
    by_cases e : c = b
    · subst e
      rw [State.modBench_bench_self, if_pos (List.mem_cons_self ..)]
      exact ite_self _
    · rw [State.modBench_bench_of_ne s _ e]
      simp only [List.mem_cons, e, false_or]

/-- An accepted request makes the commit pending on every bench of its mask, a refused one changes nothing. -/
theorem State.requestCommit_eq (s : State) (t : TenantId) (mask : Byte) (crcs : Option (List Word)) :
    s.requestCommit t mask crcs = (s.checkCommit t mask crcs,
      if s.checkCommit t mask crcs = 0 then s.pendCommits s.clock.frame (maskBenches mask) else s) := by
  have hfold (n : Nat) (bs : List BenchId) (u : State) (h : u.clock.frame = n) :
      bs.foldl (fun s b => s.modBench b (fun x => { x with coefs := { x.coefs with commit := some ⟨s.clock.frame, false⟩ } })) u =
        u.pendCommits n bs := by
    induction bs generalizing u with
    | nil => rfl
    | cons b rest ih => subst h; exact ih _ rfl
  rw [State.requestCommit, hfold _ _ s rfl]

@[simp] theorem State.requestCommit_seq (s : State) (t : TenantId) (mask : Byte) (crcs : Option (List Word)) (c : BenchId) :
    ((s.requestCommit t mask crcs).2.bench c).seq = (s.bench c).seq := by
  rw [State.requestCommit_eq]
  split_ifs
  · rw [State.pendCommits_bench]
    split_ifs <;> rfl
  · rfl

@[simp] theorem State.stepPrd_seq (s : State) (b : BenchId) (f : StepFields) (r : Nat) : ((s.stepPrd b f r).bench b).seq = (s.bench b).seq := by
  rw [State.stepPrd]
  dsimp only
  split_ifs <;> simp [Bench.refuseTag, Bench.markTag]

@[simp] theorem State.refusePwr_seq (s : State) (b : BenchId) (r : Nat) (code : Byte) (refused : Bool) :
    ((s.refusePwr b r code refused).bench b).seq = (s.bench b).seq := by
  rw [State.refusePwr]
  split_ifs <;> simp [Bench.recordAt]

@[simp] theorem State.stepPwr_seq (s : State) (b : BenchId) (f : StepFields) (r : Nat) : ((s.stepPwr b f r).bench b).seq = (s.bench b).seq := by
  rw [State.stepPwr]
  dsimp only
  split_ifs <;> simp

@[simp] theorem State.stepPost_seq (s : State) (b : BenchId) (f : StepFields) (r : Nat) : ((s.stepPost b f r).bench b).seq = (s.bench b).seq := by
  rw [State.stepPost]
  split_ifs <;> simp

@[simp] theorem State.stepWit_seq (s : State) (b : BenchId) (f : StepFields) (r : Nat) : ((s.stepWit b f r).bench b).seq = (s.bench b).seq := by
  rw [State.stepWit]
  split
  · rfl
  · dsimp only
    split_ifs <;> simp

@[simp] theorem State.stepCommit_seq (s : State) (b : BenchId) (f : StepFields) (r : Nat) : ((s.stepCommit b f r).bench b).seq = (s.bench b).seq := by
  rw [State.stepCommit]
  split
  · rfl
  · dsimp only
    split_ifs <;> simp

/-- The state with a remote write more in the queue of a bench. -/
def State.queueRemote (s : State) (b : BenchId) (q : RemoteRequest) : State :=
  { s with ring := { s.ring with rwrQ := vmod s.ring.rwrQ b.val (fun l => l ++ [q]) } }

@[simp] theorem State.queueRemote_bench (s : State) (b : BenchId) (q : RemoteRequest) (c : BenchId) : (s.queueRemote b q).bench c = s.bench c := rfl

/-- The remote write that an RWR step of a settled bench asks for. -/
def Bench.remoteOf (x : Bench) (f : StepFields) : RemoteRequest :=
  { rid := f.bits 32 6, window := f.win, offset := x.offset f, data := x.reg f.ra, tag := x.generation ++ x.remoteSeq, addr := x.seq.address }

/-- An RWR is refused, or it queues its remote write and is counted (R231). -/
theorem State.stepRwr_eq (s : State) (b : BenchId) (f : StepFields) (r : Nat) : s.stepRwr b f r =
    if 16 ≤ (s.bench b).remotes ∨ s.ring.locked = false ∨ s.isWedged 2 = true then s.replyCode b f r 0x03
    else (((s.queueRemote b ((s.bench b).remoteOf f)).modBench b
      (fun x => ({ x with remotes := x.remotes + 1, remoteSeq := x.remoteSeq + 1 }).push r .remote)).replyCode b f r 0x00) := rfl

@[simp] theorem State.stepRwr_seq (s : State) (b : BenchId) (f : StepFields) (r : Nat) : ((s.stepRwr b f r).bench b).seq = (s.bench b).seq := by
  rw [State.stepRwr_eq]
  split_ifs <;> simp

@[simp] theorem Bench.stepLut_seq (x : Bench) (f : StepFields) (r : Nat) : (x.stepLut f r).seq = x.seq := by
  rw [Bench.stepLut]
  dsimp only
  split_ifs <;> rfl

@[simp] theorem Bench.stepLog2_seq (x : Bench) (f : StepFields) (r : Nat) : (x.stepLog2 f r).seq = x.seq := by
  rw [Bench.stepLog2]
  split_ifs <;> exact x.pushAll_seq _ _

@[simp] theorem Bench.stepExp2_seq (x : Bench) (f : StepFields) (r : Nat) : (x.stepExp2 f r).seq = x.seq := by
  rw [Bench.stepExp2]
  split_ifs <;> exact x.pushAll_seq _ _

@[simp] theorem Bench.stepRsq_seq (x : Bench) (f : StepFields) (r : Nat) : (x.stepRsq f r).seq = x.seq := by
  rw [Bench.stepRsq]
  split_ifs <;> exact x.pushAll_seq _ _

@[simp] theorem Bench.stepDrdf_seq (x : Bench) (f : StepFields) (r : Nat) (e g : EccRead) (a n : Nat) : (x.stepDrdf f r e g a n).seq = x.seq := by
  rw [Bench.stepDrdf]
  dsimp only
  split_ifs <;> simp

/-- Every step command issues its opcode and fields with an effect that leaves the sequencer of its bench. -/
theorem exec_of_step {c : Instr} {b : BenchId} {op : BitVec 6} {f : StepFields} (h : c.step = some (b, op, f)) (s : State) :
    ∃ act, exec c s = .next (s.issue b op f act) ∧ Effect.keepsSeq b act := by
  cases c with
  | nop b f | mov b f | movi b f | min b f | max b f | and b f | ior b f | xor b f | shra b f | shrl b f | sel b f | crd b f
  | dwr b f | cmp b f | pin b f | prio b f | pout b f | rout b f | rslt b f | plan b f =>
    cases h
    exact State.issueBench_keepsSeq fun _ _ => rfl
  | add b f | sub b f | neg b f | abs b f | shl b f | mul b f | mulc b f | ast b f | clamp b f | dwra b f | envf b f
  | mac b f | macc b f | msu b f | msuc b f | aclr b f | ald b f | sin b f | pls b f | rin b f | tod b f | fcnt b f | pget b f =>
    cases h
    exact State.issueBench_keepsSeq fun x r => Bench.pushAll_seq _ r _
  | drd b f e =>
    cases h
    exact State.issueBench_keepsSeq fun x r => (Bench.pushAll_seq _ r _).trans (x.rewriteDelay_seq _)
  | drdf b f e g =>
    cases h
    exact State.issueBench_keepsSeq fun x r => x.stepDrdf_seq f r e g _ _
  | lut b f => cases h; exact State.issueBench_keepsSeq fun x r => x.stepLut_seq f r
  | log2 b f => cases h; exact State.issueBench_keepsSeq fun x r => x.stepLog2_seq f r
  | exp2 b f => cases h; exact State.issueBench_keepsSeq fun x r => x.stepExp2_seq f r
  | rsq b f => cases h; exact State.issueBench_keepsSeq fun x r => x.stepRsq_seq f r
  | prd b f => cases h; exact State.issue_keepsSeq fun u r => u.stepPrd_seq b f r
  | pwr b f => cases h; exact State.issue_keepsSeq fun u r => u.stepPwr_seq b f r
  | takeStep b f => cases h; exact State.issue_keepsSeq fun u r => by simp [State.stepTake]
  | ackn b f => cases h; exact State.issue_keepsSeq fun u r => by simp [State.stepAckn]
  | evt b f => cases h; exact State.issue_keepsSeq fun u r => by simp [State.stepEvt]
  | wit b f => cases h; exact State.issue_keepsSeq fun u r => u.stepWit_seq b f r
  | commitStep b f => cases h; exact State.issue_keepsSeq fun u r => u.stepCommit_seq b f r
  | rwr b f => cases h; exact State.issue_keepsSeq fun u r => u.stepRwr_seq b f r
  | stat b f => cases h; exact State.issue_keepsSeq fun u r => by simp [State.stepStat, State.pushStep]
  | postStep b f =>
    obtain ⟨hsub, hs⟩ := Option.ite_none_right_eq_some.mp h
    cases hs
    refine ⟨_, congrArg Host.Outcome.next (if_pos hsub), fun u r => u.stepPost_seq b f r⟩
  | withdrawStep b f =>
    obtain ⟨hsub, hs⟩ := Option.ite_none_right_eq_some.mp h
    cases hs
    refine ⟨_, congrArg Host.Outcome.next (if_pos hsub), fun u r => by simp [State.stepWithdraw]⟩
  | queryStep b f =>
    obtain ⟨hsub, hs⟩ := Option.ite_none_right_eq_some.mp h
    cases hs
    refine ⟨_, congrArg Host.Outcome.next (if_pos hsub), fun u r => by simp [State.stepQuery]⟩
  | _ => cases h

/-- A step issues only while the part runs, its bench is active, fewer than L steps have issued, and its word is the program's next (R152). -/
theorem State.of_issues {s : State} {b : BenchId} {op : BitVec 6} {f : StepFields} (h : s.issues b op f = true) :
    s.running = true ∧ (s.bench b).active = true ∧ (s.bench b).seq.issued < (s.bench b).seq.length ∧
      Sparse.read 0 (s.bench b).seq.prog ((s.bench b).seq.vector + (s.bench b).seq.issued) = encodeStep op f := by
  simp only [State.issues, Sequencer.address, Bool.and_eq_true, decide_eq_true_eq] at h
  obtain ⟨⟨⟨⟨⟨hrun, -⟩, hactive⟩, hissued⟩, -⟩, hword⟩ := h
  exact ⟨hrun, hactive, hissued, of_decide_eq_true hword⟩

/-- A step that issues takes one issue position, whether it performs or not. -/
theorem State.issue_issued {s : State} {b : BenchId} {op : BitVec 6} {f : StepFields} {act : State → Nat → State}
    (h : s.issues b op f = true) (hact : Effect.keepsSeq b act) : ((s.issue b op f act).bench b).seq.issued = (s.bench b).seq.issued + 1 := by
  cases hp : (s.seen b).performs f with
  | true =>
    rw [State.issue_performs h hp, State.modBench_bench_self, hact, State.modBench_bench_self]
    exact congrArg (·.issued + 1) (Bench.settle_seq _ _)
  | false =>
    rw [State.issue_skip h hp, State.modBench_bench_self]
    exact congrArg (·.issued + 1) (Bench.settle_seq _ _)

/-- Settles O14: each field of a step word is read back where it was put (Table BEN-2). -/
theorem stepWordRoundTrip : Obligations.StepWordRoundTrip :=
  ⟨fun op f => ⟨stepOp_encodeStep op f, stepFields_encodeStep op f⟩, encodeStep_stepFields⟩

/-- Settles O15: every step command issues its own opcode and fields, and no issue without them (R152, R156). -/
theorem stepsThatDoNotIssue : Obligations.StepsThatDoNotIssue := by
  refine ⟨fun c b op f s hc => ⟨fun hi => ?issues, fun hi => ?off⟩, fun c b op f s hc hi hp => ?skip⟩ <;>
    obtain ⟨act, hexec, hact⟩ := exec_of_step hc s
  case issues =>
    obtain ⟨hrun, hactive, hissued, hword⟩ := State.of_issues hi
    rw [hword]
    exact ⟨hrun, hactive, hissued, stepOp_encodeStep op f, stepFields_encodeStep op f, _, hexec, State.issue_issued hi hact⟩
  case off => rw [hexec, State.issue_off hi]
  case skip => rw [hexec, State.issue_skip hi hp]; rfl

end Sys2Proof.Machine
end

section
/-! SUPPORT. The traffic steps (R210 to R238 of spec/09_traffic_steps.md): what a step sees, and what its effect on the part comes to. -/
namespace Sys2Proof.Machine

/-! ### What a step sees of the part, and what its issue adds -/

/-- The state that a step of bench `b` sees: the bench settled at the step's position. -/
def State.atStep (s : State) (b : BenchId) : State := s.modBench b (fun x => x.settle (s.bench b).seq.position)

/-- The bench with one more step issued. -/
def Bench.issueTaken (x : Bench) : Bench := { x with seq := { x.seq with issued := x.seq.issued + 1 } }

/-- The state with the step's issue position taken. -/
def State.stepTaken (s : State) (b : BenchId) : State := s.modBench b Bench.issueTaken

/-- The outcome of a step that performs, by its effect on the state that it sees. -/
theorem next_issue {s : State} {b : BenchId} {op : BitVec 6} {f : StepFields} {act : State → Nat → State}
    (hi : s.issues b op f = true) (hp : (s.seen b).performs f = true) :
    (.next (s.issue b op f act) : Out) = .next ((act (s.atStep b) (s.bench b).seq.position).stepTaken b) :=
  congrArg Host.Outcome.next (State.issue_performs hi hp)

@[simp] theorem State.atStep_bench_self (s : State) (b : BenchId) : (s.atStep b).bench b = s.seen b := State.modBench_bench_self ..

theorem State.atStep_bench_of_ne (s : State) {b c : BenchId} (h : c ≠ b) : (s.atStep b).bench c = s.bench c :=
  State.modBench_bench_of_ne s _ h

/-- A change of the bench that a step sees, its position taken. -/
theorem State.atStep_modBench_stepTaken (s : State) (b : BenchId) (g : Bench → Bench) :
    ((s.atStep b).modBench b g).stepTaken b = s.took b g := by
  rw [State.stepTaken, State.atStep, State.modBench_modBench, State.modBench_modBench]
  rfl

/-- The state that a step sees, its position taken. -/
theorem State.atStep_stepTaken (s : State) (b : BenchId) : (s.atStep b).stepTaken b = s.took b id := by
  rw [State.stepTaken, State.atStep, State.modBench_modBench]
  rfl

/-! ### What a change of a bench leaves to others -/

theorem State.raise_modBench (s : State) (b : BenchId) (g : Bench → Bench) (t : TenantId) (n : Nat) :
    (s.modBench b g).raise t n = (s.raise t n).modBench b g := by
  have hpresent : (s.modBench b g).present t = s.present t := rfl
  unfold State.raise
  rw [hpresent, State.modBench_tenant]
  split_ifs <;> rfl

theorem State.raiseOwner_modBench (s : State) (b : BenchId) (g : Bench → Bench) (c : BenchId) (n : Nat) :
    (s.modBench b g).raiseOwner c n = (s.raiseOwner c n).modBench b g := by
  have howner : (s.modBench b g).owner c = s.owner c := rfl
  unfold State.raiseOwner
  rw [howner]
  split
  · exact s.raise_modBench b g _ n
  · rfl

@[simp] theorem State.raise_stepTaken (s : State) (b : BenchId) (t : TenantId) (n : Nat) :
    (s.raise t n).stepTaken b = (s.stepTaken b).raise t n := (s.raise_modBench b _ t n).symm

@[simp] theorem State.raiseOwner_stepTaken (s : State) (b c : BenchId) (n : Nat) :
    (s.raiseOwner c n).stepTaken b = (s.stepTaken b).raiseOwner c n := (s.raiseOwner_modBench b _ c n).symm

/-! ### View, status and staging steps -/

/-- The word of STAT, whose bench the step sees settled. -/
theorem next_stat {s : State} {b : BenchId} {f : StepFields} (hi : s.issues b 0x3c f = true) (hp : (s.seen b).performs f = true) :
    exec (.stat b f) s = .next (s.stepped b [.reg f.rd ((s.atStep b).statWord b (f.bits 0 6))]) :=
  (next_issue hi hp).trans (congrArg Host.Outcome.next (s.atStep_modBench_stepTaken b _))

/-- Settles O28: each view step puts the words of the view on its way, and STAT the word of its selector (R213 to R216, R233, R234). -/
theorem viewAndStatSteps : Obligations.ViewAndStatSteps := by
  refine ⟨?view, ?stat⟩
  case view =>
    rintro b f s v F hp rfl hF
    obtain rfl : F = flagWrite f := funext hF
    refine ⟨fun hi => ?pin, fun hi c hc => ?sin, fun hi c hc => ?pls, fun hi c hc => ?rin, fun hi => ⟨_, next_pushAll hi hp fun _ => rfl, ?tod⟩,
      fun hi => ⟨_, next_pushAll hi hp fun _ => rfl, ?fcnt⟩⟩
    case pin => exact next_pushAll hi hp fun _ => rfl
    case sin => subst hc; exact next_pushAll hi hp fun _ => rfl
    case pls =>
      subst hc
      refine next_pushAll hi hp fun r => ?_
      rw [Bench.stepPls]
      split
      · rw [if_pos ‹_›]
      · rw [if_neg (by omega), if_pos ‹_›]
      · rw [if_neg ‹_›, if_neg ‹_›]
    case rin => subst hc; exact next_pushAll hi hp fun _ => rfl
    case tod => refine ⟨fun h => ?_, fun h => ?_, fun h => ?_, fun h => ?_⟩ <;> rw [h] <;> rfl
    case fcnt =>
      refine ⟨fun h => ?_, fun h => ?_, fun h => ?_, fun h => ?_, fun h => ?_⟩
      · rw [h]; exact BitVec.toNat_ofNat ..
      · rw [h]; exact BitVec.toNat_ofNat ..
      · rw [h]; exact BitVec.toNat_ofNat ..
      · rw [h]; exact BitVec.toNat_ofNat ..
      · split
        · omega
        · omega
        · omega
        · omega
        · rfl
  case stat =>
    intro b f s hp hi
    refine ⟨_, next_stat hi hp, fun h => ?block, fun h => ?plan, fun h n hn => ?remote, fun h => ?ring, fun h hlo hhi => ?temp⟩
    case block => rw [State.statWord, if_pos h, State.atStep_bench_self]
    case plan => rw [State.statWord, if_neg (by omega), if_pos h, State.atStep_bench_self]; rfl
    case remote => rw [State.statWord, if_neg (by omega), if_neg (by omega), if_pos h, State.atStep_bench_self, hn]; rfl
    case ring =>
      rw [State.statWord, if_neg (by omega), if_neg (by omega), if_neg (by omega), if_pos h]
      change (BitVec.ofNat 32 ((if s.ring.folded then 2 else 0) + (if s.ring.locked then 1 else 0))).getLsbD 0 = _ ∧
        (BitVec.ofNat 32 ((if s.ring.folded then 2 else 0) + (if s.ring.locked then 1 else 0))).getLsbD 1 = _
      cases s.ring.folded <;> cases s.ring.locked <;> decide
    case temp =>
      rw [State.statWord, if_neg (by omega), if_neg (by omega), if_neg (by omega), if_neg (by omega), if_pos h]
      change ((celsiusByte s.power.reading).signExtend 32).toInt = _
      rw [celsiusByte, if_pos ⟨hlo, hhi⟩, BitVec.toInt_signExtend_of_le (by decide), BitVec.toInt_ofInt_eq_self (by decide)] <;> omega

/-- Settles O29: each of the steps changes what is staged, or the part's events, and puts no register write on its way (R174, R217, R224, R232). -/
theorem stagingSteps : Obligations.StagingSteps := by
  intro b f s hp
  refine ⟨fun hi => ?pout, fun hi => ?rout, fun hi => ?rslt, fun hi => ?plan, fun hi => ?evt, fun hi => ?prio⟩
  case pout => exact congrArg Host.Outcome.next (State.issueBench_eq_took hi hp rfl)
  case rout => exact congrArg Host.Outcome.next (State.issueBench_eq_took hi hp rfl)
  case rslt => exact congrArg Host.Outcome.next (State.issueBench_eq_took hi hp rfl)
  case plan => exact congrArg Host.Outcome.next (State.issueBench_eq_took hi hp rfl)
  case evt =>
    refine (next_issue hi hp).trans (congrArg Host.Outcome.next ?_)
    rw [State.stepEvt, State.raiseOwner_stepTaken, State.atStep_stepTaken]
  case prio => exact congrArg Host.Outcome.next (State.issueBench_eq_took hi hp rfl)

end Sys2Proof.Machine
end

section
/-! SUPPORT. The traffic steps that ask the pit, the mailboxes, the ring, the log and the commit unit (R219 to R231 of spec/09_traffic_steps.md). -/
namespace Sys2Proof.Machine

/-! ### The checks of a step see the part as it stands -/

@[simp] theorem PipeTarget.apply_state (t : PipeTarget) (x : Bench) : (t.apply x).state = x.state := by cases t <;> rfl

@[simp] theorem Bench.settle_state (x : Bench) (r : Nat) : (x.settle r).state = x.state := by
  have happly (ws : List PipeWrite) (y : Bench) : (y.applyAll ws).state = y.state := by
    induction ws generalizing y with
    | nil => rfl
    | cons w rest ih => exact (ih _).trans (w.target.apply_state y)
  rw [Bench.settle_eq]
  exact happly _ _

@[simp] theorem State.seen_seq (s : State) (b : BenchId) : (s.seen b).seq = (s.bench b).seq := Bench.settle_seq _ _

@[simp] theorem State.atStep_bench_state (s : State) (b c : BenchId) : ((s.atStep b).bench c).state = (s.bench c).state := by
  by_cases e : c = b
  · subst e
    rw [State.atStep_bench_self]
    exact Bench.settle_state _ _
  · rw [s.atStep_bench_of_ne e]

@[simp] theorem State.atStep_checkWindow (s : State) (b : BenchId) (e w bit o n : Nat) :
    (s.atStep b).checkWindow e w bit o n = s.checkWindow e w bit o n := by
  have hright : (s.atStep b).rightless e = s.rightless e := by rw [State.rightless, State.rightless, State.atStep_bench_state]
  rw [State.checkWindow, State.hasRight, hright]
  rfl

@[simp] theorem State.atStep_endpointAbsent (s : State) (b : BenchId) (e : Nat) : (s.atStep b).endpointAbsent e = s.endpointAbsent e := by
  rw [State.endpointAbsent, State.benchAbsent, State.atStep_bench_state]
  rfl

@[simp] theorem State.atStep_checkPost (s : State) (b : BenchId) (x y : Nat) (n : Word) : (s.atStep b).checkPost x y n = s.checkPost x y n := by
  have hchannel : (s.atStep b).declaredChannel (channelId x y) = s.declaredChannel (channelId x y) := rfl
  rw [State.checkPost, State.checkPost, hchannel]
  simp only [State.atStep_checkWindow, State.atStep_endpointAbsent]

/-- What a change makes of the bench that the step sees tells the state it makes. -/
theorem State.took_congr {s : State} {b : BenchId} {g g' : Bench → Bench} (h : g (s.seen b) = g' (s.seen b)) : s.took b g = s.took b g' :=
  State.modBench_congr (congrArg (fun y : Bench => { y with seq := { y.seq with issued := y.seq.issued + 1 } }) h)

/-! ### PRD, PWR and PGET -/

/-- The request that a PRD or PWR step at position `r` queues for a window whose declaration it met at acceptance (R219). -/
def Bench.request (x : Bench) (r : Nat) (f : StepFields) (d : WindowDecl) (tag : Nat) (data : Word) : BenchRequest :=
  { pos := r, addr := x.seq.address, window := f.win, base := d.base, length := d.length, offset := x.offset f, tag := tag, data := data,
    stale := false, revoked := false }

/-- PRD by the outcome of its check (R219, R223, R286). -/
theorem State.stepPrd_eq (s : State) (b : BenchId) (f : StepFields) (r : Nat) : s.stepPrd b f r =
    if (s.checkWindow b.val f.win rightRead ((s.bench b).offset f) 1).1 ≠ 0 then
      (s.modBench b (fun x => (x.markTag f.tag r).refuseTag f.tag r)).raiseOwner b 9
    else if s.isWedged 1 then s.modBench b (fun x => (x.markTag f.tag r).refuseTag f.tag r)
    else s.modBench b (fun x => { x.markTag f.tag r with
      reads := x.reads ++ [(s.bench b).request r f (s.checkWindow b.val f.win rightRead ((s.bench b).offset f) 1).2 f.tag 0] }) := by
  rw [State.stepPrd]
  simp only [State.modBench_modBench]
  rfl

/-- PWR by the outcome of its checks (R222, R277, R286). -/
theorem State.stepPwr_eq (s : State) (b : BenchId) (f : StepFields) (r : Nat) : s.stepPwr b f r =
    if (s.checkWindow b.val f.win rightWrite ((s.bench b).offset f) 1).1 ≠ 0 then
      s.refusePwr b r (s.checkWindow b.val f.win rightWrite ((s.bench b).offset f) 1).1 true
    else if 8 ≤ (s.bench b).writes.length then s.refusePwr b r 0x03 true
    else if s.isWedged 1 then s.refusePwr b r 0x1b false
    else s.modBench b (fun x => { x with writes := x.writes ++
      [(s.bench b).request r f (s.checkWindow b.val f.win rightWrite ((s.bench b).offset f) 1).2 0 ((s.bench b).reg f.ra)] }) := rfl

/-- Settles O30: PRD and PWR by the outcome of their window check, PGET by the distance of the latest PRD (R219 to R222). -/
theorem pitRequestAndCollectSteps : Obligations.PitRequestAndCollectSteps := by
  refine ⟨?requests, ?collect⟩
  case requests =>
    rintro b f s o q hp hw ho
    obtain rfl : o = (s.seen b).offset f := ho
    have hwedged : (s.atStep b).isWedged 1 = false := hw
    refine ⟨fun hi d hd hq => ?prd, fun hi (hd : (s.checkWindow b.val f.win rightRead ((s.seen b).offset f) 1).1 ≠ 0) => ?prdRefused,
        fun hi hlt d hd hq => ?pwr, fun hi c (hc : c = (s.checkWindow b.val f.win rightWrite ((s.seen b).offset f) 1).1) h0 => ?pwrRefused⟩
    case prd =>
      have hcheck : s.checkWindow b.val f.win rightRead ((s.seen b).offset f) 1 = (0, d) := hd
      refine (next_issue hi hp).trans (congrArg Host.Outcome.next ?_)
      rw [State.stepPrd_eq, State.atStep_bench_self, State.atStep_checkWindow, hcheck, if_neg (by simp), hwedged, if_neg (by simp),
        State.atStep_modBench_stepTaken, Bench.request, State.seen_seq, hq]
      rfl
    case prdRefused =>
      refine (next_issue hi hp).trans (congrArg Host.Outcome.next ?_)
      rw [State.stepPrd_eq, State.atStep_bench_self, State.atStep_checkWindow, if_pos hd, State.raiseOwner_stepTaken,
        State.atStep_modBench_stepTaken]
      rfl
    case pwr =>
      have hcheck : s.checkWindow b.val f.win rightWrite ((s.seen b).offset f) 1 = (0, d) := hd
      refine (next_issue hi hp).trans (congrArg Host.Outcome.next ?_)
      rw [State.stepPwr_eq, State.atStep_bench_self, State.atStep_checkWindow, hcheck, if_neg (by simp), if_neg (by omega), hwedged,
        if_neg (by simp), State.atStep_modBench_stepTaken, Bench.request, State.seen_seq, hq]
      rfl
    case pwrRefused =>
      subst hc
      refine (next_issue hi hp).trans (congrArg Host.Outcome.next ?_)
      rw [State.stepPwr_eq, State.atStep_bench_self, State.atStep_checkWindow, if_pos h0, State.refusePwr, if_pos rfl,
        State.raiseOwner_stepTaken, State.raiseOwner_stepTaken, State.atStep_modBench_stepTaken]
      exact congrArg (fun u : State => (u.raiseOwner b 12).raiseOwner b 9) (State.took_congr (by rw [State.seen_seq]; rfl))
  case collect =>
    rintro b f s g F hp hi rfl hF
    obtain rfl : F = flagWrite f := funext hF
    refine ⟨fun hnone => ?none, fun p hsome => ⟨fun hfar => ?far, fun hnear => ?near⟩⟩
    case none =>
      refine congrArg Host.Outcome.next (State.issueBench_eq_took hi hp ?_)
      rw [Bench.stepPget, StepFields.tag, hnone]
      rfl
    case far =>
      refine congrArg Host.Outcome.next (State.issueBench_eq_took hi hp ?_)
      rw [Bench.stepPget, StepFields.tag, hsome, Option.all_some, decide_eq_true hfar]
      rfl
    case near =>
      refine congrArg Host.Outcome.next (State.issueBench_eq_took hi hp ?_)
      rw [Bench.stepPget, StepFields.tag, hsome, Option.all_some, decide_eq_false (by omega)]
      rfl

/-! ### Mailbox steps -/

@[simp] theorem State.modChannel_stepTaken (s : State) (b : BenchId) (n : Nat) (g : Channel → Channel) :
    (s.modChannel n g).stepTaken b = (s.stepTaken b).modChannel n g := rfl

@[simp] theorem State.pruneChannels_stepTaken (s : State) (b : BenchId) : s.pruneChannels.stepTaken b = (s.stepTaken b).pruneChannels := rfl

/-- A reply of the state that the step sees, its position taken. -/
theorem State.atStep_reply_stepTaken (s : State) (b : BenchId) (f : StepFields) (v : Word) (flag : Bool) :
    ((s.atStep b).reply b f (s.bench b).seq.position v flag).stepTaken b = s.replies b f v flag :=
  s.atStep_modBench_stepTaken b _

theorem State.modChannel_reply (s : State) (n : Nat) (g : Channel → Channel) (b : BenchId) (f : StepFields) (r : Nat) (v : Word) (flag : Bool) :
    (s.modChannel n g).reply b f r v flag = (s.reply b f r v flag).modChannel n g := rfl

theorem State.pruneChannels_reply (s : State) (b : BenchId) (f : StepFields) (r : Nat) (v : Word) (flag : Bool) :
    s.pruneChannels.reply b f r v flag = (s.reply b f r v flag).pruneChannels := rfl

theorem State.raiseOwner_reply (s : State) (c : BenchId) (n : Nat) (b : BenchId) (f : StepFields) (r : Nat) (v : Word) (flag : Bool) :
    (s.raiseOwner c n).reply b f r v flag = (s.reply b f r v flag).raiseOwner c n :=
  (s.raiseOwner_modBench b (fun x => x.pushAll (r + 13) (.reg f.rd v :: flagWrite f flag)) c n).symm

theorem State.raise_reply (s : State) (t : TenantId) (n : Nat) (b : BenchId) (f : StepFields) (r : Nat) (v : Word) (flag : Bool) :
    (s.raise t n).reply b f r v flag = (s.reply b f r v flag).raise t n :=
  (s.raise_modBench b (fun x => x.pushAll (r + 13) (.reg f.rd v :: flagWrite f flag)) t n).symm

/-- A refusal's code as a reply step writes it. -/
theorem State.replyCode_refused (s : State) (b : BenchId) (f : StepFields) (r : Nat) {k : Byte} (h : k ≠ 0) :
    s.replyCode b f r k = s.reply b f r (k.setWidth 32) false := by rw [State.replyCode, decide_eq_false h]

/-- POST by the outcome of its check (R226). -/
theorem State.stepPost_eq (s : State) (b : BenchId) (f : StepFields) (r : Nat) : s.stepPost b f r =
    if s.checkPost b.val f.ep ((s.bench b).reg f.ra) = 0 then
      (({ s with posted := s.posted + 1 } : State).modChannel (channelId b.val f.ep)
        (fun c => c.post ((s.bench b).reg f.ra) (s.writeBound b.val r) (s.posted + 1))).reply b f r 0 true
    else if s.checkPost b.val f.ep ((s.bench b).reg f.ra) = 9 then
      (s.raiseOwner b 8).reply b f r 9 false
    else s.reply b f r ((s.checkPost b.val f.ep ((s.bench b).reg f.ra)).setWidth 32) false := by
  rw [State.stepPost, State.postNotice]
  generalize s.checkPost b.val f.ep ((s.bench b).reg f.ra) = k
  dsimp only
  by_cases h0 : k = 0
  · subst h0; rfl
  · rw [if_neg h0, if_neg h0, State.replyCode_refused _ _ _ _ h0]
    by_cases h9 : k = 9
    · subst h9; rfl
    · rw [if_neg h9, if_neg h9]

@[simp] theorem State.atStep_channel (s : State) (b : BenchId) (n : Nat) : (s.atStep b).channel n = s.channel n := rfl

@[simp] theorem State.atStep_queryWord (s : State) (b : BenchId) (x y : Nat) : (s.atStep b).queryWord x y = s.queryWord x y := by
  have hchannel : (s.atStep b).declaredChannel (channelId x y) = s.declaredChannel (channelId x y) := rfl
  rw [State.queryWord, State.queryWord, hchannel]
  simp only [State.atStep_endpointAbsent]

/-- A channel whose notice is acknowledged, the code kept until the acknowledger's earlier writes are done (R228). -/
def Channel.acknowledge (code : Half) (waitFor : Nat) (c : Channel) : Channel :=
  { c with full := false, visible := false, taken := false, timer := 0, ack := some (code, waitFor) }

/-- Settles O31: each mailbox step by the outcome of its checks, which see the channels as they stand (R226 to R228). -/
theorem mailboxSteps : Obligations.MailboxSteps := by
  rintro b f s e hp (rfl : e = f.ep)
  refine ⟨fun hsub hi h0 => ?post, fun hsub hi h9 => ?absent, fun hsub hi k hk h0 h9 => ?refused, fun hsub hi c hc hres hdecl hfull => ?withdraw,
    fun hsub hi => ?query, fun hi c hc hvis => ?take, fun hi hvis => ?takeNone, fun hi c hc hres hdecl hexp hvis => ?ackn⟩
  case post =>
    refine (congrArg Host.Outcome.next (if_pos hsub)).trans ((next_issue hi hp).trans (congrArg Host.Outcome.next ?_))
    rw [State.stepPost_eq, State.atStep_bench_self, State.atStep_checkPost, if_pos h0, State.modChannel_reply,
      State.modChannel_stepTaken, State.writeBound, if_pos b.isLt]
    exact congrArg (State.modChannel · _ _) (State.atStep_reply_stepTaken { s with posted := s.posted + 1 } b f 0 true)
  case absent =>
    refine (congrArg Host.Outcome.next (if_pos hsub)).trans ((next_issue hi hp).trans (congrArg Host.Outcome.next ?_))
    rw [State.stepPost_eq, State.atStep_bench_self, State.atStep_checkPost, h9, if_neg (by decide), if_pos rfl, State.raiseOwner_reply,
      State.raiseOwner_stepTaken, State.atStep_reply_stepTaken]
  case refused =>
    subst hk
    refine (congrArg Host.Outcome.next (if_pos hsub)).trans ((next_issue hi hp).trans (congrArg Host.Outcome.next ?_))
    rw [State.stepPost_eq, State.atStep_bench_self, State.atStep_checkPost, if_neg h0, if_neg h9, State.atStep_reply_stepTaken]
  case withdraw =>
    refine (congrArg Host.Outcome.next (if_pos hsub)).trans ((next_issue hi hp).trans (congrArg Host.Outcome.next ?_))
    rw [State.stepWithdraw, State.withdrawNotice, State.atStep_channel, hc]
    dsimp only
    rw [if_neg (by simp [hres, hdecl]), if_neg (by simp [hfull])]
    exact congrArg (State.modChannel · _ _) (s.atStep_reply_stepTaken b f 0 true)
  case query =>
    refine (congrArg Host.Outcome.next (if_pos hsub)).trans ((next_issue hi hp).trans (congrArg Host.Outcome.next ?_))
    rw [State.stepQuery, State.atStep_queryWord]
    exact s.atStep_reply_stepTaken b f _ _
  case take =>
    refine (next_issue hi hp).trans (congrArg Host.Outcome.next ?_)
    rw [State.stepTake, State.takeNotice, State.atStep_channel, hc]
    dsimp only
    rw [if_pos hvis]
    exact congrArg (fun u => (State.modChannel u _ _).pruneChannels) (s.atStep_reply_stepTaken b f c.notice true)
  case takeNone =>
    have hnone : (s.atStep b).takeNotice f.ep b.val = (none, s.atStep b) := by
      rw [State.takeNotice, State.atStep_channel]
      split
      · rfl
      · rw [if_neg (by simp [hvis _ ‹_›])]
    refine (next_issue hi hp).trans (congrArg Host.Outcome.next ?_)
    rw [State.stepTake, hnone]
    exact s.atStep_reply_stepTaken b f 0 false
  case ackn =>
    refine (next_issue hi hp).trans (congrArg Host.Outcome.next ?_)
    rw [State.stepAckn, State.ackNotice, State.atStep_channel, hc]
    dsimp only
    rw [if_neg (by simp [hres, hdecl, hexp]), if_neg (by simp [hvis]), State.atStep_bench_self, State.writeBound, if_pos b.isLt]
    exact congrArg (State.modChannel · _ (Channel.acknowledge (((s.seen b).reg f.ra).setWidth 16) (s.bench b).seq.position))
        (s.atStep_reply_stepTaken b f 0 true)

/-! ### RWR, WIT and COMMIT -/

theorem State.takeAnchor_modBench (s : State) (b : BenchId) (g : Bench → Bench) (r : Region) :
    (s.modBench b g).takeAnchor r = ((s.takeAnchor r).1, (s.takeAnchor r).2.modBench b g) := by
  unfold State.takeAnchor
  rw [State.modBench_wb]
  split_ifs <;> rfl

theorem State.takeEra_modBench (s : State) (b : BenchId) (g : Bench → Bench) :
    (s.modBench b g).takeEra = (s.takeEra.1, s.takeEra.2.modBench b g) := by
  unfold State.takeEra
  rw [State.modBench_wb, State.takeAnchor_modBench]
  split_ifs <;> rfl

theorem State.takeEntry_modBench (s : State) (b : BenchId) (g : Bench → Bench) (source kind : Byte) (payload : List Byte) :
    (s.modBench b g).takeEntry source kind payload = ((s.takeEntry source kind payload).1, (s.takeEntry source kind payload).2.modBench b g) := by
  unfold State.takeEntry
  rw [State.takeEra_modBench]
  dsimp only
  rw [State.takeAnchor_modBench]
  dsimp only
  rw [State.takeEra_modBench]
  rfl

/-- The log takes an entry whatever the benches hold. -/
theorem State.appendEntry_modBench (s : State) (b : BenchId) (g : Bench → Bench) (t : TenantId) (w : Bool) (source kind : Byte)
    (payload : List Byte) : (s.modBench b g).appendEntry t w source kind payload =
      ((s.appendEntry t w source kind payload).1, (s.appendEntry t w source kind payload).2.1,
        (s.appendEntry t w source kind payload).2.2.modBench b g) := by
  have hlive : (s.modBench b g).logLive = s.logLive := rfl
  have htake : (s.modBench b g).logWitness source kind payload =
      ((s.logWitness source kind payload).1, (s.logWitness source kind payload).2.modBench b g) := by
    rw [State.logWitness, State.takeEntry_modBench]
    rfl
  unfold State.appendEntry
  rw [hlive, State.modBench_wb, htake]
  split_ifs <;> rfl

theorem satInc16_eq (c : Half) : satInc16 c = if c = 0xffff then 0xffff else c + 1 := by
  rw [satInc16]
  by_cases h : c = 0xffff
  · subst h; rfl
  · rw [if_neg h]
    exact if_neg h

/-- The state with a refusal of an entry beyond the budget counted (R416). -/
def State.countRefusal (s : State) (t : TenantId) (witness : Bool) : State :=
  { s with wb :=
    if witness then { s.wb with witnessRefused := vmod s.wb.witnessRefused t.val satInc16 }
    else { s.wb with hostRefused := vmod s.wb.hostRefused t.val satInc16 } }

/-- An entry beyond the tenant's eight of the budget second is refused and counted. -/
theorem State.appendEntry_overBudget {s : State} {t : TenantId} (hlive : s.logLive = true) (hused : 8 ≤ vget s.wb.used t.val 0) (w : Bool)
    (source kind : Byte) (payload : List Byte) :
    s.appendEntry t w source kind payload = (0x1c, ⟨0, 0⟩, s.countRefusal t w) := by
  rw [State.appendEntry, hlive, if_neg (by decide), if_pos hused]
  rfl

/-- With the queue full or the weighbridge wedged an entry is refused as BUSY. -/
theorem State.appendEntry_busy {s : State} {t : TenantId}
    (h : s.logLive = false ∨ vget s.wb.used t.val 0 < 8 ∧ 32 ≤ s.wb.witnessQ.length) (w : Bool) (source kind : Byte) (payload : List Byte) :
    s.appendEntry t w source kind payload = (0x03, ⟨0, 0⟩, s) := by
  rw [State.appendEntry]
  by_cases hlive : s.logLive = false
  · rw [if_pos hlive]
  · obtain ⟨hused, hfull⟩ := h.resolve_left hlive
    rw [if_neg hlive, if_neg (by omega), if_pos hfull]

/-- The payload of a witness entry: seven registers from the one that the step names (R229). -/
def Bench.witnessPayload (x : Bench) (f : StepFields) : List Byte := (List.range 7).flatMap (fun i => beBytes 4 (x.reg (f.ra + i)).toNat)

/-- The kind of the witness entry of a WIT step (R229). -/
def witnessKind (f : StepFields) : Byte := BitVec.ofNat 8 (0x80 + f.bits 0 6)

/-- What WIT makes of the log's answer: its event and its reply (R229). -/
def State.witnessReply (u : State) (b : BenchId) (t : TenantId) (f : StepFields) (r : Nat) (code : Byte) (pair : SeqPair) : State :=
  (if code = 0 then u.raise t 26 else if code = 0x1c then u.raise t 28 else u).reply b f r
    (if code = 0 then pair.seq <<< 8 else code.setWidth 32) (decide (code = 0))

/-- The outcome of a WIT step by the answer of the log. -/
theorem next_wit {s u : State} {b : BenchId} {t : TenantId} {f : StepFields} {code : Byte} {pair : SeqPair} (hi : s.issues b 0x37 f = true)
    (hp : (s.seen b).performs f = true) (ht : s.owner b = some t)
    (ha : (s.atStep b).appendEntry t true (s.source 1 b.val) (witnessKind f) ((s.seen b).witnessPayload f) = (code, pair, u)) :
    exec (.wit b f) s = .next ((u.witnessReply b t f (s.bench b).seq.position code pair).stepTaken b) := by
  have howner : (s.atStep b).owner b = some t := ht
  have hreply : (s.atStep b).stepWit b f (s.bench b).seq.position =
      let a := (s.atStep b).appendEntry t true (s.source 1 b.val) (witnessKind f) (((s.atStep b).bench b).witnessPayload f)
      a.2.2.witnessReply b t f (s.bench b).seq.position a.1 a.2.1 := by
    rw [State.stepWit, howner]
    rfl
  rw [State.atStep_bench_self, ha] at hreply
  exact (next_issue hi hp).trans (congrArg (fun u => Host.Outcome.next (State.stepTaken u b)) hreply)

theorem Bench.pushAll_coefs (x : Bench) (r : Nat) (ws : List PipeTarget) : (x.pushAll r ws).coefs = x.coefs := by rw [Bench.pushAll_eq]

theorem PipeTarget.apply_coefs (t : PipeTarget) (x : Bench) : (t.apply x).coefs = x.coefs := by cases t <;> rfl

theorem Bench.settle_coefs (x : Bench) (r : Nat) : (x.settle r).coefs = x.coefs := by
  have happly (ws : List PipeWrite) (y : Bench) : (y.applyAll ws).coefs = y.coefs := by
    induction ws generalizing y with
    | nil => rfl
    | cons w rest ih => exact (ih _).trans (w.target.apply_coefs y)
  rw [Bench.settle_eq]
  exact happly _ _

/-- A change of a bench that leaves its coefficients leaves those of every bench. -/
theorem State.modBench_bench_coefs (s : State) (b : BenchId) {g : Bench → Bench} (h : ∀ x, (g x).coefs = x.coefs) (c : BenchId) :
    ((s.modBench b g).bench c).coefs = (s.bench c).coefs := by
  by_cases e : c = b
  · subst e
    rw [State.modBench_bench_self, h]
  · rw [State.modBench_bench_of_ne s g e]

theorem State.atStep_bench_coefs (s : State) (b c : BenchId) : ((s.atStep b).bench c).coefs = (s.bench c).coefs :=
  s.modBench_bench_coefs b (fun x => x.settle_coefs _) c

theorem State.atStep_checkCommit (s : State) (b : BenchId) (t : TenantId) (mask : Byte) (crcs : Option (List Word)) :
    (s.atStep b).checkCommit t mask crcs = s.checkCommit t mask crcs := by
  have habsent : (s.atStep b).commitAbsent = s.commitAbsent := by
    funext c
    rw [State.commitAbsent, State.commitAbsent, State.atStep_bench_state]
  have hreloads : (s.atStep b).reloads t = s.reloads t := rfl
  simp only [State.checkCommit, habsent, hreloads, State.atStep_bench_coefs]

/-- The outcome of a COMMIT step of an owned bench: the request, an event where it is refused, and the reply (R230). -/
theorem next_commitStep {s : State} {b : BenchId} {t : TenantId} {f : StepFields} (hi : s.issues b 0x38 f = true)
    (hp : (s.seen b).performs f = true) (ht : s.owner b = some t) :
    exec (.commitStep b f) s = .next
      (((if s.checkCommit t (f.ext.setWidth 8) none = 0 then (s.atStep b).pendCommits s.clock.frame (maskBenches (f.ext.setWidth 8))
        else (s.atStep b).raise t 6).replyCode b f (s.bench b).seq.position (s.checkCommit t (f.ext.setWidth 8) none)).stepTaken b) := by
  have howner : (s.atStep b).owner b = some t := ht
  have hclock : (s.atStep b).clock = s.clock := rfl
  refine (next_issue hi hp).trans (congrArg Host.Outcome.next ?_)
  rw [State.stepCommit, howner]
  simp only [State.requestCommit_eq, State.atStep_checkCommit, hclock]
  split_ifs <;> rfl

theorem mem_maskBenches (m : Byte) (c : BenchId) : c ∈ maskBenches m ↔ m.getLsbD c.val = true := by simp [maskBenches]

/-- The write of a step stands among those on their way. -/
theorem Bench.mem_pushAll {x : Bench} {w : PipeWrite} {r : Nat} {ws : List PipeTarget}
    (h : w ∈ x.pipe ∨ (w.pos = r ∧ w.target ∈ ws)) : w ∈ (x.pushAll r ws).pipe := by
  have hinsert (v : PipeWrite) (l : List PipeWrite) : w ∈ pipeInsert v l ↔ w = v ∨ w ∈ l := by
    induction l with
    | nil => simp [pipeInsert]
    | cons y rest ih =>
      rw [pipeInsert]
      split_ifs
      · rw [List.mem_cons]
      · rw [List.mem_cons, ih, List.mem_cons, or_left_comm]
  unfold Bench.pushAll
  induction ws generalizing x with
  | nil => simpa using h
  | cons v rest ih =>
    refine ih ?_
    obtain hold | ⟨hpos, hmem⟩ := h
    · exact .inl ((hinsert _ _).mpr (.inr hold))
    · obtain heq | hrest := List.mem_cons.mp hmem
      · exact .inl ((hinsert _ _).mpr (.inl (by cases w; simp_all)))
      · exact .inr ⟨hpos, hrest⟩

/-- Settles O32: RWR by its three conditions, WIT by the answer of the log, COMMIT by its check (R229 to R231). -/
theorem remoteWitnessCommitSteps : Obligations.RemoteWitnessCommitSteps := by
  refine ⟨?rwr, ?entries⟩
  case rwr =>
    intro b f s hp hi
    refine ⟨fun ⟨hlt, hlock, hw⟩ => ?queued, fun hno => ?busy⟩
    case queued =>
      have hwedged : (s.atStep b).isWedged 2 = false := hw
      have hlocked : (s.atStep b).ring.locked = true := hlock
      have hstep : ((s.atStep b).stepRwr b f (s.bench b).seq.position).stepTaken b =
          (s.queueRemote b ((s.seen b).remoteOf f)).took b (fun x =>
            (({ x with remotes := x.remotes + 1, remoteSeq := x.remoteSeq + 1 } : Bench).push (s.bench b).seq.position .remote).pushAll
              ((s.bench b).seq.position + 13) (.reg f.rd 0 :: flagWrite f true)) := by
        rw [State.stepRwr_eq, State.atStep_bench_self, if_neg (by simp [hwedged, hlocked]; omega), ← State.atStep_modBench_stepTaken,
          State.replyCode, State.reply, State.pushStep, State.modBench_modBench]
        rfl
      refine ⟨_, (next_issue hi hp).trans (congrArg Host.Outcome.next hstep), ?_, rfl, fun c hc => ?_, ?_⟩
      · rw [State.took, State.modBench_ring, State.queueRemote, Bench.remoteOf, State.seen_seq]
        rfl
      · exact State.modBench_bench_of_ne _ _ hc
      · rw [State.took, State.modBench_bench_self]
        rw [Bench.pushAll_eq]
        exact ⟨rfl, rfl, rfl, Bench.mem_pushAll (.inr ⟨rfl, List.mem_cons_self ..⟩)⟩
    case busy =>
      have hbusy : 16 ≤ (s.seen b).remotes ∨ (s.atStep b).ring.locked = false ∨ (s.atStep b).isWedged 2 = true := by
        change 16 ≤ (s.seen b).remotes ∨ s.ring.locked = false ∨ s.isWedged 2 = true
        simp only [not_and_or, not_lt, Bool.not_eq_true, Bool.not_eq_false] at hno
        exact hno
      refine (next_issue hi hp).trans (congrArg Host.Outcome.next ?_)
      rw [State.stepRwr_eq, State.atStep_bench_self, if_pos hbusy]
      exact s.atStep_reply_stepTaken b f 3 false
  case entries =>
    intro b t f s hp ht
    refine ⟨?accepted, fun hi hlive hused => ?budget, fun hi hbusy => ?busy, fun hi hc => ?commit, fun hi k hk h0 => ?refused⟩
    case accepted =>
      rintro p (rfl : p = (s.seen b).witnessPayload f) hi a (ha : a = s.appendEntry t true (s.source 1 b.val) (witnessKind f) _) h0
      have hsees := s.appendEntry_modBench b (fun x => x.settle (s.bench b).seq.position) t true (s.source 1 b.val) (witnessKind f)
        ((s.seen b).witnessPayload f)
      rw [← ha, h0] at hsees
      rw [next_wit hi hp ht hsees, State.witnessReply, if_pos rfl, if_pos rfl, State.raise_reply, State.raise_stepTaken, decide_eq_true rfl]
      have hreply := congrArg (·.2.2) (s.appendEntry_modBench b (fun x => ((x.settle x.seq.position).pushAll ((s.bench b).seq.position + 13)
        (.reg f.rd (a.2.1.seq <<< 8) :: flagWrite f true)).issueTaken) t true (s.source 1 b.val) (witnessKind f) ((s.seen b).witnessPayload f))
      refine congrArg (fun u => (Host.Outcome.next (State.raise u t 26) : Out)) (Eq.trans ?_ hreply.symm)
      rw [← ha, State.reply, State.pushStep, State.stepTaken, State.modBench_modBench, State.modBench_modBench]
      dsimp only
      refine State.modBench_congr ?_
      rw [ha, State.appendEntry_bench]
    case budget =>
      have ha := (s.atStep b).appendEntry_overBudget (t := t) hlive hused true (s.source 1 b.val) (witnessKind f) ((s.seen b).witnessPayload f)
      rw [next_wit hi hp ht ha, State.witnessReply, if_neg (by decide), if_pos rfl, State.raise_reply, State.raise_stepTaken,
        if_neg (by decide), decide_eq_false (by decide)]
      simp only [← satInc16_eq]
      exact congrArg (fun u => (Host.Outcome.next (State.raise u t 28) : Out)) (State.atStep_reply_stepTaken (s.countRefusal t true) b f 0x1c false)
    case busy =>
      have ha := (s.atStep b).appendEntry_busy (t := t) hbusy true (s.source 1 b.val) (witnessKind f) ((s.seen b).witnessPayload f)
      rw [next_wit hi hp ht ha]
      exact congrArg Host.Outcome.next (s.atStep_reply_stepTaken b f 3 false)
    case commit =>
      refine ⟨_, next_commitStep hi hp ht, ?_, fun c => ?_⟩
      · rw [if_pos hc, State.pendCommits_eq]
        rfl
      · rw [if_pos hc, State.stepTaken, State.modBench_bench_coefs, State.replyCode, State.reply, State.pushStep, State.modBench_bench_coefs,
          State.pendCommits_bench]
        · simp only [mem_maskBenches]
          split_ifs
          · rw [Bench.pendCommit, State.atStep_bench_coefs]
          · rw [State.atStep_bench_coefs]
        · exact fun x => x.pushAll_coefs _ _
        · exact fun x => rfl
    case refused =>
      subst hk
      rw [next_commitStep hi hp ht, if_neg h0, State.replyCode_refused _ _ _ _ h0, State.raise_reply, State.raise_stepTaken,
        State.atStep_reply_stepTaken]
end Sys2Proof.Machine
end

section
/-! SUPPORT. The block's step, the reset state, and the test access port (spec/19_package_pins.md). -/
namespace Sys2Proof.Machine

/-- Settles O1: a step takes the queue's front apart from its rest, and idles on an empty queue. -/
theorem stepRunsFront : Obligations.StepRunsFront := by
  refine ⟨fun c s => rfl, fun s h => ?_⟩
  rw [step, h]

/-! ### The reset state -/

@[simp] theorem State.reset_bench (b : BenchId) : State.reset.bench b = Bench.init := by
  rw [State.bench]
  exact Vector.getElem_replicate _

@[simp] theorem State.reset_tenant (t : TenantId) : State.reset.tenant t = Tenant.init := by
  rw [State.tenant]
  exact Vector.getElem_replicate _

/-- Settles O4: the reset state's parts are read off one by one. -/
theorem resetState : Obligations.ResetState := by
  refine ⟨rfl, rfl, rfl, rfl, rfl, fun b => ?benches, fun a => rfl, fun t => ?tenants, rfl, fun c => ?cells, rfl, rfl, rfl, ?wf⟩
  case benches => rw [State.reset_bench]; exact ⟨rfl, rfl⟩
  case tenants =>
    rw [State.reset_tenant]
    refine ⟨rfl, rfl, fun i => ?_⟩
    rw [vget, dif_pos i.isLt]
    exact congrArg HostTag.state (Vector.getElem_replicate _)
  case cells => exact congrArg CellBuffer.absent (Vector.getElem_replicate _)
  case wf =>
    refine ⟨rfl, fun b => ?_, fun t => ?_⟩
    · rw [State.reset_bench]; exact ⟨rfl, rfl, rfl⟩
    · rw [State.reset_tenant]; exact Nat.le_refl 8

/-! ### The test access port -/

/-- An instruction loaded, on a part in POR or not: one of those that hold the part makes the 1.0 ms count anew. -/
theorem State.loadIr_eq (s : State) (code : BitVec 5) : s.loadIr code = { s with tap := { s.tap with
    ir := code, irCapture := s.irCapture,
    blocked := s.tap.blocked || decide (s.power.state = .por) && (decide (code = 0) || decide (code = 4) || decide (code = 5)) } } := rfl

/-- The latch of the debug register that a selector names. -/
theorem State.debugData_latch (s : State) (b : BenchId) (i : Fin 32) : s.debugData b (64 + i.val) = (s.bench b).debug[i] := by
  rw [State.debugData, if_neg (by omega), if_pos (by omega), Nat.add_sub_cancel_left, vget, dif_pos i.isLt]
  rfl

/-- Settles O57: each command loads its instruction and scans the data register that the instruction selects (R469 to R472). -/
theorem tapCommands : Obligations.TapCommands := by
  rintro s n hn
  obtain rfl : n = s.irCapture := hn
  have hquiet (code : BitVec 5) (h : (decide (code = 0) || decide (code = 4) || decide (code = 5)) = false) :
      s.loadIr code = { s with tap := { s.tap with ir := code, irCapture := s.irCapture } } := by
    rw [State.loadIr_eq, h, Bool.and_false, Bool.or_false]
  have hholds (code : BitVec 5) (h : (decide (code = 0) || decide (code = 4) || decide (code = 5)) = true) :
      s.loadIr code = { s with tap := { s.tap with
        ir := code, irCapture := s.irCapture, blocked := s.tap.blocked || decide (s.power.state = .por) } } := by
    rw [State.loadIr_eq, h, Bool.and_true]
  refine ⟨fun _ => rfl, ?idcode, fun shift pins => ?sample, fun shift pins => ?extest, fun tdi => ?clamp, fun tdi => ?highz,
    fun code tdi h0 h1 h2 h4 h5 h8 => ?bypass, fun shift hd => ?closed, fun shift hd => ?debug⟩
  case idcode => rw [show exec .idcode s = execIdcode s from rfl, execIdcode, hquiet 2 rfl]; rfl
  case sample => rw [show exec (.samplePreload shift pins) s = execSamplePreload shift pins s from rfl, execSamplePreload, hquiet 1 rfl]; rfl
  case extest =>
    rw [show exec (.extest shift pins) s = execExtest shift pins s from rfl, execExtest, hholds 0 rfl]
    by_cases hpor : s.power.state = .por
    · rw [if_pos hpor, decide_eq_true hpor, Bool.or_true]
      refine congrArg Host.Outcome.next ((if_pos ?_).trans rfl)
      exact if_pos hpor
    · rw [if_neg hpor, decide_eq_false hpor, Bool.or_false]
      refine congrArg Host.Outcome.next ((if_neg fun h => ?_).trans rfl)
      exact absurd ((if_neg hpor).symm.trans h) (by decide)
  case clamp => rw [show exec (.tapClamp tdi) s = execTapClamp tdi s from rfl, execTapClamp, hholds 4 rfl]; rfl
  case highz => rw [show exec (.highz tdi) s = execHighz tdi s from rfl, execHighz, hholds 5 rfl]; rfl
  case bypass =>
    have hlisted : bypassCode code = true := by simpa [bypassCode] using ⟨h0, h1, h2, h4, h5, h8⟩
    rw [show exec (.bypass code tdi) s = execBypass code tdi s from rfl, execBypass, ifWf,
        if_pos hlisted, hquiet code (by simpa using ⟨⟨h0, h4⟩, h5⟩)]
    rfl
  case closed =>
    rw [show exec (.benchDbg shift) s = execBenchDbg shift s from rfl, execBenchDbg, hquiet 8 rfl]
    refine congrArg Host.Outcome.next ((if_neg fun h => ?_).trans rfl)
    have hreg : (if s.straps.devel then DataRegister.debug else .bypass) = .debug := h
    rw [hd] at hreg
    exact absurd hreg (by decide)
  case debug =>
    rw [show exec (.benchDbg shift) s = execBenchDbg shift s from rfl, execBenchDbg, hquiet 8 rfl]
    refine ⟨_, congrArg Host.Outcome.next ((if_pos ?_).trans rfl), fun b k hb hk => ⟨fun i hi => ?_, fun h => ?_, fun h => ?_⟩⟩
    · exact if_pos hd
    all_goals
      rw [hb, hk, show Fin.ofNat 8 b.val = b from Fin.ext (Nat.mod_eq_of_lt b.isLt)]
    · rw [hi]; exact s.debugData_latch b i
    · exact if_pos h
    · exact (if_neg (by omega)).trans (if_neg (by omega))

end Sys2Proof.Machine
end

section
/-! SUPPORT. Power-on reset, full resets, supplies and FAULT_N (R42 to R58 of spec/03_power_reset_release.md). -/
namespace Sys2Proof.Machine

/-! ### Pin levels (R26) -/

theorem pinLevel_low_iff {vdd mv : Nat} : pinLevel vdd mv = .low ↔ 10 * mv ≤ 3 * vdd := by
  unfold pinLevel
  split_ifs with hlow hhigh
  · exact iff_of_true rfl hlow
  · exact iff_of_false (by decide) hlow
  · exact iff_of_false (by decide) hlow

theorem pinLevel_high_iff {vdd mv : Nat} : pinLevel vdd mv = .high ↔ 7 * vdd ≤ 10 * mv ∧ 3 * vdd < 10 * mv := by
  unfold pinLevel
  split_ifs with hlow hhigh
  · exact iff_of_false (by decide) (by omega)
  · exact iff_of_true rfl (by omega)
  · exact iff_of_false (by decide) (by omega)

/-! ### The end of POR -/

/-- What the end of POR makes of a tenant, by the voltage at its TRST_N_x. -/
theorem Tenant.atPorExit_eq (x : Tenant) (vdd : Nat) (v : Option Nat) : x.atPorExit (inputLevel vdd v) =
    if 7 * vdd ≤ 10 * v.getD 0 ∧ 3 * vdd < 10 * v.getD 0 then x
    else { x with held := true, trstLow := decide (10 * v.getD 0 ≤ 3 * vdd), lowFrame := 0, holdDue := some 0 } := by
  unfold Tenant.atPorExit inputLevel
  simp only [pinLevel_high_iff, pinLevel_low_iff]

/-- Settles O5: the conditions of the end of POR are those of the statement, VDD_IO_A being above 0 where its threshold is passed. -/
theorem porExitStartsStrap : Obligations.PorExitStartsStrap := by
  intro mv reset us tapUs trst s hpor
  have hup : (List.range 7).all (fun i => decide (risingMv i < vget mv i 0)) = true ↔ ∀ i, i < 7 → risingMv i < vget mv i 0 := by simp
  refine ⟨fun hmv hreset hus hholds htap => ?begins, fun hshort => ?stays⟩
  case begins =>
    have hvdd : 1600 < vget mv 2 0 := hmv 2 (by decide)
    have hhigh : inputLevel (vget mv 2 0) reset = .high := pinLevel_high_iff.mpr (by omega)
    have hblocked : s.tap.blocked = false ∨ 1000 ≤ tapUs := (Bool.eq_false_or_eq_true s.tap.blocked).symm.imp_right htap
    have hexit : exec (.porExit mv reset us tapUs trst) s = .next (s.porExit mv reset us tapUs trst) := rfl
    rw [hexit, State.porExit, if_pos ⟨hpor, hup.mpr hmv, hhigh, hus, hholds, hblocked⟩]
    simp only [Tenant.atPorExit_eq]
  case stays =>
    refine congrArg Host.Outcome.next (if_neg ?_)
    rintro ⟨-, hall, hhigh, hus, hholds, hblocked⟩
    have hlevel := pinLevel_high_iff.mp hhigh
    obtain ⟨i, hi, hmv⟩ | hlow | hshort | hheld | ⟨htap, hcount⟩ := hshort
    · exact absurd (hup.mp hall i hi) (by omega)
    · omega
    · omega
    · exact absurd hheld (by simp [hholds])
    · obtain hfree | hlong := hblocked
      · exact absurd htap (by simp [hfree])
      · omega

/-! ### Full resets -/

/-- A commit that is not cut leaves the NV memory. -/
theorem State.cutCommit_none (s : State) : s.cutCommit .none = s.wb.nv := by
  unfold State.cutCommit
  split
  · rfl
  · split_ifs <;> rfl

/-- Settles O6: each of the two pulses resets the part exactly where it is recognised (R43, R54, R58). -/
theorem fullResets : Obligations.FullResets := by
  refine ⟨⟨fun i mv ns cut s hi hmv hns => ?supply, fun p ns cut s hp hns => ?pin⟩, fun p ns cut s h => ?noPin, fun i mv ns cut s h => ?noSupply⟩
  case supply =>
    refine ⟨s.fullReset true false cut, congrArg Host.Outcome.next (if_pos ⟨hi, hmv, hns⟩), rfl, rfl, ?_⟩
    rintro rfl
    exact s.cutCommit_none
  case pin =>
    have hsure : s.recognise ns 500 2000 = (true, s) := if_pos hns
    refine ⟨s.fullReset false true cut, ?_, ?_, rfl, ?_⟩
    · refine congrArg Host.Outcome.next ?_
      rw [State.resetNLow, if_neg hp, hsure]
      rfl
    · rw [State.fullReset, Bool.false_or, Bool.true_or, if_neg (by decide)]
      rfl
    · rintro rfl
      exact s.cutCommit_none
  case noPin =>
    refine congrArg Host.Outcome.next ?_
    by_cases hhigh : p.level = .high
    · exact if_pos hhigh
    · have hns : ns < 500 := h.resolve_left hhigh
      have hnever : s.recognise ns 500 2000 = (false, s) := (if_neg (by omega)).trans (if_pos hns)
      rw [State.resetNLow, if_neg hhigh, hnever]
      rfl
  case noSupply => exact congrArg Host.Outcome.next (if_neg (by omega))

/-! ### Supplies and FAULT_N -/

/-- Settles O7: the supply events by their conditions, and the pattern of each state edge by edge (R35, R44, R46, R51, Table PWR-3). -/
theorem supplyAndFaultPin : Obligations.SupplyAndFaultPin := by
  refine ⟨⟨fun i mv ns s hns hwarns hpor hstrap => ?warning, fun mv s h => ?vexc, fun mv ms s hmv hms => ?reconnect, fun s p hp => ?edge⟩,
    fun i k hk => ?burst, fun s f l hs hf => ?strap, fun s hs => ?clock, fun s hs => ?thermal, fun s hs => ?unit, fun k low high => ?blink⟩
  case warning => exact congrArg Host.Outcome.next (if_pos ⟨hns, hwarns, hpor, hstrap⟩)
  case vexc => exact congrArg Host.Outcome.next (if_pos h)
  case reconnect => exact congrArg Host.Outcome.next (if_pos ⟨hmv, hms⟩)
  case edge =>
    refine congrArg Host.Outcome.next ?_
    rw [State.faultNPattern, hp]
  case burst =>
    have hmod (n : Nat) (hn : n < 2 * (i + 1)) : (FaultPattern.burst i).edgeMs n = n * 50 ∧
        (FaultPattern.burst i).edgeMs (2 * (i + 1) + n) = 2000 + n * 50 := by
      rw [FaultPattern.edgeMs, FaultPattern.edgeMs, Nat.div_eq_of_lt hn, Nat.mod_eq_of_lt hn, Nat.add_div_left _ (by omega),
        Nat.add_mod_left, Nat.div_eq_of_lt hn, Nat.mod_eq_of_lt hn]
      omega
    obtain ⟨heven, hnext⟩ := hmod (2 * k) (by omega)
    obtain ⟨hodd, -⟩ := hmod (2 * k + 1) (by omega)
    omega
  case strap => rw [State.faultPattern, hs, hf]; rfl
  case clock => rw [State.faultPattern, hs]
  case thermal => rw [State.faultPattern, hs]
  case unit =>
    simp only [State.running, Bool.or_eq_true, decide_eq_true_eq] at hs
    obtain hs | hs := hs <;> rw [State.faultPattern, hs]
  case blink =>
    have heven : 2 * k / 2 = k := by omega
    have hodd : (2 * k + 1) / 2 = k := by omega
    rw [FaultPattern.edgeMs, FaultPattern.edgeMs, heven, hodd, Nat.mul_mod_right, Nat.mul_add_mod, Nat.zero_mul, Nat.one_mul]
    exact ⟨rfl, rfl⟩

end Sys2Proof.Machine
end

section
/-! SUPPORT. The STRAP phase (R18 to R33 of spec/02_straps_and_codes.md): what each reading makes of its pin. -/
namespace Sys2Proof.Machine

/-! ### Readings of a coded pin -/

theorem pinConv_eq (r : StrapReadings) (p : Fin 8) : pinConv r p.val = r.volts[p].map (min 12000) := by
  rw [pinConv, vget, dif_pos p.isLt]
  rfl

theorem nearestCode_le (m : Nat) : nearestCode m ≤ 15 := Nat.min_le_left ..

/-- A guard band lies more than 22.5 mV off the nearest centre (Table STR-2). -/
theorem inGuard_eq_offCentre (m : Nat) : inGuard m = offCentre m := by
  have hle := nearestCode_le m
  rw [Bool.eq_iff_iff]
  simp only [inGuard, offCentre, Bool.or_eq_true, Bool.and_eq_true, decide_eq_true_eq]
  omega

theorem reservedCode_iff (p : Fin 8) (k : Nat) : reservedCode p.val k = true ↔ p = 0 ∧ k = 14 ∨ p = 2 ∧ 8 ≤ k ∧ k ≤ 14 := by
  simp only [reservedCode, Bool.or_eq_true, Bool.and_eq_true, decide_eq_true_eq, Fin.ext_iff, and_assoc]
  exact Iff.rfl

/-- A coded pin decodes exactly where it has no reason to fault by itself (R22, R31). -/
theorem codedReason_eq_zero_iff (r : StrapReadings) (p : Fin 8) : codedReason p.val (pinConv r p.val) = 0 ↔ r.decodes p = true := by
  rw [pinConv_eq, codedReason, inGuard_eq_offCentre, StrapReadings.decodes]
  simp only [reservedCode_iff, Bool.and_eq_true, Bool.not_eq_true', decide_eq_false_iff_not]
  split_ifs <;> simp_all

/-! ### Samples of a binary strap -/

theorem levelCount_pos_iff (vdd : Nat) (v : Vector Nat 16) (l : PinLevel) :
    0 < levelCount (strapSamples vdd v) l ↔ ∃ i : Fin 16, pinLevel vdd v[i] = l := by
  rw [levelCount, List.length_pos_iff_exists_mem]
  simp only [List.mem_filter, decide_eq_true_eq, Vector.mem_toList_iff, exists_eq_right, strapSamples, Vector.mem_map]
  constructor
  · rintro ⟨a, ha, rfl⟩
    obtain ⟨i, hi, rfl⟩ := Vector.mem_iff_getElem.mp ha
    exact ⟨⟨i, hi⟩, rfl⟩
  · rintro ⟨i, hi⟩
    exact ⟨v[i], Vector.getElem_mem i.isLt, hi⟩

theorem levelCount_full_iff (vdd : Nat) (v : Vector Nat 16) (l : PinLevel) :
    levelCount (strapSamples vdd v) l = 16 ↔ ∀ i : Fin 16, pinLevel vdd v[i] = l := by
  have hlen : (strapSamples vdd v).toList.length = 16 := Vector.length_toList
  have hfilter := List.length_filter_eq_length_iff (p := fun x => decide (x = l)) (l := (strapSamples vdd v).toList)
  rw [hlen] at hfilter
  refine hfilter.trans ?_
  simp only [decide_eq_true_eq, Vector.mem_toList_iff, strapSamples, Vector.mem_map]
  constructor
  · exact fun h i => h _ ⟨v[i], Vector.getElem_mem i.isLt, rfl⟩
  · rintro h _ ⟨a, ha, rfl⟩
    obtain ⟨i, hi, rfl⟩ := Vector.mem_iff_getElem.mp ha
    exact h ⟨i, hi⟩

/-- A binary strap whose samples all lie at one level does not fault (R26). -/
theorem binaryReason_of_allAt {vdd : Nat} {v : Vector Nat 16} (h : allAt vdd v = true) : binaryReason (strapSamples vdd v) = 0 := by
  have hone (a b : PinLevel) (hab : a ≠ b) (ha : ∀ i : Fin 16, pinLevel vdd v[i] = a) : ¬0 < levelCount (strapSamples vdd v) b := by
    rw [levelCount_pos_iff]
    rintro ⟨i, hi⟩
    exact hab ((ha i).symm.trans hi)
  simp only [allAt, Bool.or_eq_true, decide_eq_true_eq] at h
  obtain h | h := h
  · rw [binaryReason, if_neg fun hb => hone .high .low (by decide) h hb.2, if_neg (hone .high .band (by decide) h)]
  · rw [binaryReason, if_neg fun hb => hone .low .high (by decide) h hb.1, if_neg (hone .low .band (by decide) h)]

/-! ### The faults of the readings -/

/-- The fault of a coded pin: a reason of its own, or a failed check that blames it where all coded pins decode. -/
def State.codedFault (s : State) (r : StrapReadings) (p : Nat) : Option StrapFault :=
  if codedReason p (pinConv r p) ≠ 0 then some { pin := p, reason := codedReason p (pinConv r p), check := 0 }
  else if (∀ q : Fin 8, r.decodes q = true) ∧ s.failedCheck p ≠ 0 then some { pin := p, reason := 5, check := s.failedCheck p }
  else none

/-- The fault of a binary strap. -/
def binaryFault (p : Nat) (v : Vector PinLevel 16) : List StrapFault :=
  if binaryReason v = 0 then [] else [{ pin := p, reason := binaryReason v, check := 0 }]

theorem State.strapFaults_eq (s : State) (r : StrapReadings) : s.strapFaults r =
    (List.range 8).filterMap (s.codedFault r) ++ binaryFault 8 (strapSamples r.vddIo r.devel) ++
      binaryFault 9 (strapSamples r.vddIo r.provN) := by
  have hall : ((List.range 8).map (fun p => codedReason p (pinConv r p))).all (· == 0) = true ↔ ∀ q : Fin 8, r.decodes q = true := by
    simp only [List.all_eq_true, List.mem_map, List.mem_range, beq_iff_eq, forall_exists_index, and_imp, forall_apply_eq_imp_iff₂,
      ← codedReason_eq_zero_iff, Fin.forall_iff]
  have hcoded : (List.range 8).filterMap (s.codedFault r) = (List.range 8).filterMap (fun p =>
      let reason := ((List.range 8).map (fun p => codedReason p (pinConv r p))).getD p 0
      let check := s.failedCheck p
      if reason ≠ 0 then some { pin := p, reason := reason, check := 0 }
      else if ((List.range 8).map (fun p => codedReason p (pinConv r p))).all (· == 0) = true ∧ check ≠ 0 then
        some { pin := p, reason := 5, check := check }
      else none) := by
    refine List.filterMap_congr fun p hp => ?_
    have hreason : ((List.range 8).map (fun p => codedReason p (pinConv r p))).getD p 0 = codedReason p (pinConv r p) := by
      rw [List.getD_eq_getElem _ _ (by simpa using hp), List.getElem_map, List.getElem_range]
    simp only [State.codedFault, hreason, hall]
  rw [hcoded]
  rfl

theorem State.codedFault_pin {s : State} {r : StrapReadings} {p : Nat} {x : StrapFault} (h : s.codedFault r p = some x) : x.pin = p := by
  unfold State.codedFault at h
  split_ifs at h <;> cases h <;> rfl

theorem State.mem_strapFaults_of_coded {s : State} {r : StrapReadings} {p : Fin 8} {x : StrapFault} (h : s.codedFault r p.val = some x) :
    x ∈ s.strapFaults r := by
  rw [State.strapFaults_eq]
  exact List.mem_append_left _ (List.mem_append_left _ (List.mem_filterMap.mpr ⟨p.val, List.mem_range.mpr p.isLt, h⟩))

/-- A pin with a reason of its own faults with it. -/
theorem State.mem_strapFaults_of_reason {s : State} {r : StrapReadings} {p : Fin 8} {n : Nat} (h0 : n ≠ 0)
    (h : codedReason p.val (pinConv r p.val) = n) : ⟨p.val, n, 0⟩ ∈ s.strapFaults r :=
  State.mem_strapFaults_of_coded (p := p) (by rw [State.codedFault, h, if_pos h0])

/-- Where all coded pins decode a failed check blames its pin. -/
theorem State.mem_strapFaults_of_check {s : State} {r : StrapReadings} (hr : ∀ p, r.decodes p = true) {p : Fin 8} {n : Nat} (h0 : n ≠ 0)
    (h : s.failedCheck p.val = n) : ⟨p.val, 5, n⟩ ∈ s.strapFaults r :=
  State.mem_strapFaults_of_coded (p := p) (by
    rw [State.codedFault, (codedReason_eq_zero_iff r p).mpr (hr p), if_neg (by decide), h, if_pos ⟨hr, h0⟩])

/-- Nothing faults where all coded pins decode, no check fails and both binary straps lie at one level. -/
theorem State.strapFaults_eq_nil {s : State} {r : StrapReadings} (hr : ∀ p, r.decodes p = true) (hcheck : ∀ p : Fin 8, s.failedCheck p.val = 0)
    (hdevel : allAt r.vddIo r.devel = true) (hprovN : allAt r.vddIo r.provN = true) : s.strapFaults r = [] := by
  have hcoded : (List.range 8).filterMap (s.codedFault r) = [] := by
    refine List.filterMap_eq_nil_iff.mpr fun p hp => ?_
    have hlt : p < 8 := List.mem_range.mp hp
    rw [State.codedFault, (codedReason_eq_zero_iff r ⟨p, hlt⟩).mpr (hr _), if_neg (by decide), if_neg fun h => h.2 (hcheck ⟨p, hlt⟩)]
  rw [State.strapFaults_eq, hcoded, binaryFault, binaryFault, if_pos (binaryReason_of_allAt hdevel), if_pos (binaryReason_of_allAt hprovN)]
  rfl

theorem State.strapFaults_ascending (s : State) (r : StrapReadings) : ((s.strapFaults r).map (fun f => f.pin)).Pairwise (· < ·) := by
  have hbinary (p : Nat) (v : Vector PinLevel 16) : ∀ x ∈ binaryFault p v, x.pin = p := by
    intro x hx
    unfold binaryFault at hx
    split_ifs at hx
    · exact absurd hx List.not_mem_nil
    · rw [List.mem_singleton.mp hx]
  have hsingle (p : Nat) (v : Vector PinLevel 16) : (binaryFault p v).Pairwise (fun x y => x.pin < y.pin) := by
    unfold binaryFault
    split_ifs
    · exact .nil
    · exact List.pairwise_singleton ..
  have hcoded : ((List.range 8).filterMap (s.codedFault r)).Pairwise (fun x y => x.pin < y.pin) :=
    List.pairwise_filterMap.mpr (List.pairwise_lt_range.imp fun hlt x hx y hy => by
      rwa [State.codedFault_pin hx, State.codedFault_pin hy])
  have hlt : ∀ x ∈ (List.range 8).filterMap (s.codedFault r), x.pin < 8 := by
    intro x hx
    obtain ⟨p, hp, hfault⟩ := List.mem_filterMap.mp hx
    rw [State.codedFault_pin hfault]
    exact List.mem_range.mp hp
  rw [State.strapFaults_eq, List.pairwise_map, List.pairwise_append, List.pairwise_append]
  refine ⟨⟨hcoded, hsingle 8 _, fun x hx y hy => ?_⟩, hsingle 9 _, fun x hx y hy => ?_⟩
  · rw [hbinary 8 _ y hy]
    exact hlt x hx
  · rw [hbinary 9 _ y hy]
    obtain hx | hx := List.mem_append.mp hx
    · exact (hlt x hx).trans (by decide)
    · rw [hbinary 8 _ x hx]; decide

/-- A binary strap faults with its reason. -/
theorem State.mem_strapFaults_of_binary {s : State} {r : StrapReadings} {p n : Nat} {v : Vector Nat 16}
    (hp : p = 8 ∧ v = r.devel ∨ p = 9 ∧ v = r.provN)
    (h0 : n ≠ 0) (h : binaryReason (strapSamples r.vddIo v) = n) : ⟨p, n, 0⟩ ∈ s.strapFaults r := by
  rw [State.strapFaults_eq]
  obtain ⟨rfl, rfl⟩ | ⟨rfl, rfl⟩ := hp
  · refine List.mem_append_left _ (List.mem_append_right _ ?_)
    rw [binaryFault, h, if_neg h0]
    exact List.mem_singleton_self _
  · refine List.mem_append_right _ ?_
    rw [binaryFault, h, if_neg h0]
    exact List.mem_singleton_self _

end Sys2Proof.Machine
end

section
/-! SUPPORT. The end of the STRAP phase, of TRUST, and the temperature readings (R20 to R71). -/
namespace Sys2Proof.Machine

/-! ### The end of the STRAP phase -/

/-- The codes of CODE_G whose arrangement makes SAP_0 a follower that receives its word clock (Table SAP-1). -/
theorem sap0Follows_iff (g : BitVec 4) : sap0Follows g.toNat = true ↔ ∃ h ∈ [1#4, 6#4, 7#4, 8#4, 11#4, 13#4], g = h := by decide +revert

theorem State.not_isStandalone_of_isMaster {s : State} (h : s.isMaster = true) : s.isStandalone = false := by
  simp only [State.isMaster, State.isStandalone, Bool.and_eq_true, decide_eq_true_eq, Bool.or_eq_false_iff, decide_eq_false_iff_not] at *
  constructor <;> intro e <;> rw [e] at h <;> simp at h

/-- The checks of Table STR-8 that blame pin 1. -/
theorem State.failedCheck_source (s : State) :
    (s.refSource = 2 → s.isStandalone = true → s.failedCheck 1 = 1) ∧ (s.refSource = 2 → s.isMaster = true → s.failedCheck 1 = 2) ∧
    (s.refSource ≠ 2 → s.isMember = true → s.failedCheck 1 = 3) := by
  refine ⟨fun href hsolo => ?_, fun href hmaster => ?_, fun href hmember => ?_⟩
  · rw [State.failedCheck, if_pos rfl, if_pos ⟨href, hsolo⟩]
  · rw [State.failedCheck, if_pos rfl, if_neg (by simp [State.not_isStandalone_of_isMaster hmaster]), if_pos ⟨href, hmaster⟩]
  · rw [State.failedCheck, if_pos rfl, if_neg fun h => href h.1, if_neg fun h => href h.1, if_pos ⟨hmember, href⟩]

/-- A part with none of the roles of the checks' conditions fails none (Table STR-8). -/
theorem State.failedCheck_eq_zero {s : State} (href : s.refSource = 2 ↔ s.isMember = true)
    (hg : s.refSource = 3 → ∃ g ∈ [1#4, 6#4, 7#4, 8#4, 11#4, 13#4], s.code 6 = g)
    (hring : s.code 2 = 0#4 ∨ 7#4 ≤ s.code 2 ∨ (s.ringId + 1) * s.cellCount ≤ 92) (p : Nat) : s.failedCheck p = 0 := by
  have hrole : s.isMember = true → s.isStandalone = false ∧ s.isMaster = false := by
    simp only [State.isMember, State.isStandalone, State.isMaster, Bool.and_eq_true, decide_eq_true_eq, Bool.or_eq_false_iff,
      decide_eq_false_iff_not, Bool.and_eq_false_iff]
    refine fun h => ⟨⟨fun e => ?_, fun e => ?_⟩, .inr (by omega)⟩ <;> rw [e] at h <;> simp at h
  have hsource : ¬(s.refSource = 2 ∧ s.isStandalone = true) ∧ ¬(s.refSource = 2 ∧ s.isMaster = true) ∧
      ¬(s.isMember = true ∧ s.refSource ≠ 2) :=
    ⟨fun ⟨h2, h⟩ => by simp [(hrole (href.mp h2)).1] at h, fun ⟨h2, h⟩ => by simp [(hrole (href.mp h2)).2] at h, fun ⟨h, h2⟩ => h2 (href.mpr h)⟩
  have hfollows : ¬(s.refSource = 3 ∧ sap0Follows (s.code 6).toNat = false) := fun ⟨h3, h⟩ => by
    simp [(sap0Follows_iff _).mpr (hg h3)] at h
  have hcells : ¬(1 ≤ (s.code 2).toNat ∧ (s.code 2).toNat ≤ 6 ∧ 92 < (s.ringId + 1) * s.cellCount) := by
    rintro ⟨hlo, hhi, hfull⟩
    obtain h | h | h := hring
    · simp [h] at hlo
    · have : 7 ≤ (s.code 2).toNat := h
      omega
    · omega
  obtain ⟨h1, h2, h3⟩ := hsource
  rw [State.failedCheck, if_neg h1, if_neg h2, if_neg h3, if_neg hfollows, if_neg hcells]
  simp only [ite_self]

/-- The state whose codes are decoded, as the checks of Table STR-8 see it. -/
def State.withCodes (s : State) (r : StrapReadings) : State :=
  { s with straps := { s.straps with codes := Vector.ofFn (fun (p : Fin 8) => BitVec.ofNat 4 (nearestCode (pinMean (pinConv r p.val)))) } }

/-- Settles O8: each fault is the one of its pin's reading, and every other word of the straps is read off the decoding (R20 to R33). -/
theorem strapsAndProvisioning : Obligations.StrapsAndProvisioning := by
  refine ⟨fun r s hs => ?strap, fun mv vdd s hpor hstrap => ⟨fun hlow => ?low, fun hhigh => ?notLow⟩⟩
  case strap =>
    obtain ⟨hcheck1, hcheck2, hcheck3⟩ := (s.withCodes r).failedCheck_source
    refine ⟨{ s.decodeStraps r with power := { s.power with state := .trust } }, congrArg Host.Outcome.next (if_pos hs), rfl, rfl,
        fun p => ?codes, rfl,
      fun p hunstable => ?unstable, fun p m hstable hm => ⟨fun hoff => ?guard, fun hon hres => ?reserved⟩,
      fun hr => ⟨fun href hsolo => ?check1, fun href hmaster => ?check2, fun href hmember => ?check3, fun href hg => ?check4,
        fun hlo hhi hfull => ?check5, fun href hg hring hdevel hprovN => ?none⟩,
      fun p v hp => ⟨fun hmixed => ?mixed, fun hband hnot => ?band⟩, State.strapFaults_ascending _ r, fun h => ?develHigh, fun h => ?develNot, ?provN⟩
    case codes =>
      refine (Vector.getElem_ofFn _).trans ?_
      rw [← pinConv_eq]
    case unstable =>
      refine State.mem_strapFaults_of_reason (by decide) ?_
      rw [codedReason, pinConv_eq, if_pos hunstable]
    case guard =>
      refine State.mem_strapFaults_of_reason (by decide) ?_
      rw [codedReason, pinConv_eq, hstable, if_neg (by decide), inGuard_eq_offCentre, ← hm, if_pos hoff]
    case reserved =>
      refine State.mem_strapFaults_of_reason (by decide) ?_
      rw [codedReason, pinConv_eq, hstable, if_neg (by decide), inGuard_eq_offCentre, ← hm, hon, if_neg (by decide),
          if_pos ((reservedCode_iff p _).mpr hres)]
    case check1 => exact State.mem_strapFaults_of_check (p := 1) hr (by decide) (hcheck1 href hsolo)
    case check2 => exact State.mem_strapFaults_of_check (p := 1) hr (by decide) (hcheck2 href hmaster)
    case check3 => exact State.mem_strapFaults_of_check (p := 1) hr (by decide) (hcheck3 href hmember)
    case check4 =>
      have hnot : sap0Follows ((s.withCodes r).code 6).toNat = false := by
        rw [Bool.eq_false_iff, ne_eq, sap0Follows_iff]
        rintro ⟨g, hmem, heq⟩
        exact hg g hmem heq
      refine State.mem_strapFaults_of_check (s := s.withCodes r) (p := 6) hr (by decide) ?_
      change (s.withCodes r).failedCheck 6 = 4
      rw [State.failedCheck, if_neg (by decide), if_pos rfl, if_pos ⟨href, hnot⟩]
    case check5 =>
      refine State.mem_strapFaults_of_check (s := s.withCodes r) (p := 4) hr (by decide) ?_
      change (s.withCodes r).failedCheck 4 = 5
      rw [State.failedCheck, if_neg (by decide), if_neg (by decide), if_pos rfl, if_pos ⟨hlo, hhi, hfull⟩]
    case none =>
      exact State.strapFaults_eq_nil (s := s.withCodes r) hr (fun p => State.failedCheck_eq_zero href hg hring p.val) hdevel hprovN
    case mixed =>
      obtain ⟨i, j, hi, hj⟩ := hmixed
      refine State.mem_strapFaults_of_binary hp (by decide) (if_pos ⟨?_, ?_⟩)
      · exact (levelCount_pos_iff _ _ _).mpr ⟨i, hi⟩
      · exact (levelCount_pos_iff _ _ _).mpr ⟨j, hj⟩
    case band =>
      refine State.mem_strapFaults_of_binary hp (by decide) ((if_neg ?_).trans (if_pos ((levelCount_pos_iff _ _ _).mpr hband)))
      rintro ⟨hhigh, hlow⟩
      obtain ⟨i, hi⟩ := (levelCount_pos_iff _ _ _).mp hhigh
      obtain ⟨j, hj⟩ := (levelCount_pos_iff _ _ _).mp hlow
      exact hnot ⟨i, j, hi, hj⟩
    case develHigh => exact decide_eq_true ((levelCount_full_iff _ _ _).mpr fun i => pinLevel_high_iff.mpr (h i))
    case develNot =>
      obtain ⟨i, hi⟩ := h
      refine decide_eq_false fun hfull => ?_
      have hlevel := pinLevel_high_iff.mp ((levelCount_full_iff _ _ _).mp hfull i)
      omega
    case provN =>
      refine decide_eq_false_iff_not.trans (not_ne_iff.trans ((levelCount_full_iff _ _ _).trans (forall_congr' fun i => pinLevel_low_iff)))
  case low => 
    refine congrArg Host.Outcome.next ((if_neg (by simp [hpor, hstrap])).trans (if_pos (pinLevel_low_iff.mpr hlow)))
  case notLow =>
    refine congrArg Host.Outcome.next ((if_neg (by simp [hpor, hstrap])).trans (if_neg fun h => ?_))
    have := pinLevel_low_iff.mp h
    omega

/-! ### The end of TRUST -/

theorem Weighbridge.take_nv (w : Weighbridge) (r : Region) : (w.take r).2.nv = w.nv ∧ (w.take r).2.opened = w.opened := by
  cases r <;> exact ⟨rfl, rfl⟩

/-- What the log's plan of an entry leaves: the NV memory and whether the log is open. -/
theorem State.takeAnchor_wb (s : State) (r : Region) : (s.takeAnchor r).2.wb.nv = s.wb.nv ∧ (s.takeAnchor r).2.wb.opened = s.wb.opened := by
  unfold State.takeAnchor
  split_ifs
  · exact s.wb.take_nv r
  · exact ⟨rfl, rfl⟩

theorem State.takeEra_wb (s : State) : s.takeEra.2.wb.nv = s.wb.nv ∧ s.takeEra.2.wb.opened = s.wb.opened := by
  obtain ⟨hnv, hopened⟩ := s.takeAnchor_wb .prot
  unfold State.takeEra
  split_ifs
  · obtain ⟨hn, ho⟩ := (s.takeAnchor .prot).2.wb.take_nv .prot
    exact ⟨hn.trans hnv, ho.trans hopened⟩
  · exact ⟨rfl, rfl⟩

theorem State.takeEntry_wb (s : State) (source kind : Byte) (payload : List Byte) :
    (s.takeEntry source kind payload).2.wb.nv = s.wb.nv ∧ (s.takeEntry source kind payload).2.wb.opened = s.wb.opened := by
  obtain ⟨hn1, ho1⟩ := s.takeEra_wb
  obtain ⟨hn2, ho2⟩ := s.takeEra.2.takeAnchor_wb (kindRegion kind)
  obtain ⟨hn3, ho3⟩ := (s.takeEra.2.takeAnchor (kindRegion kind)).2.takeEra_wb
  obtain ⟨hn4, ho4⟩ := (s.takeEra.2.takeAnchor (kindRegion kind)).2.takeEra.2.wb.take_nv (kindRegion kind)
  exact ⟨hn4.trans (hn3.trans (hn2.trans hn1)), ho4.trans (ho3.trans (ho2.trans ho1))⟩

/-- A commit of an entry counts no power cycle and leaves the log open. -/
theorem Weighbridge.commit_powerCycle (w : Weighbridge) (r : LogRecord) :
    (w.commit r).nv.powerCycle = w.nv.powerCycle ∧ (w.commit r).opened = w.opened := by
  constructor
  · cases hr : r.region <;> simp [Weighbridge.commit, Nv.powerCycle, Nv.update, CounterBlock.copy, Weighbridge.blockAfter, CounterBlock.setRegion, Nv.block, hr]
  · cases hr : r.region <;> simp [Weighbridge.commit, Weighbridge.mend, hr]

theorem Weighbridge.commitAll_powerCycle (w : Weighbridge) (q : QueuedEntry) :
    (w.commitAll q).nv.powerCycle = w.nv.powerCycle ∧ (w.commitAll q).opened = w.opened := by
  have hahead (l : List LogRecord) (w : Weighbridge) :
      (l.foldl Weighbridge.commit w).nv.powerCycle = w.nv.powerCycle ∧ (l.foldl Weighbridge.commit w).opened = w.opened := by
    induction l generalizing w with
    | nil => exact ⟨rfl, rfl⟩
    | cons r rest ih =>
      obtain ⟨hn, ho⟩ := w.commit_powerCycle r
      obtain ⟨hns, hos⟩ := ih (w.commit r)
      exact ⟨hns.trans hn, hos.trans ho⟩
  obtain ⟨hn, ho⟩ := hahead q.ahead w
  obtain ⟨hns, hos⟩ := (q.ahead.foldl Weighbridge.commit w).commit_powerCycle q.entry
  exact ⟨hns.trans hn, hos.trans ho⟩

/-- What the entries at power-up leave: the power and clock states, the straps, an open log, and the count of power cycles. -/
def State.boot (s : State) : Power × Clock × Straps × Bool × Word := (s.power, s.clock, s.straps, s.wb.opened, s.wb.nv.powerCycle)

theorem State.takeEntry_boot (s : State) (source kind : Byte) (payload : List Byte) : (s.takeEntry source kind payload).2.boot = s.boot := by
  obtain ⟨hnv, hopened⟩ := s.takeEntry_wb source kind payload
  rw [State.boot, hnv, hopened, s.takeEntry_eq source kind payload]
  rfl

@[simp] theorem State.logDirect_boot (s : State) (kind : Byte) (payload : List Byte) : (s.logDirect kind payload).boot = s.boot := by
  obtain ⟨hn, ho⟩ := (s.takeEntry (s.source 0 0) kind payload).2.wb.commitAll_powerCycle (s.takeEntry (s.source 0 0) kind payload).1
  refine Eq.trans ?_ (s.takeEntry_boot (s.source 0 0) kind payload)
  rw [State.logDirect, State.boot, hn, ho]
  rfl

@[simp] theorem State.logIf_boot (s : State) (c : Bool) (kind : Byte) (payload : List Byte) : (s.logIf c kind payload).boot = s.boot := by
  unfold State.logIf
  split_ifs
  · exact s.logDirect_boot kind payload
  · rfl

@[simp] theorem State.takeReference_boot (s : State) (seq : Word) : (s.takeReference seq).boot = s.boot := by
  unfold State.takeReference
  split_ifs <;> rfl

@[simp] theorem State.commitNote_boot (s : State) : s.commitNote.boot = s.boot := by
  unfold State.commitNote
  cases s.faults.note with
  | none => rfl
  | some n => exact s.logDirect_boot 0x10 n.payload

@[simp] theorem State.powerUpRest_boot (s : State) (at_ : Nv) (p g : Nat × List Byte) : (s.powerUpRest at_ p g).boot = s.boot := by
  unfold State.powerUpRest
  simp only [State.commitNote_boot, State.logIf_boot, State.takeReference_boot]
  split
  · rfl
  · rw [State.logIf_boot]

@[simp] theorem State.logPart_boot (s : State) (kind : Byte) (payload : List Byte) : (s.logPart kind payload).boot = s.boot := by
  unfold State.logPart
  split_ifs
  · rfl
  · rfl
  · rfl
  · exact s.takeEntry_boot (s.source 0 0) kind payload

/-- The log after it is opened: the power cycle is counted on from the copy in force (R413). -/
theorem State.powerUpLog_boot (s : State) (w : TrustWork) :
    (s.powerUpLog w).boot = (s.power, s.clock, s.straps, true, satInc32 s.wb.nv.choose.powerCycle) := by
  unfold State.powerUpLog
  rw [State.powerUpRest_boot, State.logDirect_boot, State.logDirect_boot]
  rfl

theorem State.heldThermal_boot (s : State) : s.heldThermal.boot = ({ s.power.startPattern with state := .heldThermal },
    { s.clock with locked := false, holdover := false, stepped := .none }, s.straps, s.wb.opened, s.wb.nv.powerCycle) := rfl

/-- Settles O9: the entries of the power-up change none of what the exit judges, and leave the log open with the power cycle counted
(R49, R50, R413). -/
theorem trustExits : Obligations.TrustExits := by
  intro w s hs
  refine ⟨fun hbad => ?held, fun hgood => ?opens⟩
  case held => exact congrArg Host.Outcome.next ((if_pos hs).trans (if_pos hbad))
  case opens =>
    have hearly (l : List (Byte × List Byte)) (u : State) : (l.foldl (fun s e => s.logPart e.1 e.2) u).boot = u.boot := by
      induction l generalizing u with
      | nil => rfl
      | cons e rest ih => exact (ih _).trans (u.logPart_boot e.1 e.2)
    obtain ⟨u, hu⟩ : ∃ u, u = s.wb.early.foldl (fun s e => s.logPart e.1 e.2) (s.powerUpLog w) := ⟨_, rfl⟩
    have hboot : u.boot = (s.power, s.clock, s.straps, true, satInc32 s.wb.nv.choose.powerCycle) := by
      rw [hu, hearly, State.powerUpLog_boot]
    simp only [State.boot, Prod.mk.injEq] at hboot
    obtain ⟨hpower, hclock, hstraps, hopened, hcycle⟩ := hboot
    have hexec : exec (.trustEnd w) s = .next (u.exitTrust w.temp) := by
      rw [hu]
      exact congrArg Host.Outcome.next ((if_pos hs).trans (if_neg (by simp [hgood])))
    have hthermal (kind : Byte) (payload : List Byte) : (u.logPart kind payload).heldThermal.wb.opened = true ∧
        (u.logPart kind payload).heldThermal.wb.nv.powerCycle = satInc32 s.wb.nv.choose.powerCycle := by
      have hlog := u.logPart_boot kind payload
      simp only [State.boot, Prod.mk.injEq] at hlog
      obtain ⟨-, -, -, hlopened, hlcycle⟩ := hlog
      exact ⟨hlopened.trans hopened, hlcycle.trans hcycle⟩
    have hcode : u.code = s.code := by
      funext i
      rw [State.code, State.code, hstraps]
    have heconomy : u.strapEconomy = s.strapEconomy := by rw [State.strapEconomy, State.strapEconomy, hcode]
    have hband : u.bandEntry = s.bandEntry := by
      have hvco : u.vcoKhz = s.vcoKhz := by rw [State.vcoKhz, State.vcoKhz, State.family441, State.family441, hcode]
      rw [State.bandEntry, State.bandEntry, hclock, hvco]
    refine ⟨u.exitTrust w.temp, hexec, ?_⟩
    rw [State.exitTrust, hstraps]
    by_cases hhot : 125 ≤ w.temp
    · rw [if_pos hhot, if_pos hhot]
      exact ⟨(hthermal _ _).1, (hthermal _ _).2, rfl, nofun⟩
    · rw [if_neg hhot, if_neg hhot]
      cases s.straps.faults with
      | cons f l => exact ⟨hopened, hcycle, rfl, nofun⟩
      | nil =>
        refine ⟨hopened, hcycle, rfl, fun _ => ?_⟩
        rw [← hclock, ← heconomy, ← hband]
        rfl

/-! ### Temperature readings -/

/-- The power state after a reading raised THERMAL where it is armed. -/
theorem State.raiseThermal_power (s : State) (c : Int) : (s.raiseThermal c).power =
    if 120 ≤ c ∧ s.power.thermalArmed = true then
      { s.power with thermalArmed := false, thermalRaises := s.power.thermalRaises + 1 }
    else s.power := by
  unfold State.raiseThermal
  split_ifs
  · exact (State.logPart_power _ _ _).trans (State.raiseAll_power _ _)
  · rfl

theorem State.raiseThermal_events (s : State) (c : Int) (x : TenantId) : ((s.raiseThermal c).tenant x).events =
    if 120 ≤ c ∧ s.power.thermalArmed = true ∧ s.present x = true ∧ (s.tenant x).held = false then
      (s.tenant x).events ||| (1#32 <<< 29)
    else (s.tenant x).events := by
  have htenant (u : State) (kind : Byte) (payload : List Byte) : (u.logPart kind payload).tenant x = u.tenant x :=
    congrArg (·[x]) (u.logPart_tenants kind payload)
  by_cases h : 120 ≤ c ∧ s.power.thermalArmed = true
  · have hpresent (p : Power) : ({ s with power := p } : State).present x = s.present x := rfl
    have hsame (p : Power) : ({ s with power := p } : State).tenant x = s.tenant x := rfl
    rw [State.raiseThermal, if_pos h, htenant, State.raiseAll_tenant, hpresent, hsame]
    simp only [h.1, h.2, true_and]
    split_ifs <;> rfl
  · rw [State.raiseThermal, if_neg h, if_neg fun hall => h ⟨hall.1, hall.2.1⟩]

/-- What HELD_THERMAL takes over: all of the power state but the pattern of FAULT_N, and the tenants. -/
theorem State.logPart_heldThermal (u : State) (kind : Byte) (payload : List Byte) :
    (u.logPart kind payload).heldThermal.power = { u.power.startPattern with state := .heldThermal } ∧
    (u.logPart kind payload).heldThermal.tenants = u.tenants :=
  ⟨congrArg (fun p : Power => { p.startPattern with state := .heldThermal }) (u.logPart_power kind payload), u.logPart_tenants kind payload⟩

theorem PartState.heats_iff (p : PartState) : p.heats = true ↔ p = .clock ∨ p = .awaitImage ∨ p = .operating := by
  cases p <;> simp [PartState.heats]

/-- Settles O10: a reading is taken, raises THERMAL where it is armed, and leads to HELD_THERMAL where it is the second of 130 °C in a
row (R70, R71). -/
theorem thermalReadings : Obligations.ThermalReadings := by
  intro c s hpor hstrap
  obtain ⟨u, hu⟩ : ∃ u, u = ({ s with power := s.power.takeReading c } : State).raiseThermal c := ⟨_, rfl⟩
  have hexec : exec (.thermalReading c) s = .next (if 2 ≤ u.power.hotRun ∧ u.power.state.heats = true then
      (u.logPart 0x08 (holdPayload u.power.previous u.power.reading)).heldThermal else u) := by
    rw [hu]
    exact congrArg Host.Outcome.next (if_neg (by simp [hpor, hstrap]))
  have hpower := State.raiseThermal_power { s with power := s.power.takeReading c } c
  have hevents := State.raiseThermal_events { s with power := s.power.takeReading c } c
  rw [← hu] at hpower hevents
  have harmed : (120 ≤ c ∧ (s.power.takeReading c).thermalArmed = true) ↔ 120 ≤ c ∧ s.power.thermalArmed = true := by
    refine and_congr_right fun hc => ?_
    rw [Power.takeReading, Bool.or_eq_true, decide_eq_true_eq, or_iff_left (by omega)]
  simp only [harmed] at hpower
  have hfields : u.power.reading = c ∧ u.power.previous = s.power.reading ∧ u.power.hotRun = (if 130 ≤ c then s.power.hotRun + 1 else 0) ∧
      u.power.state = s.power.state ∧
      (u.power.thermalRaises = if 120 ≤ c ∧ s.power.thermalArmed = true then s.power.thermalRaises + 1 else s.power.thermalRaises) ∧
      (u.power.thermalArmed = if 120 ≤ c then false else s.power.thermalArmed || decide (c ≤ 115)) := by
    rw [hpower]
    by_cases hc : 120 ≤ c
    · cases ha : s.power.thermalArmed <;> simp [Power.takeReading, hc, ha, show ¬c ≤ 115 by omega]
    · simp [Power.takeReading, hc]
  have hraised (x : TenantId) : (u.tenant x).events =
      if 120 ≤ c ∧ s.power.thermalArmed = true ∧ s.present x = true ∧ (s.tenant x).held = false then (s.tenant x).events ||| (1#32 <<< 29)
      else (s.tenant x).events := by
    rw [hevents x]
    exact if_congr (by rw [← and_assoc, harmed, and_assoc]; rfl) rfl rfl
  obtain ⟨hreading, hprevious, hhot, hstate, hraises, harm⟩ := hfields
  have hheld : (2 ≤ u.power.hotRun ∧ u.power.state.heats = true) ↔ 130 ≤ c ∧ 1 ≤ s.power.hotRun ∧
      (s.power.state = .clock ∨ s.power.state = .awaitImage ∨ s.power.state = .operating) := by
    have hrun : 2 ≤ (if 130 ≤ c then s.power.hotRun + 1 else 0) ↔ 130 ≤ c ∧ 1 ≤ s.power.hotRun := by split_ifs <;> omega
    rw [hhot, hstate, PartState.heats_iff, hrun, and_assoc]
  by_cases h : 130 ≤ c ∧ 1 ≤ s.power.hotRun ∧
      (s.power.state = .clock ∨ s.power.state = .awaitImage ∨ s.power.state = .operating)
  · obtain ⟨hp, ht⟩ := u.logPart_heldThermal 0x08 (holdPayload u.power.previous u.power.reading)
    refine ⟨_, hexec.trans (congrArg Host.Outcome.next (if_pos (hheld.mpr h))), ?_⟩
    rw [if_pos h, hp]
    refine ⟨hreading, hprevious, hhot, rfl, hraises, harm, fun x => ?_⟩
    rw [← hraised x, State.tenant, ht]
    rfl
  · refine ⟨_, hexec.trans (congrArg Host.Outcome.next (if_neg (mt hheld.mp h))), ?_⟩
    rw [if_neg h]
    exact ⟨hreading, hprevious, hhot, hstate, hraises, harm, hraised⟩

end Sys2Proof.Machine
end

section
/-! SUPPORT. The reference, lock attempts and holdover (R74 to R85 of spec/04_clock_plans.md). -/
namespace Sys2Proof.Machine

/-- A lock attempt succeeds where the phase error stayed in range and VT lies in the band's window. -/
theorem LockAttempt.ok_iff (a : LockAttempt) (e : BandEntry) : a.ok e = true ↔ a.reached = true ∧ e.lo ≤ a.taken ∧ a.taken ≤ e.hi := by
  simp [LockAttempt.ok, and_assoc]

theorem LockAttempt.outside_iff (a : LockAttempt) (e : BandEntry) : a.outside e = true ↔ a.taken < e.lo ∨ e.hi < a.taken := by
  simp [LockAttempt.outside]

/-- The links that a recovered reference can be taken from outside ring lock (R76). -/
theorem State.recoveredFrom_unlocked {s : State} (h : s.ring.locked = false) (up down : Bool) :
    s.recoveredFrom up down = if up then some .up else if down then some .down else none := by
  rw [State.recoveredFrom, h]
  rfl

/-- No link can be recovered from where neither has character alignment. -/
theorem State.recoveredFrom_none (s : State) : s.recoveredFrom false false = none := by
  unfold State.recoveredFrom
  cases s.ring.locked <;> cases s.homeLink <;> rfl

/-- A clock fault changes the part state, the pattern of FAULT_N and the log. -/
theorem State.clockFault_eq (s : State) (cause : Byte) (tried : List (BitVec 6)) (vt : Nat) : s.clockFault cause tried vt = { s with
    power := { s.power with state := .heldClock, faultLow := true, faultEdge := 0 }, wb := (s.clockFault cause tried vt).wb } := by
  rw [State.clockFault, State.logPart_eq]
  rfl

/-- A reference that no window or link upholds is not taken. -/
theorem State.referencePresent_off {s : State} {p q : Int} {al up down : Bool}
    (h : 30000 < p.natAbs ∨ 30000 < q.natAbs ∨ (s.refSource = 2 ∧ (al = false ∨ (up = false ∧ down = false)))) :
    s.referencePresent p q al up down = s := by
  refine if_neg ?_
  rintro ⟨hp, hq, hheld, -⟩
  obtain h | h | ⟨href, h⟩ := h
  · omega
  · omega
  · rw [State.sourceHeld, decide_eq_false (not_not.mpr href), Bool.false_or, Bool.and_eq_true] at hheld
    obtain ⟨hal, hlink⟩ := hheld
    obtain h | ⟨rfl, rfl⟩ := h
    · exact absurd hal (by simp [h])
    · exact absurd hlink (by simp [State.recoveredFrom_none])

/-- A lock attempt by what its sequence makes of it. -/
theorem exec_lockAttemptEnd {a : LockAttempt} {s : State} (hs : s.power.state = .clock) (hp : s.clock.present = true) :
    exec (.lockAttemptEnd a) s = .next (match sequenceStep s.bandEntry s.clock.seqBand s.clock.tried.length a with
      | .locked => s.firstLock a.taken
      | .failed => s.clockFault 2 (s.clock.tried ++ [s.clock.seqBand]) a.taken
      | .again n => { s with clock := { s.clock with seqBand := n, tried := s.clock.tried ++ [s.clock.seqBand] } }) :=
  congrArg Host.Outcome.next (if_pos ⟨hs, hp⟩)

/-- The band after a failed attempt that drove VT up, or whose loop stood at its upper limit. -/
theorem nextBand_up {a : LockAttempt} {e : BandEntry} (h : e.hi < a.taken ∨ (a.reached = false ∧ a.limit = .upper)) (b : BitVec 6) :
    a.nextBand e b = if b = 63#6 then none else some (b + 1) := if_pos h

/-- The band after any other failed attempt. -/
theorem nextBand_down {a : LockAttempt} {e : BandEntry} (h : a.taken ≤ e.hi) (hr : a.reached = true ∨ a.limit ≠ .upper) (b : BitVec 6) :
    a.nextBand e b = if b = 0#6 then none else some (b - 1) := by
  refine if_neg ?_
  rintro (hhi | ⟨hreached, hlimit⟩)
  · omega
  · exact hr.elim (fun hyes => by simp [hyes] at hreached) (fun hno => hno hlimit)

/-- A failed attempt that is not the fourth goes on in the next band. -/
theorem sequenceStep_again {a : LockAttempt} {e : BandEntry} {b m : BitVec 6} {n : Nat}
    (hok : ¬(a.reached = true ∧ e.lo ≤ a.taken ∧ a.taken ≤ e.hi)) (hn : n < 3) (h : a.nextBand e b = some m) :
    sequenceStep e b n a = .again m := by
  rw [sequenceStep, if_neg (mt (LockAttempt.ok_iff a e).mp hok), if_neg (by omega), h]

/-- A failed attempt with no band left, or the fourth, ends the sequence. -/
theorem sequenceStep_failed {a : LockAttempt} {e : BandEntry} {b : BitVec 6} {n : Nat}
    (hok : ¬(a.reached = true ∧ e.lo ≤ a.taken ∧ a.taken ≤ e.hi)) (h : 3 ≤ n ∨ a.nextBand e b = none) :
    sequenceStep e b n a = .failed := by
  rw [sequenceStep, if_neg (mt (LockAttempt.ok_iff a e).mp hok)]
  by_cases hn : 3 ≤ n
  · rw [if_pos hn]
  · rw [if_neg hn, h.resolve_left hn]

/-- Settles O11: the reference by its windows and links, a lock attempt by the outcome of its sequence step (R74, R79 to R81). -/
theorem referenceAndLock : Obligations.ReferenceAndLock := by
  refine ⟨⟨fun p q al up down s hs hp => ⟨fun h1 h2 href => ?own, fun h1 h2 href hlock hal hlink => ?recovered, fun h => ?off⟩,
    fun ms d s hs hp hd hms => ?deadline, fun cause tried vt s => s.clockFault_eq cause tried vt⟩,
    fun a s hs hp => ⟨fun h => ?locked, fun h => ⟨fun hn hup => ⟨fun hb => ?up, fun hb => ?top⟩, fun hn hlo hdown =>
        ⟨fun hb => ?down, fun hb => ?bottom⟩,
      fun hn => ?fourth⟩⟩⟩
  case own =>
    have hheld : s.sourceHeld al up down = true := by rw [State.sourceHeld, decide_eq_true href, Bool.true_or]
    refine congrArg Host.Outcome.next ((if_pos ⟨h1, h2, hheld, hp⟩).trans ((if_pos hs).trans ?_))
    rw [State.takeRefLink, if_neg href]
  case recovered =>
    have hfrom : s.recoveredFrom up down = some (if up then .up else .down) := by
      rw [State.recoveredFrom_unlocked hlock]
      cases up
      · rw [hlink.resolve_left Bool.false_ne_true]
        rfl
      · rfl
    have hheld : s.sourceHeld al up down = true := by rw [State.sourceHeld, hal, hfrom]; exact Bool.or_true _
    refine congrArg Host.Outcome.next ((if_pos ⟨h1, h2, hheld, hp⟩).trans ((if_pos hs).trans ?_))
    rw [State.takeRefLink, if_pos href, hfrom]
  case off => exact congrArg Host.Outcome.next (State.referencePresent_off h)
  case deadline =>
    refine congrArg Host.Outcome.next (if_pos ⟨hs, hp, ?_⟩)
    rw [hd, Option.any_some, decide_eq_true hms]
  case locked =>
    have hstep : sequenceStep s.bandEntry s.clock.seqBand s.clock.tried.length a = .locked := if_pos ((LockAttempt.ok_iff a _).mpr h)
    rw [exec_lockAttemptEnd hs hp, hstep]
    refine congrArg Host.Outcome.next ?_
    rw [State.firstLock, State.faultAtLock]
    cases s.unitFault <;> rfl
  case up => rw [exec_lockAttemptEnd hs hp, sequenceStep_again h hn ((nextBand_up hup _).trans (if_neg hb))]
  case top =>
    rw [exec_lockAttemptEnd hs hp, sequenceStep_failed h (.inr ((nextBand_up hup _).trans (if_pos hb))), hb]
  case down => rw [exec_lockAttemptEnd hs hp, sequenceStep_again h hn ((nextBand_down hlo hdown _).trans (if_neg hb))]
  case bottom =>
    rw [exec_lockAttemptEnd hs hp, sequenceStep_failed h (.inr ((nextBand_down hlo hdown _).trans (if_pos hb))), hb]
  case fourth => rw [exec_lockAttemptEnd hs hp, sequenceStep_failed h (.inl hn)]

/-- Settles O12: each command by its own conditions, a stepped re-lock by the outcome of its sequence (R82 to R85). -/
theorem holdoverCommands : Obligations.HoldoverCommands := by
  refine ⟨fun c s hrun hcause hlocked hhold => ?lost, fun a s hrun hcan hreached hok => ?relock, fun a s hrun hcan hout => ?outside,
    fun l gap cycles tried vt s hrun hstop hseq => ?stepped, fun l gap cycles tried vt s hrun hstop hseq => ?failed⟩
  case lost =>
    refine congrArg Host.Outcome.next ?_
    rw [State.lockLost, if_neg (by simp [hrun, hcause]), if_neg (by simp [hhold]), if_pos hlocked]
  case relock => exact congrArg Host.Outcome.next ((if_pos ⟨hrun, hcan⟩).trans (if_pos hok))
  case outside =>
    have hnot : ¬a.ok s.bandEntry = true := by
      rw [LockAttempt.ok_iff]
      omega
    exact congrArg Host.Outcome.next ((if_pos ⟨hrun, hcan⟩).trans ((if_neg hnot).trans (if_pos ((LockAttempt.outside_iff a _).mpr hout))))
  case stepped =>
    refine congrArg Host.Outcome.next ((if_pos ⟨hrun, hstop⟩).trans ?_)
    rw [hseq]
    rfl
  case failed =>
    refine congrArg Host.Outcome.next ((if_pos ⟨hrun, hstop⟩).trans ?_)
    rw [hseq]
    rfl

end Sys2Proof.Machine
end

section
/-! SUPPORT. The tenant port: what a host frame comes to. -/
namespace Sys2Proof.Machine

/-! ### A frame and its verdict -/

/-- The state after a frame on which the port has judged `v`. -/
def State.settles (s : State) (x : TenantId) (f : HostFrame) (v : Verdict) : State :=
  v.next.modPort x (fun p => { p.settleFrame v f.seq with reply := s.replyStream x f v.reply })

section
variable {s t : State} {x : TenantId} {f : HostFrame} {o : OpSpec} {hasReply unknown : Bool} {act : State → Verdict}

theorem hostFrame_ignored (h : s.portIgnores x = true) : s.hostFrame x f o hasReply unknown act = s := if_pos h

theorem hostFrame_short (h : s.portIgnores x = false) (e : f.edges < 64) :
    s.hostFrame x f o hasReply unknown act = s.modPort x (fun p => { p with reply := s.replyStream x f [] }) := by
  rw [State.hostFrame, if_neg (ne_true_of_eq_false h), if_pos e]

theorem hostFrame_long (h : s.portIgnores x = false) (e : 64 ≤ f.edges) :
    s.hostFrame x f o hasReply unknown act = s.settles x f (if f.intact o.op then s.judge x f o hasReply unknown act
      else { s.refuse 0x01 with reply := (s.judge x f o hasReply unknown act).reply }) := by
  rw [State.hostFrame, if_neg (ne_true_of_eq_false h), if_neg (by omega)]
  rfl

/-- An intact frame has all its edges, 4 words of them at the least. -/
theorem edges_of_intact {op : Nat} (h : f.intact op = true) : 64 ≤ f.edges := by
  obtain ⟨h, -⟩ := Bool.and_eq_true_iff.mp h
  have := of_decide_eq_true h
  omega

theorem hostFrame_intact (h : s.portIgnores x = false) (i : f.intact o.op = true) :
    s.hostFrame x f o hasReply unknown act = s.settles x f (s.judge x f o hasReply unknown act) := by
  rw [hostFrame_long h (edges_of_intact i), if_pos i]

theorem settles_accept (ws : List Word) : s.settles x f (t.accept ws) = s.answers t x f ws := rfl

theorem settles_acceptLater (ws : List Word) : s.settles x f (t.acceptLater 0 ws) = s.answersLater t x f ws := rfl

/-- A frame that crosses to its unit counts only when it arrives. -/
theorem settleFrame_cross {p : Port} {g : InFlight} {q : Half} (h : g.crosses = true) :
    p.settleFrame (s.acceptCross g) q = { p with inFlight := some (g, q), overtaken := false } := by
  have e : (true && !(some g).any InFlight.crosses) = false := by rw [Option.any_some, h]; rfl
  rw [Port.settleFrame, State.acceptCross, e]
  rfl

theorem settleFrame_refuse {p : Port} {k : Byte} {q : Half} (h : k ≠ 1) :
    p.settleFrame (s.refuse k) q = { p with result := k, seq := q, overtaken := p.inFlight.isSome } := by
  rw [Port.settleFrame, State.refuse, Bool.false_and, if_neg Bool.false_ne_true, if_neg h]

theorem settles_cross {g : InFlight} (h : g.crosses = true) : s.settles x f (s.acceptCross g) = s.forwards x f g := by
  simp only [State.settles, settleFrame_cross h]
  rfl

theorem settles_refuse {k : Byte} (h : k ≠ 1) : s.settles x f (s.refuse k) = s.refuses x f k := by
  simp only [State.settles, settleFrame_refuse h]
  rfl

/-- A frame that passes every check before its op's own is judged by its op. -/
theorem next_of_takes {wf : Bool} (hwf : wf = true) (hu : unknown = false) (h : s.takes x f o hasReply) :
    ifWf wf s (s.hostFrame x f o hasReply unknown act) = .next (s.settles x f (act s)) := by
  obtain ⟨listens, -, whole, check⟩ := h
  rw [ifWf, if_pos hwf, hostFrame_intact listens whole, hu, State.judge, if_pos check]

theorem whole_of_takes (h : s.takes x f o hasReply) : f.whole = true := decide_eq_true h.2.1

theorem spells_of_takes {n k : Nat} {u : Bool} (h : s.takes x f o hasReply) (e : f.sub n = k) :
    (f.whole && f.spells n k u) = true := by
  rw [whole_of_takes h, HostFrame.spells, decide_eq_true e]
  rfl

end

/-- Every command of a host frame is one `hostFrame`; only STATUS is served in every state. -/
theorem exec_eq_hostFrame {c : Instr} {x : TenantId} {f : HostFrame} {op : Nat} (s : State) (h : c.hostFrame = some (x, f, op))
    (wf : c.wf = true) : ∃ o hasReply unknown act, o.op = op ∧ (op ≠ 0 → o.serves.every = false) ∧
      exec c s = .next (s.hostFrame x f o hasReply unknown act) := by
  have run {t : State} {w : Bool} (hw : w = true) : ifWf w s t = .next t := congrArg _ (if_pos hw)
  cases c <;> cases h
  case status => exact ⟨_, _, _, _, rfl, fun h => absurd rfl h, run wf⟩
  case logAppend => exact ⟨_, _, _, _, rfl, fun _ => by cases f.logUnknown <;> rfl, run wf⟩
  all_goals exact ⟨_, _, _, _, rfl, fun _ => rfl, run wf⟩

/-- What is not served in every state is refused with BUSY while the part, the port or the tenant cannot serve. -/
theorem served_busy {s : State} {x : TenantId} {v : Serves} {f : HostFrame} {hasReply : Bool} (e : v.every = false)
    (h : s.power.state = .trust ∨ s.power.state = .clock ∨ s.power.state = .heldTrust ∨ s.power.state = .heldThermal ∨
      (s.tenant x).port.inFlight.isSome = true ∨ (s.tenant x).underReset = true) : s.served x v f hasReply = false := by
  rw [State.served, e]
  rcases h with h | h | h | h | h | h
  iterate 4 rw [h]; rfl
  all_goals simp [h]

/-- Settles O33: the frame's command is one `hostFrame`, whose first conditions are these. -/
theorem framesNotTaken : Obligations.FramesNotTaken := by
  intro c x f op s hc wf
  obtain ⟨o, r, u, act, ho, busy, e⟩ := exec_eq_hostFrame s hc wf
  refine ⟨fun h => ?_, fun listens short => ?_, fun listens long spoiled => ?_, fun listens whole notStatus h => ?_⟩
  · rw [e, hostFrame_ignored (by rcases h with h | h | h | h <;> simp [State.portIgnores, h])]
  · rw [e, hostFrame_short listens short]
  · refine ⟨(s.judge x f o r u act).reply, ?_⟩
    rw [e, hostFrame_long listens long, ho, spoiled]
    simp only [State.settles, Port.settleFrame, State.refuse, satInc16_eq]
    rfl
  · have check : s.frameCheck x f o r u = 0x03 := if_pos (served_busy (busy notStatus) h)
    rw [e, hostFrame_intact listens (ho.symm ▸ whole), State.judge, if_neg (by rw [check]; decide), check, settles_refuse (by decide)]

end Sys2Proof.Machine
end

section
/-! SUPPORT. READ, WRITE, LOAD and the collects of a port. -/
namespace Sys2Proof.Machine

/-- A tag that is FREE or FETCHED can be used again. -/
theorem HostTag.not_outstanding {g : HostTag} (h : g.state = .free ∨ g.state = .fetched) : g.outstanding = false := by
  rcases h with h | h <;> simp [HostTag.outstanding, h]

theorem HostTag.is_outstanding {g : HostTag} (h : g.state = .pending ∨ g.state = .ready) : g.outstanding = true := by
  rcases h with h | h <;> simp [HostTag.outstanding, h]

/-- Two changes of one port are one. -/
theorem modPort_modPort (s : State) (x : TenantId) (g h : Port → Port) :
    (s.modPort x g).modPort x h = s.modPort x (fun p => h (g p)) := by
  simp [State.modPort, State.modTenant]

/-- A frame's words put in order without a wedged pit. -/
theorem startWords_eq {s : State} (x : TenantId) (j : PortJob) (h : s.isWedged 1 = false) :
    s.startWords x j = s.modPort x (fun p => { p with
      credits := p.credits - 1, jobs := p.jobs ++ [{ j with id := p.nextJob }], nextJob := p.nextJob + 1 }) := by
  rw [State.startWords, if_neg (ne_true_of_eq_false h), State.addJob, modPort_modPort]

/-- A chunk that starts the staging area. -/
theorem Staging.load_first {g : Staging} {x : TenantId} {last : Bool} {n frame : Nat}
    (h : g.holder = none ∨ g.holder = some x ∧ (g.phase = .idle ∨ g.phase = .loading)) :
    g.load x true last 0 n frame = (0, g.restart.chunk x n last frame) := by
  have free : (g.holder.isSome && g.holder != some x ||
      g.holder == some x && !(decide (g.phase = .idle) || decide (g.phase = .loading))) = false := by
    rcases h with h | ⟨h, p | p⟩ <;> simp [*]
  rw [Staging.load, if_pos rfl, if_neg (by rw [free]; decide), if_neg (fun h => h rfl)]

/-- A chunk that comes next. -/
theorem Staging.load_next {g : Staging} {x : TenantId} {last : Bool} {seq n frame : Nat} (h : g.holder = some x)
    (p : g.phase = .idle ∨ g.phase = .loading) (q : seq = g.nextSeq.toNat) (begun : g.length ≠ 0) (fits : g.length + n ≤ 262144) :
    g.load x false last seq n frame = (0, g.chunk x n last frame) := by
  have opened : (!(decide (g.phase = .idle) || decide (g.phase = .loading))) = false := by
    rcases p with p | p <;> simp [p]
  simp [Staging.load, h, opened, q, begun, Nat.not_lt.mpr fits]

/-- Settles O35: each op's checks in their order, then the frame's job. -/
theorem portMemoryOps : Obligations.PortMemoryOps := by
  intro x f s
  refine ⟨?_, ?_, ?_, ?_, ?_⟩
  · intro d n hn h mask tag window pit
    refine (next_of_takes (whole_of_takes h) rfl h).trans (congrArg _ ?_)
    dsimp only
    rw [← hn, if_neg (by rw [mask]; decide), if_neg (by rw [HostTag.not_outstanding tag]; decide), window, if_neg (fun h => h rfl),
      settles_acceptLater, State.startRead]
    simp only [if_neg (ne_true_of_eq_false pit), State.addJob, modPort_modPort]
  · intro d h mask credit window pit
    refine (next_of_takes (whole_of_takes h) rfl h).trans (congrArg _ ?_)
    dsimp only
    rw [if_neg (by rw [mask]; decide), if_neg credit, window, if_neg (fun h => h rfl), settles_accept, startWords_eq x _ pit]
  · intro h mask credit
    refine (next_of_takes (whole_of_takes h) rfl h).trans (congrArg _ ?_)
    dsimp only
    rw [if_neg (by rw [mask]; decide), if_pos credit, settles_refuse (by decide)]
  · intro h credit
    refine (next_of_takes (whole_of_takes h) rfl h).trans (congrArg _ ?_)
    dsimp only
    rw [if_pos credit, settles_refuse (by decide)]
  · intro g h credit pit chunk
    have count : f.payload.length = f.count := h.2.1
    have load : s.staging.load x (f.h1.getLsbD 31) (f.h1.getLsbD 30) (f.bits 0 13) f.count s.clock.frame = (0, g) := by
      rcases chunk with ⟨first, start, free, rfl⟩ | ⟨first, holder, phase, next, begun, fits, rfl⟩
      · rw [first, start, Staging.load_first free]
        simp [Staging.chunk, Staging.restart]
      · rw [first, Staging.load_next holder phase next begun fits]
        rfl
    refine (next_of_takes (whole_of_takes h) rfl h).trans (congrArg _ ?_)
    dsimp only
    rw [if_neg credit, count, load, if_neg (fun h => h rfl), settles_accept]
    exact congrArg (s.answers · x f []) (startWords_eq (s := { s with staging := g }) x _ pit)

/-! ### The collects -/

theorem logUnknown_false {f : HostFrame} (h : f.sub 4 ≤ 4) : f.logUnknown = false := decide_eq_false (Nat.not_lt.mpr h)

theorem attestUnknown_false {f : HostFrame} (h : f.sub 4 = 0 ∨ f.sub 4 = 4) : f.attestUnknown = false := by
  rcases h with h | h <;> simp [HostFrame.attestUnknown, h]

/-- The state after a collect took its last word, and no more. -/
def State.fetchTag (s : State) (x : TenantId) (f : HostFrame) : State :=
  s.modPort x (fun p => { p with tags := vmod p.tags f.tag.toNat (fun y => { y with state := .fetched }) })

/-- The state after a collect of a READY or FETCHED tag. -/
def State.collected (s : State) (x : TenantId) (f : HostFrame) (off : Nat) : State :=
  let g := s.hostTag x f
  if g.data.length = 0 ∨ off < g.data.length ∧ g.data.length ≤ off + f.count then
    if g.state = .ready then (s.fetchTag x f).raiseMarks g.marks else s.fetchTag x f
  else s

section
variable {s : State} {x : TenantId} {f : HostFrame} {off : Nat} {only : TagOp → Bool}

theorem collect_unknown (h : (s.hostTag x f).state = .free ∨ only (s.hostTag x f).op = false) :
    s.collect x f off only = s.refuse 0x0d := if_pos h

theorem collect_pending (h : (s.hostTag x f).state = .pending) (o : only (s.hostTag x f).op = true) :
    s.collect x f off only = s.refuse 0x0e := by
  rw [State.collect, if_neg (by simp [h, o]), if_pos h]

theorem collect_done (h : (s.hostTag x f).state = .ready ∨ (s.hostTag x f).state = .fetched) (o : only (s.hostTag x f).op = true) :
    s.collect x f off only = ⟨true, (s.hostTag x f).collectCode, (s.hostTag x f).data.drop off, s.collected x f off, none⟩ := by
  have known : ¬((s.hostTag x f).state = .free ∨ only (s.hostTag x f).op = false) := by rcases h with h | h <;> simp [h, o]
  have ready : (s.hostTag x f).state ≠ .pending := by rcases h with h | h <;> simp [h]
  rw [State.collect, if_neg known, if_neg ready, State.collected]
  by_cases whole : (s.hostTag x f).data.length = 0 ∨ off < (s.hostTag x f).data.length ∧ (s.hostTag x f).data.length ≤ off + f.count
  · have e : (decide ((s.hostTag x f).data.length = 0) || decide (off < (s.hostTag x f).data.length) &&
        decide ((s.hostTag x f).data.length ≤ off + f.count)) = true := by simpa using whole
    simp only [e, if_pos whole, Bool.true_and, decide_eq_true_eq]
    rfl
  · have e : (decide ((s.hostTag x f).data.length = 0) || decide (off < (s.hostTag x f).data.length) &&
        decide ((s.hostTag x f).data.length ≤ off + f.count)) = false := by simpa using whole
    simp only [e, if_neg whole]
    rfl

end

/-- Each of the three collects is judged by `collect`. -/
theorem exec_collect {s : State} {x : TenantId} {f : HostFrame} {c : Instr} {only : TagOp → Bool}
    (h : c = .fetch x f ∧ s.takes x f ⟨0x3, 0, Serves.open_⟩ true ∧ only = (fun _ => true) ∨
      c = .logCollect x f ∧ f.sub 4 = 4 ∧ s.takes x f ⟨0xc, 0, Serves.evidence⟩ true ∧
        only = (fun o => decide (o = .log ∨ o = .exportLog)) ∨
      c = .attestCollect x f ∧ f.sub 4 = 4 ∧ s.takes x f ⟨0xd, 0, Serves.evidence⟩ true ∧ only = (fun o => decide (o = .attest))) :
    exec c s = .next (s.settles x f (s.collect x f (f.bits 0 12) only)) := by
  rcases h with ⟨rfl, h, rfl⟩ | ⟨rfl, sub, h, rfl⟩ | ⟨rfl, sub, h, rfl⟩
  · exact next_of_takes (whole_of_takes h) rfl h
  · simp only [Bool.decide_or]
    exact next_of_takes (spells_of_takes h sub) (logUnknown_false (by omega)) h
  · exact next_of_takes (spells_of_takes h sub) (attestUnknown_false (.inr sub)) h

/-- Settles O36: by the tag's state. -/
theorem portCollects : Obligations.PortCollects := by
  intro x f s c only g hc hg
  subst hg
  rw [exec_collect hc]
  refine ⟨fun h => ?_, fun h o => ?_, fun h o off hoff => ?_⟩
  · rw [collect_unknown h, settles_refuse (by decide)]
  · rw [collect_pending h o, settles_refuse (by decide)]
  · subst hoff
    rw [collect_done h o]
    refine ⟨s.collected x f (f.bits 0 12), rfl, fun part => if_neg ?_, fun last within => if_pos ?_⟩
    · rcases part with h | ⟨h, ne⟩
      · omega
      · have := mt List.length_eq_zero_iff.mp ne
        omega
    · rcases within with h | h
      · exact .inr ⟨h, last⟩
      · exact .inl (List.length_eq_zero_iff.mpr h)

end Sys2Proof.Machine
end

section
/-! SUPPORT. The ops of a port that go to the mailboxes, the commit unit, the benches and the ring. -/
namespace Sys2Proof.Machine

theorem tenantOf_ep (x : TenantId) : tenantOf (8 + x.val - 8) = x := by
  rw [Nat.add_sub_cancel_left]
  exact Fin.ext (Nat.mod_eq_of_lt x.isLt)

/-- The writes of a port that a notice waits for are those before it. -/
theorem writeBound_port (s : State) (x : TenantId) : s.writeBound (8 + x.val) 0 = (s.tenant x).port.nextJob := by
  rw [State.writeBound, if_neg (by omega), tenantOf_ep]

theorem ownsMask_iff (s : State) (x : TenantId) (m : Byte) :
    s.ownsMask x m = true ↔ ∀ d : BenchId, m.getLsbD d.val = true → s.owns x d = true := by
  simp [State.ownsMask, mem_maskBenches]

/-! ### GO -/

/-- Whether an image releases a bench on GO. -/
def Image.onGo (b : BenchId) (i : Image) : Bool := i.releases.any (fun r => decide (r.bench = b) && decide (r.cond = .onGo))

/-- A bench after a GO for frame `n`. -/
def Bench.go (x : Bench) (onGo : Bool) (n : Nat) : Bench :=
  if x.state = .armed ∧ x.met = none ∧ x.goDue = none ∧ onGo = true then { x with goDue := some n } else x

/-- A second GO puts nothing off (R69). -/
theorem Bench.go_go (x : Bench) (onGo : Bool) (n : Nat) : (x.go onGo n).go onGo n = x.go onGo n := by
  unfold Bench.go
  split_ifs <;> simp_all

theorem goBench_eq (s : State) (b : BenchId) : s.goBench b = { s with benches := (s.goBench b).benches } := by
  rw [State.goBench]
  split <;> rfl

theorem goBench_bench (s : State) (b d : BenchId) : (s.goBench b).bench d =
    if d = b then (s.bench d).go ((s.benchImage d).any (Image.onGo d)) (s.clock.frame + 2) else s.bench d := by
  by_cases e : d = b
  · subst e
    rw [if_pos rfl, Bench.go, State.goBench]
    by_cases h : (s.bench d).state = .armed ∧ (s.bench d).met = none ∧ (s.bench d).goDue = none ∧
        (s.benchImage d).any (Image.onGo d) = true
    · obtain ⟨h1, h2, h3, h4⟩ := h
      rw [if_pos ⟨h1, h4, h2, h3⟩, State.modBench_bench_self, if_pos ⟨h1, h2, h3, h4⟩]
    · rw [if_neg (fun ⟨h1, h4, h2, h3⟩ => h ⟨h1, h2, h3, h4⟩), if_neg h]
  · rw [if_neg e, State.goBench]
    split
    · exact State.modBench_bench_of_ne s _ e
    · rfl

theorem goAll_eq (s : State) (bs : List BenchId) : bs.foldl State.goBench s = { s with benches := (bs.foldl State.goBench s).benches } := by
  induction bs generalizing s with
  | nil => rfl
  | cons b rest ih => rw [List.foldl_cons, ih, goBench_eq]

/-- A GO reaches exactly the benches that it names. -/
theorem goAll_bench (s : State) (bs : List BenchId) (d : BenchId) : (bs.foldl State.goBench s).bench d =
    if d ∈ bs then (s.bench d).go ((s.benchImage d).any (Image.onGo d)) (s.clock.frame + 2) else s.bench d := by
  induction bs generalizing s with
  | nil => rfl
  | cons b rest ih =>
    have image : (s.goBench b).benchImage d = s.benchImage d := by rw [goBench_eq]; rfl
    have frame : (s.goBench b).clock.frame = s.clock.frame := by rw [goBench_eq]
    rw [List.foldl_cons, ih, image, frame, goBench_bench]
    by_cases e : d = b
    · rw [if_pos e, Bench.go_go, if_pos (show d ∈ b :: rest by rw [e]; exact List.mem_cons_self ..), ite_self]
    · simp only [if_neg e, List.mem_cons, or_iff_right e]

/-! ### The ops -/

section
variable {s : State} {x : TenantId} {f : HostFrame}

theorem exec_post (h : s.takes x f ⟨0x5, 1, Serves.tenant⟩ false) (sub : f.sub 2 = 0) : exec (.post x f) s =
    .next (if s.owns x (benchOf (f.bits 0 3)) = true then s.forwards x f (.post (benchOf (f.bits 0 3)) (f.word 0)) else s.refuses x f 0x08) := by
  refine (next_of_takes (spells_of_takes h sub) (decide_eq_false (by omega)) h).trans (congrArg _ ?_)
  dsimp only
  cases own : s.owns x (benchOf (f.bits 0 3))
  · exact settles_refuse (by decide)
  · exact settles_cross rfl

theorem exec_withdraw (h : s.takes x f ⟨0x5, 0, Serves.tenant⟩ false) (sub : f.sub 2 = 1) : exec (.withdraw x f) s =
    .next (if s.owns x (benchOf (f.bits 0 3)) = true then s.forwards x f (.withdraw (benchOf (f.bits 0 3))) else s.refuses x f 0x08) := by
  refine (next_of_takes (spells_of_takes h sub) (decide_eq_false (by omega)) h).trans (congrArg _ ?_)
  dsimp only
  cases own : s.owns x (benchOf (f.bits 0 3))
  · exact settles_refuse (by decide)
  · exact settles_cross rfl

theorem exec_commitStage (h : s.takes x f ⟨0x9, 1, Serves.tenant⟩ false) (sub : f.sub 2 = 0) : exec (.commitStage x f) s =
    .next (if s.owns x (benchOf (f.bits 27 3)) = true then s.forwards x f (.stage (benchOf (f.bits 27 3)) (f.bits 0 12) f.payload)
      else s.refuses x f 0x08) := by
  refine (next_of_takes (spells_of_takes h sub) (decide_eq_false (by omega)) h).trans (congrArg _ ?_)
  dsimp only
  cases own : s.owns x (benchOf (f.bits 27 3))
  · exact settles_refuse (by decide)
  · exact settles_cross rfl

theorem exec_commitGroup {m : Byte} (hm : m = f.h1.extractLsb' 16 8) (named : m ≠ 0)
    (h : s.takes x f ⟨0x9, (maskBenches m).length, Serves.tenant⟩ false) (sub : f.sub 2 = 1) : exec (.commitGroup x f) s =
    .next (if (∀ d : BenchId, m.getLsbD d.val = true → s.owns x d = true) then s.forwards x f (.group m f.payload)
      else s.refuses x f 0x08) := by
  subst hm
  have known : (decide (1 < f.sub 2) || decide (f.h1.extractLsb' 16 8 = 0)) = false := by rw [sub, decide_eq_false named]; rfl
  refine (next_of_takes (spells_of_takes h sub) known h).trans (congrArg _ ?_)
  simp only [← ownsMask_iff]
  cases own : s.ownsMask x (f.h1.extractLsb' 16 8)
  · exact settles_refuse (by decide)
  · exact settles_cross rfl

/-- TAKE, by whether the tenant owns the bench, the reply carried a posting, and that posting still shows. -/
theorem exec_take (h : s.takes x f ⟨0x7, 0, Serves.tenant⟩ true) (seen : Option NoticeSeen) :
    (s.owns x (benchOf (f.bits 0 3)) = false → exec (.take x f seen) s = .next (s.refuses x f 0x08)) ∧
    (s.owns x (benchOf (f.bits 0 3)) = true → seen = none → exec (.take x f seen) s = .next (s.refuses x f
      (if s.channel (channelId (benchOf (f.bits 0 3)).val (8 + x.val)) = none then 0x0c else 0x0b))) ∧
    (∀ n, s.owns x (benchOf (f.bits 0 3)) = true → seen = some n →
      (∀ c, s.channel (channelId (benchOf (f.bits 0 3)).val (8 + x.val)) = some c → c.visible = true → c.posting = n.posting →
        exec (.take x f seen) s = .next (s.answersLater
          ((s.modChannel (channelId (benchOf (f.bits 0 3)).val (8 + x.val)) Channel.take).pruneChannels) x f
          [c.notice, if c.explicit = true ∧ c.residual = false then 0x80000000#32 else 0])) ∧
      ((∀ c, s.channel (channelId (benchOf (f.bits 0 3)).val (8 + x.val)) = some c → c.visible = false ∨ c.posting ≠ n.posting) →
        ∃ ws, exec (.take x f seen) s = .next (s.modPort x (fun p => { p with
          result := 0x0b, seq := f.seq, overtaken := p.inFlight.isSome, reply := s.replyStream x f (n.notice :: ws) })))) := by
  have run := next_of_takes (act := fun s =>
    let b := benchOf (f.bits 0 3)
    let c := s.channel (channelId b.val (8 + x.val))
    if s.owns x b = false then s.refuse 0x08
    else
      match seen with
      | none => s.refuse (if c.isNone then 0x0c else 0x0b)
      | some n =>
        if c.any (fun c => c.visible && decide (c.posting = n.posting)) then
          (s.takeNotice b.val (8 + x.val)).2.acceptLater 0 (noticeReply c ((c.map (·.notice)).getD 0))
        else { s.refuse 0x0b with reply := noticeReply c n.notice }) (whole_of_takes h) rfl h
  refine ⟨fun own => ?_, fun own none => ?_, fun n own carried => ⟨fun c hc visible same => ?_, fun ended => ?_⟩⟩
  · refine run.trans (congrArg _ ?_)
    dsimp only
    rw [if_pos own, settles_refuse (by decide)]
  all_goals
    have mine : ¬s.owns x (benchOf (f.bits 0 3)) = false := by simp [own]
  · subst none
    refine run.trans (congrArg _ ?_)
    dsimp only
    rw [if_neg mine]
    cases s.channel (channelId (benchOf (f.bits 0 3)).val (8 + x.val)) with
    | none => exact settles_refuse (k := 0x0c) (by decide)
    | some c => exact settles_refuse (k := 0x0b) (by decide)
  · subst carried
    refine run.trans (congrArg _ ?_)
    dsimp only
    rw [if_neg mine, State.takeNotice, hc, Option.any_some, if_pos (by simp [visible, same]), settles_acceptLater]
    dsimp only
    rw [if_pos visible]
    simp [noticeReply]
  · subst carried
    refine ⟨(noticeReply (s.channel (channelId (benchOf (f.bits 0 3)).val (8 + x.val))) n.notice).tail, run.trans (congrArg _ ?_)⟩
    dsimp only
    rw [if_neg mine, if_neg]
    · rfl
    · rw [Option.any_eq_true]
      rintro ⟨c, hc, h⟩
      rcases ended c hc with e | e <;> simp [e] at h

/-- An acknowledgement of an EXPLICIT channel. -/
theorem ackNotice_eq {i j n : Nat} {code : Half} {c : Channel} (hc : s.channel (channelId i j) = some c) (live : c.residual = false)
    (declared : c.declared = true) (explicit : c.explicit = true) :
    s.ackNotice i j code n = if c.visible = false then (0x0b, s) else (0x00, s.modChannel (channelId i j) (fun c =>
      { c with full := false, visible := false, taken := false, timer := 0, ack := some (code, n) })) := by
  rw [State.ackNotice, hc]
  exact if_neg (by simp [live, declared, explicit])

/-- ACK, by whether the tenant owns the bench and its notice is visible. -/
theorem exec_ack (h : s.takes x f ⟨0x8, 1, Serves.tenant⟩ false) :
    (s.owns x (benchOf (f.bits 0 3)) = false → exec (.ack x f) s = .next (s.refuses x f 0x08)) ∧
    (s.owns x (benchOf (f.bits 0 3)) = true → ∀ c, s.channel (channelId (benchOf (f.bits 0 3)).val (8 + x.val)) = some c →
      c.residual = false → c.declared = true → c.explicit = true →
      (c.visible = true → exec (.ack x f) s = .next (s.answersLater
        (s.modChannel (channelId (benchOf (f.bits 0 3)).val (8 + x.val)) (fun c =>
          { c with full := false, visible := false, taken := false, timer := 0,
                   ack := some ((f.word 0).setWidth 16, (s.tenant x).port.nextJob) })) x f [])) ∧
      (c.visible = false → exec (.ack x f) s = .next (s.refuses x f 0x0b))) := by
  have run := next_of_takes (act := fun s =>
    let b := benchOf (f.bits 0 3)
    if s.owns x b = false then s.refuse 0x08
    else
      let e := 8 + x.val
      let a := s.ackNotice b.val e ((f.word 0).setWidth 16) (s.writeBound e 0)
      if a.1 = 0 then a.2.acceptLater 0 [] else s.refuse a.1) (whole_of_takes h) rfl h
  refine ⟨fun own => ?_, fun own c hc live declared explicit => ?_⟩
  · refine run.trans (congrArg _ ?_)
    dsimp only
    rw [if_pos own, settles_refuse (by decide)]
  · have mine : ¬s.owns x (benchOf (f.bits 0 3)) = false := by simp [own]
    refine ⟨fun visible => run.trans (congrArg _ ?_), fun hidden => run.trans (congrArg _ ?_)⟩
    all_goals
      dsimp only
      rw [if_neg mine, ackNotice_eq hc live declared explicit]
    · rw [if_neg (c := c.visible = false) (by simp [visible]), if_pos rfl, settles_acceptLater, writeBound_port]
    · rw [if_pos (c := c.visible = false) hidden]
      exact settles_refuse (k := 0x0b) (by decide)

/-- GO, by its mask. -/
theorem exec_go {m : Byte} (hm : m = f.h1.extractLsb' 0 8) (named : m ≠ 0) (h : s.takes x f ⟨0xf, 0, Serves.tenant⟩ false)
    (sub : f.sub 4 = 0) : exec (.go x f) s = .next (s.settles x f (if s.ownsMask x m = false then s.refuse 0x08
      else if (maskBenches m).any s.benchAbsent then s.refuse 0x09
      else ((maskBenches m).foldl State.goBench s).acceptLater 0 [])) := by
  subst hm
  have known : (decide (3 < f.sub 4) || decide (f.h1.extractLsb' 0 8 = 0)) = false := by rw [sub, decide_eq_false named]; rfl
  exact next_of_takes (spells_of_takes h sub) known h

theorem exec_timeMark (h : s.takes x f ⟨0xe, 4, Serves.tenant⟩ false) (sub : f.sub 4 = 1)
    (inSecond : ((f.word 3).extractLsb' 16 16).toNat < s.ff) {m : Nat} (hm : m = (f.word 0).toNat * 2 ^ 32 + (f.word 1).toNat) :
    exec (.timeMark x f) s = .next (s.settles x f (if x ≠ 0 ∨ (s.isMaster || s.isStandalone) = false then s.refuse 0x17
      else if m < s.align + 4 then s.refuse 0x18
      else ({ s with ring := { s.ring with mark := some { m := m, seconds := f.word 2, frame := (f.word 3).extractLsb' 16 16 } } } :
        State).acceptLater 0 [])) := by
  subst hm
  have known : (decide (1 < f.sub 4) || decide (s.ff ≤ ((f.word 3).extractLsb' 16 16).toNat)) = false := by
    rw [sub, decide_eq_false (Nat.not_le.mpr inSecond)]; rfl
  exact next_of_takes (spells_of_takes h sub) known h

/-- Settles O37: the verdict of each op. -/
theorem portRequestsOfUnits : Obligations.PortRequestsOfUnits := by
  intro x f s b hb
  subst hb
  refine ⟨exec_post, exec_withdraw, fun h sub d hd => ?_, fun m hm named h sub => exec_commitGroup hm named h sub, exec_take,
    fun h own => (exec_ack h).1 own, fun h own c => (exec_ack h).2 own c, fun m hm named h sub => ?_,
    fun m hm named h sub ready => ?_, fun h sub inSecond m hm => ?_⟩
  · subst hd
    exact exec_commitStage h sub
  · rw [exec_go hm named h sub]
    refine ⟨fun ⟨d, hd, foreign⟩ => ?_, fun own ⟨d, hd, gone⟩ => ?_⟩
    · rw [if_pos, settles_refuse (by decide)]
      rw [Bool.eq_false_iff, ne_eq, ownsMask_iff]
      exact fun own => by simp [own d hd] at foreign
    · have absent : (maskBenches m).any s.benchAbsent = true := List.any_eq_true.mpr ⟨d, (mem_maskBenches m d).mpr hd, gone⟩
      rw [(ownsMask_iff s x m).mpr own, if_neg (by decide), if_pos absent, settles_refuse (by decide)]
  · have own : s.ownsMask x m = true := (ownsMask_iff s x m).mpr fun d hd => (ready d hd).1
    have present : ¬(maskBenches m).any s.benchAbsent = true := by
      rw [List.any_eq_true]
      rintro ⟨d, hd, gone⟩
      simp [(ready d ((mem_maskBenches m d).mp hd)).2] at gone
    rw [exec_go hm named h sub, own, if_neg (by decide), if_neg present]
    refine ⟨(maskBenches m).foldl State.goBench s, rfl, goAll_eq s _, fun d => ?_⟩
    rw [goAll_bench, Bench.go]
    simp only [mem_maskBenches]
    by_cases hd : m.getLsbD d.val = true
    · simp only [hd, true_and, if_true]
      rfl
    · simp only [hd, false_and, if_false, Bool.false_eq_true]
  · rw [exec_timeMark h sub inSecond hm]
    refine ⟨fun none => ?_, fun zero can early => ?_, fun zero can late => ?_⟩
    · rw [if_pos (by simpa using none), settles_refuse (by decide)]
    all_goals
      have timer : ¬(x ≠ 0 ∨ (s.isMaster || s.isStandalone) = false) := by
        subst zero
        rcases can with h | h <;> simp [h]
    · rw [if_neg timer, if_pos early, settles_refuse (by decide)]
    · rw [if_neg timer, if_neg (Nat.not_lt.mpr late)]
      rfl

end

end Sys2Proof.Machine
end

section
/-! SUPPORT. The ops of a port that go to the weighbridge. -/
namespace Sys2Proof.Machine

theorem vmod_vmod {α : Type} {n : Nat} (v : Vector α n) (i : Nat) (f g : α → α) : vmod (vmod v i f) i g = vmod v i (fun y => g (f y)) := by
  unfold vmod
  split <;> simp

/-! ### Sub-ops of SPECIAL -/

/-- A PROVISION step's number stands below the sub-op of SPECIAL in the top eight bits of H1. -/
theorem sub8_split (f : HostFrame) : f.sub 8 = f.sub 4 * 16 + f.bits 24 4 := by
  simp only [HostFrame.sub, HostFrame.bits, BitVec.extractLsb'_toNat, Nat.shiftRight_eq_div_pow]
  omega

theorem bits_lt (f : HostFrame) (lo n : Nat) : f.bits lo n < 2 ^ n := BitVec.isLt _

theorem specialUnknown_step {f : HostFrame} (h : f.sub 8 = 16 ∨ f.sub 8 = 17 ∨ f.sub 8 = 18) : f.specialUnknown = false := by
  have split := sub8_split f
  have low := bits_lt f 24 4
  simp only [HostFrame.specialUnknown, Bool.or_eq_false_iff, Bool.and_eq_false_iff, decide_eq_false_iff_not]
  omega

theorem specialUnknown_sub {f : HostFrame} (h : f.sub 4 = 2 ∨ f.sub 4 = 3) : f.specialUnknown = false := by
  rcases h with h | h <;> simp [HostFrame.specialUnknown, h]

/-! ### Tagged requests -/

/-- The verdict on a tagged request: its tag is free, and for PROVISION provisioning is open (R421, R427). -/
def State.requestVerdict (s : State) (x : TenantId) (f : HostFrame) (op : TagOp) (q : WbRequest) : Verdict :=
  if (s.hostTag x f).outstanding then s.refuse 0x0e
  else if op = .provision ∧ s.provisioningOpen = false then s.refuse 0x19
  else (s.request x f.tag.toNat op q).acceptLater 0 []

section
variable {s : State} {x : TenantId} {f : HostFrame} {op : TagOp} {q : WbRequest}

theorem tagged_eq (h : op ≠ .provision) : s.tagged x f op q = s.requestVerdict x f op q := by
  rw [State.tagged, State.requestVerdict, if_neg (c := op = .provision ∧ s.provisioningOpen = false) (fun e => h e.1)]

theorem provision_eq : s.provision x f q = s.requestVerdict x f .provision q := by
  rw [State.provision, State.requestVerdict]
  simp only [true_and]
  split_ifs with outstanding closed
  · rfl
  · rfl
  · exact if_neg outstanding

/-- A request queued at the weighbridge. -/
theorem request_eq (h : s.isWedged 9 = false) : s.request x f.tag.toNat op q = { (s.modPort x (fun p => { p with
      tags := vmod p.tags f.tag.toNat (fun _ => { state := .pending, op := op, data := [], code := 0, marks := (⟨0, 0⟩, ⟨0, 0⟩) }) })) with
    wb := { s.wb with requests := vmod s.wb.requests x.val (fun l => l ++ [(f.tag.toNat, q)]) } } := by
  rw [State.request, if_neg (ne_true_of_eq_false h)]
  rfl

/-- A request of a wedged weighbridge is done at once. -/
theorem request_wedged (h : s.isWedged 9 = true) : s.request x f.tag.toNat op q = s.modPort x (fun p => { p with
      tags := vmod p.tags f.tag.toNat (fun _ => { state := .ready, op := op, data := [], code := 3, marks := (⟨0, 0⟩, ⟨0, 0⟩) }) }) := by
  rw [State.request, if_pos h, State.completeTag, modPort_modPort]
  simp only [vmod_vmod]

end

/-- Each tagged request is judged by `requestVerdict`. -/
theorem exec_request {x : TenantId} {f : HostFrame} {s : State} {c : Instr} {o : OpSpec} {op : TagOp} {q : WbRequest}
    (h : c = .logHead x f ∧ f.sub 4 = 0 ∧ o = ⟨0xc, 0, Serves.evidence⟩ ∧ op = .log ∧ q = .head ∨
      c = .logEntries x f ∧ f.sub 4 = 1 ∧ o = ⟨0xc, 2, Serves.evidence⟩ ∧ op = .log ∧
        q = .entries (pairOf (f.word 0) (f.word 1)) (f.bits 0 4 + 1) ∨
      c = .logExport x f ∧ f.sub 4 = 2 ∧ o = ⟨0xc, 10, Serves.evidence⟩ ∧ op = .exportLog ∧
        q = .exportLog (pairOf (f.word 0) (f.word 9)) (f.bits 0 4 + 1) ((f.payload.drop 1).take 8) ∨
      c = .attestRequest x f ∧ f.sub 4 = 0 ∧ o = ⟨0xd, 8, Serves.evidence⟩ ∧ op = .attest ∧ q = .attest (f.payload.take 8) ∨
      c = .selftest x f ∧ f.sub 4 = 3 ∧ o = ⟨0xf, 0, Serves.open_⟩ ∧ op = .selftest ∧ q = .selftest ∨
      c = .provisionIdentify x f ∧ f.sub 8 = 16 ∧ o = ⟨0xf, 0, Serves.tenant⟩ ∧ op = .provision ∧ q = .identify ∨
      c = .provisionSlot x f ∧ f.sub 8 = 17 ∧ o = ⟨0xf, 9, Serves.tenant⟩ ∧ op = .provision ∧
        q = .slot ((f.word 0).toNat % 4) ((f.payload.drop 1).take 8) ∨
      c = .provisionFloor x f ∧ f.sub 8 = 18 ∧ o = ⟨0xf, 2, Serves.tenant⟩ ∧ op = .provision ∧
        q = .floor (tenantOf (f.word 0).toNat) (f.word 1)) (t : s.takes x f o false) :
    exec c s = .next (s.settles x f (s.requestVerdict x f op q)) := by
  rcases h with ⟨rfl, sub, rfl, rfl, rfl⟩ | ⟨rfl, sub, rfl, rfl, rfl⟩ | ⟨rfl, sub, rfl, rfl, rfl⟩ | ⟨rfl, sub, rfl, rfl, rfl⟩ |
    ⟨rfl, sub, rfl, rfl, rfl⟩ | ⟨rfl, sub, rfl, rfl, rfl⟩ | ⟨rfl, sub, rfl, rfl, rfl⟩ | ⟨rfl, sub, rfl, rfl, rfl⟩
  case inl | inr.inl | inr.inr.inl =>
    rw [← tagged_eq (by decide)]
    exact next_of_takes (spells_of_takes t sub) (logUnknown_false (by omega)) t
  case inr.inr.inr.inl =>
    rw [← tagged_eq (by decide)]
    exact next_of_takes (spells_of_takes t sub) (attestUnknown_false (.inl sub)) t
  case inr.inr.inr.inr.inl =>
    rw [← tagged_eq (by decide)]
    exact next_of_takes (spells_of_takes t sub) (specialUnknown_sub (.inr sub)) t
  all_goals
    rw [← provision_eq]
    exact next_of_takes (spells_of_takes t sub) (specialUnknown_step (by omega)) t

/-! ### LOCK and LOG APPEND -/

section
variable {s : State} {x : TenantId} {f : HostFrame}

theorem exec_lock (h : s.takes x f ⟨0xf, 1, Serves.tenant⟩ false) (sub : f.sub 4 = 2) (word : f.word 0 = 0x4c4f434b) :
    exec (.lock x f) s = .next (s.settles x f (if s.provisioningOpen = false then s.refuse 0x19 else (s.lockOtp x).acceptLater 0 [])) := by
  have known : (f.specialUnknown || decide (f.word 0 ≠ 0x4c4f434b)) = false := by
    rw [specialUnknown_sub (.inl sub), word]
    rfl
  exact next_of_takes (spells_of_takes h sub) known h

/-- The entry that a LOG APPEND asks for (R416, R420). -/
def State.hostEntry (s : State) (x : TenantId) (f : HostFrame) : Byte × SeqPair × State :=
  s.appendEntry x false (s.source 2 x.val) ((f.word 0).extractLsb' 24 8) (wordsToBytes ((f.payload.drop 1).take 7))

theorem exec_logAppend (h : s.takes x f ⟨0xc, 8, Serves.tenant⟩ false) (sub : f.sub 4 = 3) :
    exec (.logAppend x f) s = .next (s.settles x f
      (if ((f.word 0).extractLsb' 24 8).toNat < 0x40 ∨ 0x7f < ((f.word 0).extractLsb' 24 8).toNat then s.refuse 0x02
       else if (s.hostEntry x f).1 = 0 then (s.hostEntry x f).2.2.acceptLater 0 []
       else (s.hostEntry x f).2.2.refuse (s.hostEntry x f).1)) := by
  have known : f.logUnknown = false := logUnknown_false (by omega)
  have row : s.takes x f ⟨0xc, 8, if f.logUnknown then Serves.evidence else Serves.tenant⟩ false := by
    rw [known]
    exact h
  exact next_of_takes (spells_of_takes h sub) known row

end

/-- Settles O38: the tagged requests by their one verdict, LOCK and LOG APPEND by theirs. -/
theorem portRequestsOfWeighbridge : Obligations.PortRequestsOfWeighbridge := by
  intro x f s
  refine ⟨fun c o op q row h => ?_, fun h sub word => ?_, fun h sub kind hkind => ?_⟩
  · rw [exec_request row h]
    refine ⟨fun busy => ?_, fun free => ⟨fun prov closed => ?_, fun can works => ?_, fun can wedged => ?_⟩⟩
    · rw [State.requestVerdict, if_pos (HostTag.is_outstanding busy), settles_refuse (by decide)]
    all_goals
      rw [State.requestVerdict, if_neg (by rw [HostTag.not_outstanding free]; decide)]
    · rw [if_pos ⟨prov, closed⟩, settles_refuse (by decide)]
    all_goals
      have allowed : ¬(op = .provision ∧ s.provisioningOpen = false) := by
        rintro ⟨e, closed⟩
        rcases can with h | h
        · exact h e
        · simp [closed] at h
      rw [if_neg allowed, settles_acceptLater]
    · rw [request_eq works]
    · rw [request_wedged wedged]
  · rw [exec_lock h sub word]
    refine ⟨fun closed => ?_, fun opened wedged => ?_, fun opened works => ?_⟩
    · rw [if_pos closed, settles_refuse (by decide)]
    all_goals rw [if_neg (by simp [opened]), settles_acceptLater, State.lockOtp]
    · rw [if_pos wedged]
    · rw [if_neg (ne_true_of_eq_false works)]
  · subst hkind
    rw [exec_logAppend h sub]
    refine ⟨fun foreign => ?_, fun low high a ha ok => ?_, fun low high => ⟨fun live spent => ?_, fun busy => ?_⟩⟩
    · rw [if_pos foreign, settles_refuse (by decide)]
    all_goals rw [if_neg (by omega)]
    · subst ha
      rw [if_pos (c := (s.hostEntry x f).1 = 0) ok]
      rfl
    · have e : s.hostEntry x f = _ := State.appendEntry_overBudget live spent false _ _ _
      rw [e, if_neg (c := (0x1c : Byte) = 0) (by decide)]
      simp only [← satInc16_eq]
      exact congrArg Host.Outcome.next (settles_refuse (s := s.countRefusal x false) (k := 0x1c) (by decide))
    · have e : s.hostEntry x f = _ := State.appendEntry_busy busy false _ _ _
      rw [e, if_neg (c := (0x03 : Byte) = 0) (by decide)]
      exact congrArg Host.Outcome.next (settles_refuse (k := 0x03) (by decide))

end Sys2Proof.Machine
end

section
/-! SUPPORT. The outcome of a host frame becomes final. -/
namespace Sys2Proof.Machine

/-- What a sparse memory reads after a run of writes: the words written where they stand, what it read before elsewhere. -/
theorem Sparse.read_writeAll {α : Type} [DecidableEq α] {d : α} {m : Sparse α} {vs : List α} (a i : Nat) (h : Sparse.wf d m = true) :
    Sparse.read d (Sparse.writeAll d m a vs) i = if a ≤ i ∧ i < a + vs.length then vs.getD (i - a) d else Sparse.read d m i := by
  induction vs generalizing m a with
  | nil => rw [Sparse.writeAll, if_neg (by simp only [List.length_nil]; omega)]
  | cons v rest ih =>
    rw [Sparse.writeAll, ih (a + 1) (Sparse.write_wf a h), Sparse.read_write a i h, List.length_cons]
    rcases Nat.lt_trichotomy i a with e | rfl | e
    · rw [if_neg (by omega), if_neg (by omega), if_neg (by omega)]
    · rw [if_neg (by omega), if_pos rfl, if_pos (by omega), Nat.sub_self, List.getD_cons_zero]
    · obtain ⟨j, rfl⟩ : ∃ j, i = a + 1 + j := ⟨i - (a + 1), by omega⟩
      rw [if_neg (by omega : ¬a + 1 + j = a), show a + 1 + j - (a + 1) = j by omega, show a + 1 + j - a = j + 1 by omega,
        List.getD_cons_succ]
      simp only [show a + 1 + j < a + 1 + rest.length ↔ a + 1 + j < a + (rest.length + 1) by omega,
        show a + 1 ≤ a + 1 + j ↔ a ≤ a + 1 + j by omega]

/-- A change of a port counts only by what it makes of that port. -/
theorem modPort_congr {s : State} {x : TenantId} {g h : Port → Port} (e : g (s.tenant x).port = h (s.tenant x).port) :
    s.modPort x g = s.modPort x h := by
  have e : g s.tenants[x].port = h s.tenants[x].port := e
  rw [State.modPort, State.modPort, State.modTenant, State.modTenant, e]

@[simp] theorem State.modPort_tenant_self (s : State) (x : TenantId) (f : Port → Port) :
    (s.modPort x f).tenant x = { s.tenant x with port := f (s.tenant x).port } := State.modTenant_tenant_self s x _

theorem stageCoefs_eq (s : State) (x : TenantId) (b : BenchId) (first : Nat) (ws : List Word) : ∃ k : Byte,
    s.stageCoefs x b first ws = (k, if k = 0 then s.modBench b (fun y =>
      { y with coefs := y.coefs.setShadow (Sparse.writeAll 0 y.coefs.shadow first ws) }) else s) ∧
    (k = 0 → first + ws.length ≤ 4096) := by
  rw [State.stageCoefs]
  split_ifs with reload absent range pending
  · exact ⟨0x16, rfl, nofun⟩
  · exact ⟨0x09, rfl, nofun⟩
  · exact ⟨0x06, rfl, nofun⟩
  · exact ⟨0x16, rfl, nofun⟩
  · exact ⟨0x00, rfl, fun _ => by omega⟩

/-- A request that reaches its unit leaves the tenants as they are. -/
theorem arrive_tenants (s : State) (x : TenantId) (g : InFlight) : (s.arrive x g).2.tenants = s.tenants := by
  cases g with
  | judged code => rfl
  | post b n => simp only [State.arrive, State.postNotice]; split <;> rfl
  | withdraw b =>
    simp only [State.arrive, State.withdrawNotice]
    split
    · rfl
    · split_ifs <;> rfl
  | stage b first ws =>
    obtain ⟨k, e, -⟩ := stageCoefs_eq s x b first ws
    simp only [State.arrive, e]
    split <;> rfl
  | group m crcs =>
    simp only [State.arrive, State.requestCommit_eq]
    split
    · rw [State.pendCommits_eq]
    · rfl

theorem arrive_tenant (s : State) (x : TenantId) (g : InFlight) : (s.arrive x g).2.tenant x = s.tenant x := by
  rw [State.tenant, State.tenant, arrive_tenants]

section
variable {s : State} {x : TenantId} {g : InFlight} {q : Half}

theorem outcomeFinal_eq (h : (s.tenant x).port.inFlight = some (g, q)) :
    s.outcomeFinal x = (s.arrive x g).2.modPort x (fun p => { p with
      inFlight := none, overtaken := false, result := if p.overtaken then p.result else (s.arrive x g).1
      seq := if p.overtaken then p.seq else q
      accepted := if g.crosses && decide ((s.arrive x g).1 = 0) then p.accepted + 1 else p.accepted }) := by
  rw [State.outcomeFinal, h]

/-- The outcome of a frame that no later one has overtaken. -/
theorem exec_outcomeFinal {k : Byte} {u : State} (h : (s.tenant x).port.inFlight = some (g, q))
    (due : (s.tenant x).port.overtaken = false) (e : s.arrive x g = (k, u)) :
    exec (.outcomeFinal x) s = .next (u.modPort x (fun p => { p with
      inFlight := none, result := k, seq := q, accepted := if g.crosses = true ∧ k = 0 then p.accepted + 1 else p.accepted })) := by
  have same := arrive_tenant s x g
  have final := outcomeFinal_eq h
  simp only [e] at same final
  refine congrArg Host.Outcome.next (final.trans (modPort_congr ?_))
  simp only [same, due, Bool.and_eq_true, decide_eq_true_eq]
  rfl

end

/-- An outcome that a later frame has overtaken: S goes on naming that one. -/
theorem outcomeFinal_overtaken {x : TenantId} {s : State} {q : Half} {g : InFlight} (h : (s.tenant x).port.inFlight = some (g, q))
    (late : (s.tenant x).port.overtaken = true) : ∃ t, exec (.outcomeFinal x) s = .next t ∧
      (t.tenant x).port.result = (s.tenant x).port.result ∧
      (t.tenant x).port.seq = (s.tenant x).port.seq ∧ (t.tenant x).port.inFlight = none ∧ (t.tenant x).port.overtaken = false ∧
      (∀ code, g = .judged code → t = s.modPort x (fun p => { p with inFlight := none, overtaken := false })) := by
  refine ⟨_, rfl, ?_⟩
  rw [outcomeFinal_eq h]
  simp only [State.modPort_tenant_self, arrive_tenant, late, if_true, true_and]
  rintro code rfl
  apply modPort_congr
  simp only [State.arrive, late]
  simp [InFlight.crosses]

/-- Settles O39: by what the frame's request does at its unit. -/
theorem outcomeBecomesFinal : Obligations.OutcomeBecomesFinal := by
  refine ⟨fun x s q g h late => outcomeFinal_overtaken h late, fun x s q due => ⟨fun code h => ?_, fun b n k h hk => ?_,
    fun b c h hc live declared full => ?_, fun m crcs h ok => ?_, fun b first ws k u h hs => ?_⟩⟩
  · refine (exec_outcomeFinal h due rfl).trans ?_
    simp only [InFlight.crosses, Bool.false_eq_true, false_and, if_false]
  · subst hk
    refine (exec_outcomeFinal h due (k := s.checkPost (8 + x.val) b.val n) rfl).trans ?_
    simp only [InFlight.crosses, true_and, writeBound_port]
  · have withdrawn : s.arrive x (.withdraw b) = (0, s.modChannel (channelId (8 + x.val) b.val) Channel.empty) := by
      rw [State.arrive, State.withdrawNotice, hc]
      dsimp only
      rw [if_neg (by simp [live, declared]), if_neg (by simp [full])]
    exact exec_outcomeFinal h due withdrawn
  · have asked : s.arrive x (.group m crcs) = (0, s.pendCommits s.clock.frame (maskBenches m)) := by
      rw [State.arrive, State.requestCommit_eq, ok, if_pos rfl]
    refine ⟨_, exec_outcomeFinal h due asked, State.pendCommits_eq _ _ _, fun d => ?_⟩
    rw [State.pendCommits_bench]
    simp only [mem_maskBenches]
    split <;> rfl
  · obtain ⟨k', e, fits⟩ := stageCoefs_eq s x b first ws
    have final := exec_outcomeFinal h due (hs : s.arrive x (.stage b first ws) = (k, u))
    simp only [InFlight.crosses, true_and] at final
    rw [hs, Prod.mk.injEq] at e
    obtain ⟨rfl, rfl⟩ := e
    refine ⟨final, by split <;> rfl, fun bad => if_neg bad, fun c hc => ?_, fun ok => ⟨fits ok, fun wf i => ?_⟩⟩
    · split
      · exact State.modBench_bench_of_ne s _ hc
      · rfl
    · rw [if_pos ok, State.modBench_bench_self, ← Sparse.read_writeAll first i wf]
      cases active : (s.bench b).coefs.active1 <;> simp [Coefs.setShadow, Coefs.shadow, active]

end Sys2Proof.Machine
end

section
/-! SUPPORT. The words that a port answers: STATUS, POLL, EVENTS, TIME READ. -/
namespace Sys2Proof.Machine

/-! ### Digits of a number -/

section
variable {base n : Nat} {v : Fin n → Nat}

theorem foldl_digits_lt (h : ∀ i, v i < base) : (List.finRange n).foldl (fun a i => a + v i * base ^ i.val) 0 < base ^ n := by
  induction n with
  | zero => simp
  | succ n ih =>
    have low := ih (v := fun i => v i.castSucc) (fun i => h _)
    have top : v (Fin.last n) * base ^ n ≤ (base - 1) * base ^ n := Nat.mul_le_mul_right _ (by have := h (Fin.last n); omega)
    have one : (base - 1) * base ^ n + base ^ n = base ^ (n + 1) := by
      rw [← Nat.succ_mul, Nat.succ_eq_add_one, Nat.sub_add_cancel (by have := h (Fin.last n); omega), Nat.pow_succ, Nat.mul_comm]
    rw [List.finRange_succ_last, List.foldl_append, List.foldl_map]
    simp only [List.foldl_cons, List.foldl_nil, Fin.val_castSucc, Fin.val_last] at low ⊢
    omega

/-- Each digit stands at its place. -/
theorem foldl_digits_digit (h : ∀ i, v i < base) (k : Fin n) :
    (List.finRange n).foldl (fun a i => a + v i * base ^ i.val) 0 / base ^ k.val % base = v k := by
  induction n with
  | zero => exact k.elim0
  | succ n ih =>
    have pos : 0 < base := by have := h k; omega
    have low := foldl_digits_lt (v := fun i => v i.castSucc) (fun i => h _)
    rw [List.finRange_succ_last, List.foldl_append, List.foldl_map]
    simp only [List.foldl_cons, List.foldl_nil, Fin.val_castSucc, Fin.val_last]
    induction k using Fin.lastCases with
    | last =>
      rw [Fin.val_last, Nat.add_mul_div_right _ _ (Nat.pow_pos pos), Nat.div_eq_of_lt low, Nat.zero_add, Nat.mod_eq_of_lt (h _)]
    | cast k =>
      have split : v (Fin.last n) * base ^ n = base ^ k.val * (base * (v (Fin.last n) * base ^ (n - k.val - 1))) := by
        have e : base ^ n = base ^ k.val * (base * base ^ (n - k.val - 1)) := by
          rw [← Nat.pow_succ', ← Nat.pow_add]
          congr 1
          omega
        rw [e]
        ring
      rw [Fin.val_castSucc, split, Nat.add_mul_div_left _ _ (Nat.pow_pos pos), Nat.add_mul_mod_self_left]
      exact ih (v := fun i => v i.castSucc) (fun i => h _) k

end

/-- A fold over a range is one over its indices. -/
theorem foldl_range {α : Type} (n : Nat) (g : α → Nat → α) (a : α) :
    (List.range n).foldl g a = (List.finRange n).foldl (fun a i => g a i.val) a := by
  rw [← List.map_coe_finRange_eq_range, List.foldl_map]

/-- A digit depends on the lower part of the number alone. -/
theorem digit_of_mod {w v base n k : Nat} (h : w % base ^ n = v) (lt : k < n) : w / base ^ k % base = v / base ^ k % base := by
  obtain ⟨j, rfl⟩ : ∃ j, n = k + 1 + j := ⟨n - k - 1, by omega⟩
  rw [← h, Nat.pow_add, Nat.pow_succ, Nat.mul_assoc, Nat.mod_mul_right_div_self, Nat.mod_mod_of_dvd _ (Nat.dvd_mul_right _ _)]

/-- A bit of a field of a word. -/
theorem getLsbD_field {w : Word} {lo n k v : Nat} (h : w.toNat / 2 ^ lo % 2 ^ n = v) (lt : k < n) : w.getLsbD (lo + k) = v.testBit k := by
  rw [← h, Nat.testBit_mod_two_pow, Nat.testBit_div_two_pow, decide_eq_true lt, Bool.true_and, Nat.add_comm, BitVec.getLsbD]

theorem testBit_digit {v k : Nat} {b : Bool} (h : v / 2 ^ k % 2 = b.toNat) : v.testBit k = b := by
  rw [Nat.testBit_eq_decide_div_mod_eq, h]
  cases b <;> rfl

theorem bitAt_eq (b : Bool) (i : Nat) : bitAt b i = b.toNat * 2 ^ i := by cases b <;> simp [bitAt]

/-! ### STATUS -/

/-- A set of benches as a mask. -/
theorem foldl_mask (l : List BenchId) (m : Byte) (b : BenchId) :
    (l.foldl (fun m c => m ||| (1#8 <<< c.val)) m).getLsbD b.val = (m.getLsbD b.val || decide (b ∈ l)) := by
  induction l generalizing m with
  | nil => simp
  | cons c rest ih =>
    have one : ∀ b c : BenchId, (1#8 <<< c.val).getLsbD b.val = decide (b = c) := by decide
    rw [List.foldl_cons, ih, BitVec.getLsbD_or, one b c, Bool.or_assoc, ← Bool.decide_or]
    simp only [List.mem_cons]

theorem ownedMask_getLsbD (s : State) (x : TenantId) (b : BenchId) : (s.ownedMask x).getLsbD b.val = s.owns x b := by
  rw [State.ownedMask, foldl_mask, State.owned]
  simp

section
variable (s : State) (x : TenantId)

theorem ofNat_toNat {n : Nat} (h : n < 2 ^ 32) : (BitVec.ofNat 32 n).toNat = n := by
  rw [BitVec.toNat_ofNat, Nat.mod_eq_of_lt h]

theorem PartState.code_lt (p : PartState) : p.code < 16 := by cases p <;> decide

theorem statusBlock_word0 : ∀ w, w = (s.statusBlock x).getD 0 0 → w.toNat / 2 ^ 28 = s.power.state.code ∧ w.toNat / 2 ^ 26 % 4 = x.val ∧
    w.getLsbD 25 = !s.present x ∧ w.getLsbD 24 = s.straps.devel ∧ (∀ b : BenchId, w.getLsbD (16 + b.val) = s.owns x b) ∧
    w.toNat / 2 ^ 11 % 32 = 0 ∧ w.toNat / 2 ^ 8 % 8 = s.clock.plan.toNat / 2 ^ 13 % 8 ∧ w.toNat / 2 % 128 = 0 ∧
    w.getLsbD 0 = (s.tenant x).image.isSome := by
  rintro w rfl
  have code := s.power.state.code_lt
  have mask := (s.ownedMask x).isLt
  have plan : s.clock.plan.toNat / 2 ^ 13 % 8 < 8 := Nat.mod_lt _ (by decide)
  have hx := x.isLt
  have absent := Bool.toNat_lt (s.absent x)
  have devel := Bool.toNat_lt s.straps.devel
  have image := Bool.toNat_lt (s.tenant x).image.isSome
  have value : ((s.statusBlock x).getD 0 0).toNat = s.power.state.code * 2 ^ 28 + x.val * 2 ^ 26 + (s.absent x).toNat * 2 ^ 25 +
      s.straps.devel.toNat * 2 ^ 24 + (s.ownedMask x).toNat * 2 ^ 16 + s.clock.plan.toNat / 2 ^ 13 % 8 * 2 ^ 8 +
      (s.tenant x).image.isSome.toNat * 2 ^ 0 := by
    simp only [← bitAt_eq]
    refine ofNat_toNat ?_
    simp only [bitAt_eq]
    omega
  have bit {i : Nat} {b : Bool} (h : ((s.statusBlock x).getD 0 0).toNat / 2 ^ i % 2 = b.toNat) :
      ((s.statusBlock x).getD 0 0).getLsbD i = b := testBit_digit h
  refine ⟨by omega, by omega, bit (by rw [value]; simp only [State.absent] at *; omega), bit (by omega), fun b => ?_, by omega, by omega, by omega,
    bit (by omega)⟩
  rw [getLsbD_field (show _ % 2 ^ 8 = (s.ownedMask x).toNat by omega) b.isLt, BitVec.testBit_toNat, ownedMask_getLsbD]

theorem benchNibble_lt (b : BenchId) : s.benchNibble x b < 16 := by
  rw [State.benchNibble]
  split
  · cases (s.bench b).state <;> decide
  · decide

theorem statusBlock_word1 (b : BenchId) : ((s.statusBlock x).getD 1 0).toNat / 16 ^ b.val % 16 =
    if s.owns x b = true then (s.bench b).state.code else 15 := by
  rw [← State.benchNibble, ← foldl_digits_digit (benchNibble_lt s x) b]
  exact congrArg (· / 16 ^ b.val % 16) (ofNat_toNat (foldl_digits_lt (benchNibble_lt s x)))

theorem statusBlock_frame (n : Nat) (h : n = if s.clock.strobed then s.clock.frame else 0) :
    ((s.statusBlock x).getD 2 0).toNat = n / 2 ^ 32 % 2 ^ 32 ∧ ((s.statusBlock x).getD 3 0).toNat = n % 2 ^ 32 := by
  subst h
  exact ⟨BitVec.toNat_ofNat _ _, BitVec.toNat_ofNat _ _⟩

theorem TagState.code_lt (t : TagState) : t.code < 4 := by cases t <;> decide

theorem statusBlock_word4 (h : (s.tenant x).port.credits ≤ 8) : ∀ w, w = (s.statusBlock x).getD 4 0 →
    w.toNat / 2 ^ 20 = (if s.present x = true then (s.tenant x).port.credits else 0) ∧ w.toNat / 2 ^ 16 % 16 = 0 ∧
    ∀ i : Fin 8, w.toNat / 4 ^ i.val % 4 = ((s.tenant x).port.tags[i]).state.code := by
  rintro w rfl
  have credits : s.credits x = if s.present x = true then (s.tenant x).port.credits else 0 := by
    rw [State.credits, State.absent]
    cases s.present x <;> rfl
  have few : s.credits x ≤ 8 := by rw [credits]; split <;> omega
  have small (i : Fin 8) : (vget (s.tenant x).port.tags i.val HostTag.init).state.code < 4 := TagState.code_lt _
  have tags := foldl_digits_lt small
  have value : ((s.statusBlock x).getD 4 0).toNat = s.credits x * 2 ^ 20 +
      (List.finRange 8).foldl (fun a i => a + (vget (s.tenant x).port.tags i.val HostTag.init).state.code * 4 ^ i.val) 0 := by
    rw [← foldl_range 8 (fun a i => a + (vget (s.tenant x).port.tags i HostTag.init).state.code * 4 ^ i)]
    refine ofNat_toNat ?_
    rw [foldl_range]
    omega
  have low : ((s.statusBlock x).getD 4 0).toNat % 4 ^ 8 =
      (List.finRange 8).foldl (fun a i => a + (vget (s.tenant x).port.tags i.val HostTag.init).state.code * 4 ^ i.val) 0 := by
    omega
  refine ⟨by rw [← credits]; omega, by omega, fun i => ?_⟩
  rw [digit_of_mod low i.isLt, foldl_digits_digit small, vget, dif_pos i.isLt]
  rfl

theorem statusBlock_word6 : ∀ w, w = (s.statusBlock x).getD 6 0 → w.getLsbD 31 = decide (s.staging.holder = some x) ∧
    w.getLsbD 30 = (s.staging.holder.isSome && decide (s.staging.holder ≠ some x)) ∧ w.toNat / 2 ^ 24 % 64 = 0 ∧
    w.toNat / 2 ^ 16 % 256 = (s.tenant x).verifyCode.toNat ∧ w.toNat / 2 ^ 13 % 8 = 0 ∧
    w.toNat % 2 ^ 13 = if s.staging.holder = some x then s.staging.nextSeq.toNat else 0 := by
  rintro w rfl
  have code := (s.tenant x).verifyCode.isLt
  have mine := Bool.toNat_lt (s.staging.holder == some x)
  have other := Bool.toNat_lt (s.staging.holder.isSome && s.staging.holder != some x)
  have seq : (if s.staging.holder = some x then s.staging.nextSeq.toNat else 0) < 2 ^ 13 := by
    split
    · exact s.staging.nextSeq.isLt
    · decide
  have value : ((s.statusBlock x).getD 6 0).toNat = (s.staging.holder == some x).toNat * 2 ^ 31 +
      (s.staging.holder.isSome && s.staging.holder != some x).toNat * 2 ^ 30 + (s.tenant x).verifyCode.toNat * 2 ^ 16 +
      (if s.staging.holder = some x then s.staging.nextSeq.toNat else 0) := by
    simp only [← bitAt_eq]
    refine ofNat_toNat ?_
    simp only [bitAt_eq]
    omega
  have bit {i : Nat} {b : Bool} (h : ((s.statusBlock x).getD 6 0).toNat / 2 ^ i % 2 = b.toNat) :
      ((s.statusBlock x).getD 6 0).getLsbD i = b := testBit_digit h
  refine ⟨?_, ?_, by omega, by omega, by omega, by omega⟩
  · rw [← beq_eq_decide]
    exact bit (by omega)
  · rw [decide_not, ← beq_eq_decide]
    exact bit (by simp only [bne] at *; omega)

end

/-- STATUS answers the status block. -/
theorem exec_status {s : State} {x : TenantId} {f : HostFrame} (h : s.takes x f ⟨0x0, 0, Serves.status⟩ true) :
    exec (.status x f) s = .next (s.answers s x f (s.statusBlock x)) := next_of_takes (whole_of_takes h) rfl h

/-! ### POLL -/

/-- Whether the channel from the host to an owned bench is declared and has a flag. -/
def State.pollFlag (s : State) (x : TenantId) (p : BenchId → Channel → Bool) (b : BenchId) : Bool :=
  (s.declaredChannel (channelId (8 + x.val) b.val)).any (fun c => s.owns x b && p b c)

/-- Whether an owned bench has a notice for the host. -/
def State.postsHost (s : State) (x : TenantId) (b : BenchId) : Bool :=
  s.owns x b && (s.channel (channelId b.val (8 + x.val))).any (fun c => c.full)

section
variable (s : State) (x : TenantId)

theorem pollByte_eq (p : BenchId → Channel → Bool) :
    s.pollByte x p = (List.finRange 8).foldl (fun m b => m + (s.pollFlag x p b).toNat * 2 ^ b.val) 0 := by
  rw [State.pollByte]
  congr 1
  funext m b
  rw [State.pollFlag]
  cases s.declaredChannel (channelId (8 + x.val) b.val) with
  | none => simp
  | some c => rw [Option.any_some, ← bitAt_eq]

theorem pollByte_lt (p : BenchId → Channel → Bool) : s.pollByte x p < 2 ^ 8 := by
  rw [pollByte_eq]
  exact foldl_digits_lt (fun b => Bool.toNat_lt _)

theorem pollByte_testBit (p : BenchId → Channel → Bool) (b : BenchId) : (s.pollByte x p).testBit b.val = s.pollFlag x p b := by
  rw [pollByte_eq]
  exact testBit_digit (foldl_digits_digit (fun b => Bool.toNat_lt _) b)

/-- The four flag bytes of POLL word 0. -/
theorem pollWords_word0 (b : BenchId) :
    ((s.pollWords x).getD 0 0).getLsbD (24 + b.val) = s.pollFlag x (fun b _ => s.benchAbsent b) b ∧
    ((s.pollWords x).getD 0 0).getLsbD (16 + b.val) = s.pollFlag x (fun _ c => c.timedOut) b ∧
    ((s.pollWords x).getD 0 0).getLsbD (8 + b.val) = s.pollFlag x (fun _ c => c.done) b ∧
    ((s.pollWords x).getD 0 0).getLsbD b.val = s.pollFlag x (fun _ c => c.full) b := by
  have absent := pollByte_lt s x (fun b _ => s.benchAbsent b)
  have timedOut := pollByte_lt s x (fun _ c => c.timedOut)
  have done := pollByte_lt s x (fun _ c => c.done)
  have full := pollByte_lt s x (fun _ c => c.full)
  have value : ((s.pollWords x).getD 0 0).toNat = s.pollByte x (fun b _ => s.benchAbsent b) * 2 ^ 24 +
      s.pollByte x (fun _ c => c.timedOut) * 2 ^ 16 + s.pollByte x (fun _ c => c.done) * 2 ^ 8 + s.pollByte x (fun _ c => c.full) :=
    ofNat_toNat (by omega)
  have bit {lo : Nat} {p : BenchId → Channel → Bool} (h : ((s.pollWords x).getD 0 0).toNat / 2 ^ lo % 2 ^ 8 = s.pollByte x p) :
      ((s.pollWords x).getD 0 0).getLsbD (lo + b.val) = s.pollFlag x p b := by
    rw [getLsbD_field h b.isLt, pollByte_testBit]
  refine ⟨bit (by omega), bit (by omega), bit (by omega), ?_⟩
  rw [← Nat.zero_add b.val]
  exact bit (by omega)

theorem pollWords_word1 : ((s.pollWords x).getD 1 0).toNat < 256 ∧ ∀ b : BenchId, ((s.pollWords x).getD 1 0).getLsbD b.val =
    s.postsHost x b := by
  have low := foldl_digits_lt (n := 8) (base := 2) (v := fun b => (s.postsHost x b).toNat) (fun b => Bool.toNat_lt _)
  have value : ((s.pollWords x).getD 1 0).toNat = (List.finRange 8).foldl (fun m b => m + (s.postsHost x b).toNat * 2 ^ b.val) 0 := by
    refine Eq.trans ?_ (ofNat_toNat (low.trans (by decide)))
    simp only [← bitAt_eq]
    rfl
  refine ⟨value ▸ low, fun b => ?_⟩
  rw [BitVec.getLsbD, value]
  exact testBit_digit (foldl_digits_digit (v := fun b => (s.postsHost x b).toNat) (fun b => Bool.toNat_lt _) b)

/-- The return codes stand by two in the words behind. -/
theorem pollWords_code (b : BenchId) : ((s.pollWords x).getD (2 + b.val / 2) 0).toNat / 2 ^ (16 * (b.val % 2)) % 2 ^ 16 =
    (s.pollCode x b.val).toNat := by
  have pair (hi lo : Half) : (halves hi lo).toNat = hi.toNat * 2 ^ 16 + lo.toNat := by
    rw [halves, BitVec.toNat_append, ← Nat.shiftLeft_add_eq_or_of_lt lo.isLt, Nat.shiftLeft_eq]
  have word (i : Nat) (h : i < 4) : (s.pollWords x).getD (2 + i) 0 = halves (s.pollCode x (2 * i + 1)) (s.pollCode x (2 * i)) := by
    interval_cases i <;> rfl
  have hb := b.isLt
  have hi := (s.pollCode x (2 * (b.val / 2) + 1)).isLt
  have lo := (s.pollCode x (2 * (b.val / 2))).isLt
  rw [word _ (by omega), pair]
  rcases Nat.mod_two_eq_zero_or_one b.val with r | r
  · rw [r, ← show 2 * (b.val / 2) = b.val by omega, show 2 * (b.val / 2) / 2 = b.val / 2 by omega]
    omega
  · rw [r, ← show 2 * (b.val / 2) + 1 = b.val by omega, show (2 * (b.val / 2) + 1) / 2 = b.val / 2 by omega]
    omega

end

/-- POLL answers its words. -/
theorem exec_poll {s : State} {x : TenantId} {f : HostFrame} (h : s.takes x f ⟨0x6, 0, Serves.tenant⟩ true) :
    exec (.poll x f) s = .next (s.answers s x f (s.pollWords x)) := next_of_takes (whole_of_takes h) rfl h

section
variable {s : State} {x : TenantId} {b : BenchId}

theorem declaredChannel_of {i : Nat} {c : Channel} (hc : s.channel i = some c) (declared : c.declared = true) :
    s.declaredChannel i = some c := by
  simp [State.declaredChannel, hc, declared]

theorem declaredChannel_none {i : Nat} (h : ∀ c, s.channel i = some c → c.declared = false) : s.declaredChannel i = none := by
  rw [State.declaredChannel]
  cases hc : s.channel i with
  | none => rfl
  | some c => simp [h c hc]

theorem pollFlag_of {c : Channel} (own : s.owns x b = true) (hc : s.channel (channelId (8 + x.val) b.val) = some c)
    (declared : c.declared = true) (p : BenchId → Channel → Bool) : s.pollFlag x p b = p b c := by
  simp [State.pollFlag, declaredChannel_of hc declared, own]

/-- A bench that is not the tenant's, or has no declared channel, shows no flag and the code 0. -/
theorem pollFlag_none (h : s.owns x b = false ∨ ∀ c, s.channel (channelId (8 + x.val) b.val) = some c → c.declared = false)
    (p : BenchId → Channel → Bool) : s.pollFlag x p b = false := by
  rw [State.pollFlag]
  rcases h with h | h
  · simp [h]
  · rw [declaredChannel_none h]
    rfl

theorem benchOf_val (b : BenchId) : benchOf b.val = b := Fin.ext (Nat.mod_eq_of_lt b.isLt)

theorem pollCode_of {c : Channel} (own : s.owns x b = true) (hc : s.channel (channelId (8 + x.val) b.val) = some c)
    (declared : c.declared = true) : s.pollCode x b.val = c.code := by
  simp [State.pollCode, declaredChannel_of hc declared, benchOf_val, own]

theorem pollCode_none (h : s.owns x b = false ∨ ∀ c, s.channel (channelId (8 + x.val) b.val) = some c → c.declared = false) :
    s.pollCode x b.val = 0 := by
  rw [State.pollCode]
  rcases h with h | h
  · simp only [benchOf_val, h, Bool.false_eq_true, if_false]
    split <;> rfl
  · rw [declaredChannel_none h]

end

/-! ### RESULT -/

theorem vmod_getElem {α : Type} {n : Nat} (v : Vector α n) (i : Nat) (f : α → α) (j : Fin n) :
    (vmod v i f)[j] = if j.val = i then f v[j] else v[j] := by
  unfold vmod
  split
  · rw [Fin.getElem_fin, Vector.getElem_set]
    simp only [eq_comm (a := i)]
    split
    · next h => subst h; rfl
    · rfl
  · rw [if_neg (by omega)]

/-- One slot that a CONSUME read. -/
def Bench.consumeSlot (x : Bench) (first : Nat) (q : Half × Nat) : Bench :=
  { x with results := vmod x.results (first + q.2) (fun r => { r with fresh := r.fresh && decide (r.seq ≠ q.1) }) }

theorem consumeSlots_eq (x : Bench) (first : Nat) (qs : List (Half × Nat)) :
    qs.foldl (fun x q => x.consumeSlot first q) x = { x with results := (qs.foldl (fun x q => x.consumeSlot first q) x).results } := by
  induction qs generalizing x with
  | nil => rfl
  | cons q rest ih => rw [List.foldl_cons, ih]; rfl

/-- What a CONSUME leaves of each slot, for sequences carried from place `k` on. -/
theorem consumeSlots_results (x : Bench) (first k : Nat) (carried : List Half) (i : Fin 64) :
    ((carried.zipIdx k).foldl (fun x q => x.consumeSlot first q) x).results[i] =
      if first + k ≤ i.val ∧ i.val < first + k + carried.length ∧ carried.getD (i.val - (first + k)) 0 = (x.results[i]).seq then
        { x.results[i] with fresh := false }
      else x.results[i] := by
  induction carried generalizing x k with
  | nil => rw [List.zipIdx_nil, List.foldl_nil, if_neg (by simp only [List.length_nil]; omega)]
  | cons a rest ih =>
    have slot : (x.consumeSlot first (a, k)).results[i] = if i.val = first + k then
        { x.results[i] with fresh := (x.results[i]).fresh && decide ((x.results[i]).seq ≠ a) } else x.results[i] := vmod_getElem ..
    rw [List.zipIdx_cons, List.foldl_cons, ih, slot]
    rcases Nat.lt_trichotomy i.val (first + k) with e | e | e
    · rw [if_neg (by omega), if_neg (by omega), if_neg (by omega)]
    · rw [if_neg (by omega), if_pos e]
      simp only [e, Nat.sub_self, List.getD_cons_zero, List.length_cons, le_refl, true_and, show first + k < first + k + (rest.length + 1) by omega]
      by_cases same : a = (x.results[i]).seq
      · rw [if_pos same]
        simp [same]
      · rw [if_neg same, decide_eq_true (Ne.symm same : (x.results[i]).seq ≠ a), Bool.and_true]
    · simp only [if_neg (show ¬i.val = first + k by omega)]
      obtain ⟨j, hj⟩ : ∃ j, i.val - (first + k) = j + 1 := ⟨i.val - (first + k) - 1, by omega⟩
      rw [show i.val - (first + (k + 1)) = j by omega, hj, List.getD_cons_succ, List.length_cons]
      simp only [show first + (k + 1) ≤ i.val ↔ first + k ≤ i.val by omega,
        show i.val < first + (k + 1) + rest.length ↔ i.val < first + k + (rest.length + 1) by omega]

/-- RESULT, by whether the tenant owns the bench and its slots stand within the 64. -/
theorem exec_result {s : State} {x : TenantId} {f : HostFrame} (h : s.takes x f ⟨0xa, 0, Serves.tenant⟩ true) (seen : List (Option SlotSeen)) :
    exec (.result x f seen) s = .next (s.settles x f
      (if s.owns x (benchOf (f.bits 24 3)) = false then s.refuse 0x08
       else if 64 < f.bits 8 6 + (f.bits 0 4 + 1) then s.refuse 0x06
       else (if f.h1.getLsbD 31 then s.modBench (benchOf (f.bits 24 3)) (fun y => y.consume (f.bits 8 6)
            (((List.range (f.bits 0 4 + 1)).map (s.repliedSlot (benchOf (f.bits 24 3)) (f.bits 8 6) seen)).map (·.seq))) else s).accept
          (((List.range (f.bits 0 4 + 1)).map (s.repliedSlot (benchOf (f.bits 24 3)) (f.bits 8 6) seen)).flatMap
            (s.resultWords (benchOf (f.bits 24 3)))))) :=
  next_of_takes (whole_of_takes h) rfl h

/-- The second word of a slot: its sequence, STALE and FRESH. -/
theorem resultWords_eq (s : State) (b : BenchId) (r : ResultSlot) : s.resultWords b r = [r.value, r.seq ++
    ((if r.seq = 0 ∨ (s.bench b).active = false then 2#16 else 0#16) + (if r.fresh = true then 1#16 else 0#16))] := by
  rw [State.resultWords, halves, Bench.stale]
  by_cases old : r.seq = 0 ∨ (s.bench b).active = false
  · have stale : (decide (r.seq = 0) || !(s.bench b).active) = true := by simpa using old
    rw [if_pos old, stale]
    cases r.fresh <;> rfl
  · have stale : (decide (r.seq = 0) || !(s.bench b).active) = false := by simpa using old
    rw [if_neg old, stale]
    cases r.fresh <;> rfl

/-- A RESULT with its slots in range. -/
theorem resultRead {x : TenantId} {f : HostFrame} {s : State} {b : BenchId} {first n : Nat} {seen : List (Option SlotSeen)}
    (h : s.takes x f ⟨0xa, 0, Serves.tenant⟩ true) (hb : b = benchOf (f.bits 24 3)) (hf : first = f.bits 8 6) (hn : n = f.bits 0 4 + 1)
    (own : s.owns x b = true) (range : first + n ≤ 64) {carried : Nat → ResultSlot} {ws : List Word}
    (hc : ∀ i, carried i = match seen.getD (i - first) none with
      | some q => { value := q.value, seq := q.seq, fresh := q.fresh }
      | none => if s.declaresSlot b i = true then vget (s.bench b).results i ⟨0, 0, false⟩ else ⟨0, 0, false⟩)
    (hw : ws = (List.range n).flatMap (fun k => [(carried (first + k)).value, (carried (first + k)).seq ++
      ((if (carried (first + k)).seq = 0 ∨ (s.bench b).active = false then 2#16 else 0#16) +
        (if (carried (first + k)).fresh = true then 1#16 else 0#16))])) :
    exec (.result x f seen) s = .next (s.answers (if f.h1.getLsbD 31 then s.modBench b (fun y => y.consume first
      ((List.range n).map (fun k => (carried (first + k)).seq))) else s) x f ws) := by
  have slot (k : Nat) : s.repliedSlot b first seen k = carried (first + k) := by
    rw [hc, Nat.add_sub_cancel_left, State.repliedSlot]
    cases seen.getD k none <;> rfl
  subst hb hf hn
  rw [exec_result h, if_neg (by simp [own]), if_neg (by omega), settles_accept, List.map_map, List.flatMap_map, hw]
  simp only [resultWords_eq, slot]
  congr 4
  funext y
  simp [Function.comp_def, slot]

/-- Settles O34: the words of each op, the first two by their digits. -/
theorem portReads : Obligations.PortReads := by
  intro x f s
  refine ⟨fun h => ?_, fun h => ?_, fun h e he => ?_, fun h sub => ?_, fun h b first n hb hf hn seen => ?_⟩
  · exact ⟨_, exec_status h, rfl, statusBlock_word0 s x, statusBlock_word1 s x, statusBlock_frame s x, statusBlock_word4 s x, rfl,
      statusBlock_word6 s x, rfl⟩
  · obtain ⟨low, asked⟩ := pollWords_word1 s x
    refine ⟨_, exec_poll h, rfl, fun b c own hc declared => ?_, fun b none => ?_, low, asked⟩
    all_goals
      obtain ⟨w3, w2, w1, w0⟩ := pollWords_word0 s x b
      rw [pollWords_code]
    · rw [pollFlag_of own hc declared] at w3 w2 w1 w0
      exact ⟨w3, w2, w1, w0, by rw [pollCode_of own hc declared]⟩
    · rw [pollFlag_none none] at w3 w2 w1 w0
      refine ⟨fun k => ?_, by rw [pollCode_none none]; rfl⟩
      fin_cases k
      · simpa using w0
      · exact w1
      · exact w2
      · exact w3
  · subst he
    exact next_of_takes (whole_of_takes h) rfl h
  · exact next_of_takes (spells_of_takes h sub) (decide_eq_false (by omega)) h
  · refine ⟨fun foreign => ?_, fun own beyond => ?_, fun own range carried ws hc hw => ⟨fun keep => ?_, fun consume => ?_⟩⟩
    · subst hb
      rw [exec_result h, if_pos foreign, settles_refuse (by decide)]
    · subst hb hf hn
      rw [exec_result h, if_neg (by simp [own]), if_pos beyond, settles_refuse (by decide)]
    · rw [resultRead h hb hf hn own range hc hw, if_neg (ne_true_of_eq_false keep)]
    · refine ⟨_, resultRead h hb hf hn own range hc hw, ?_⟩
      rw [if_pos consume]
      refine ⟨rfl, fun c hne => State.modBench_bench_of_ne s _ hne, ?_, fun i => ?_⟩
      · rw [State.modBench_bench_self]
        exact consumeSlots_eq _ _ _
      · rw [State.modBench_bench_self]
        refine (consumeSlots_results (s.bench b) first 0 _ i).trans ?_
        rw [Nat.add_zero, List.length_map, List.length_range]
        by_cases read : first ≤ i.val ∧ i.val < first + n
        · obtain ⟨j, hj, e⟩ : ∃ j, j < n ∧ i.val = first + j := ⟨i.val - first, by omega, by omega⟩
          have seq : ((List.range n).map (fun k => (carried (first + k)).seq)).getD (i.val - first) 0 = (carried i.val).seq := by
            simp [e, hj]
          rw [seq]
        · rw [if_neg (fun h => read ⟨h.1, h.2.1⟩), if_neg (fun h => read ⟨h.1, h.2.1⟩)]

end Sys2Proof.Machine
end

section
/-! SUPPORT. What the operations on benches at a strobe leave as it was, and START, plan switches and stretch cycles. -/
namespace Sys2Proof.Machine

/-! ### Frames of a bench's state changes -/

theorem raise_eq_tenants (s : State) (x : TenantId) (n : Nat) : s.raise x n = { s with tenants := (s.raise x n).tenants } := by
  rw [State.raise]
  split <;> rfl

theorem raiseOwner_eq_tenants (s : State) (b : BenchId) (n : Nat) : s.raiseOwner b n = { s with tenants := (s.raiseOwner b n).tenants } := by
  rw [State.raiseOwner]
  split
  · exact raise_eq_tenants ..
  · rfl

theorem setBenchState_eq (s : State) (b : BenchId) (st : BenchState) : s.setBenchState b st =
    { s with benches := (s.setBenchState b st).benches, tenants := (s.setBenchState b st).tenants } := by
  rw [State.setBenchState]
  split
  · rw [raiseOwner_eq_tenants]
    rfl
  · rfl

theorem setBenchState_bench (s : State) (b c : BenchId) (st : BenchState) :
    (s.setBenchState b st).bench c = if c = b then { s.bench c with state := st } else s.bench c := by
  have e : (s.setBenchState b st).bench c = (s.modBench b (fun x => { x with state := st })).bench c := by
    rw [State.setBenchState]
    split
    · exact State.raiseOwner_bench ..
    · rfl
  rw [e]
  by_cases h : c = b
  · subst h
    rw [State.modBench_bench_self, if_pos rfl]
  · rw [State.modBench_bench_of_ne s _ h, if_neg h]

/-! ### Release conditions judged -/

theorem judgeBench_eq (s : State) (b : BenchId) : s.judgeBench b = { s with benches := (s.judgeBench b).benches } := by
  rw [State.judgeBench]
  split <;> rfl

/-- A condition judged changes whether it is met, and no more. -/
theorem judgeBench_bench (s : State) (b c : BenchId) :
    (s.judgeBench b).bench c = { s.bench c with met := ((s.judgeBench b).bench c).met } := by
  rw [State.judgeBench]
  split
  · by_cases h : c = b
    · subst h
      rw [State.modBench_bench_self]
    · rw [State.modBench_bench_of_ne s _ h]
  · rfl

/-- A bench that is not ARMED has no condition to judge, and one that is met stays met. -/
theorem judgeBench_bench_of (s : State) (b c : BenchId) (h : (s.bench c).state ≠ .armed ∨ (s.bench c).met.isSome = true) :
    (s.judgeBench b).bench c = s.bench c := by
  rw [State.judgeBench]
  split
  · next judged =>
    obtain ⟨armed, unmet, -⟩ := judged
    refine State.modBench_bench_of_ne s _ ?_
    rintro rfl
    rcases h with h | h
    · exact h armed
    · simp [unmet] at h
  · rfl

theorem judgeAll_eq (s : State) (bs : List BenchId) : bs.foldl State.judgeBench s = { s with benches := (bs.foldl State.judgeBench s).benches } := by
  induction bs generalizing s with
  | nil => rfl
  | cons b rest ih => rw [List.foldl_cons, ih, judgeBench_eq]

theorem judgeReleases_eq (s : State) : s.judgeReleases = { s with benches := s.judgeReleases.benches } := judgeAll_eq s _

theorem judgeReleases_bench (s : State) (c : BenchId) : s.judgeReleases.bench c = { s.bench c with met := (s.judgeReleases.bench c).met } := by
  have fold (bs : List BenchId) (s : State) :
      (bs.foldl State.judgeBench s).bench c = { s.bench c with met := ((bs.foldl State.judgeBench s).bench c).met } := by
    induction bs generalizing s with
    | nil => rfl
    | cons b rest ih =>
      rw [List.foldl_cons, ih, judgeBench_bench]
  exact fold _ s

theorem judgeReleases_bench_of (s : State) (c : BenchId) (h : (s.bench c).state ≠ .armed) : s.judgeReleases.bench c = s.bench c := by
  have fold (bs : List BenchId) (s : State) (h : (s.bench c).state ≠ .armed) : (bs.foldl State.judgeBench s).bench c = s.bench c := by
    induction bs generalizing s with
    | nil => rfl
    | cons b rest ih =>
      have e := judgeBench_bench_of s b c (.inl h)
      rw [List.foldl_cons, ih _ (e ▸ h), e]
  exact fold _ s h

/-! ### The period that begins -/

/-- A bench at the beginning of a period. -/
def Bench.begin (x : Bench) (first : Bool) (frame cycles vector before : Nat) (v : InputView) : Bench :=
  { x with
    pulses := x.pulses.map (fun t => t.latch frame (if first then none else some x.seq.start))
    view := v, stage := Stage.empty, p := setBit8 x.p 7 false
    coefs := { x.coefs with view := x.coefs.inForce }
    status := { x.status with periods := x.status.periods + 1 }
    lines := x.lines.map (fun l => { l with fresh := false })
    seq := { x.seq with
      vector := vector, issued := 0, before := before, start := frame, due := frame + x.seq.divisor, granted := cycles, stretch := 0 } }

theorem beginPeriod_eq (s : State) (b : BenchId) (first : Bool) (vector before : Nat) :
    s.beginPeriod b first vector before =
      s.modBench b (fun x => x.begin first s.clock.frame s.benchCycles vector before (s.latchView b first)) := rfl

/-! ### A release -/

@[simp] theorem State.modCells_bench (s : State) (cs : List Nat) (f : OwnCell → OwnCell) (c : BenchId) :
    (s.modCells cs f).bench c = s.bench c := rfl

/-- The state at a release, before its period begins. -/
def State.entering (s : State) (b : BenchId) : State :=
  ((s.modBench b (fun y => y.clear (fun c => (s.chan c).entering) s.clock.frame)).modCells (s.benchCells b)
    (fun _ => ⟨none, none⟩)).setBenchState b .running

theorem entering_eq (s : State) (b : BenchId) : s.entering b = { s with
    benches := (s.entering b).benches, tenants := (s.entering b).tenants
    ring := (s.benchCells b).foldl (fun r c => r.modOwn c (fun _ => ⟨none, none⟩)) s.ring } := by
  rw [State.entering, setBenchState_eq]
  rfl

theorem entering_bench (s : State) (b c : BenchId) : (s.entering b).bench c =
    if c = b then { (s.bench b).clear (fun c => (s.chan c).entering) s.clock.frame with state := .running } else s.bench c := by
  rw [State.entering, setBenchState_bench, State.modCells_bench]
  by_cases h : c = b
  · subst h
    rw [if_pos rfl, if_pos rfl, State.modBench_bench_self]
  · rw [if_neg h, if_neg h, State.modBench_bench_of_ne s _ h]

/-- The state after a release, of a bench whose condition has been judged. -/
def State.released (s : State) (b : BenchId) : State :=
  ((s.entering b).beginPeriod b true (s.bench b).seq.prologue ((s.bench b).seq.before + (s.bench b).seq.length)).judgeReleases

/-- A bench whose condition is met, or now met, is released where its divisor has the strobe. -/
theorem benchRelease_eq {s u : State} {b : BenchId} (judged : s.judgeBench b = u) (run : u.running = true) (strobed : u.clock.strobed = true)
    (armed : (u.bench b).state = .armed) (met : (u.bench b).met.isSome = true) (slot : u.align % (u.bench b).seq.divisor = 0) :
    s.benchRelease b = u.released b := by
  subst judged
  exact if_pos ⟨run, strobed, armed, met, slot⟩

/-- A condition that is met needs no more judging. -/
theorem judgeBench_met {s : State} {b : BenchId} (met : (s.bench b).met.isSome = true) : s.judgeBench b = s := by
  rw [State.judgeBench, if_neg]
  rintro ⟨-, unmet, -⟩
  simp [unmet] at met

theorem released_running (s : State) (b : BenchId) : ((s.released b).bench b).state = .running := by
  rw [State.released, judgeReleases_bench, beginPeriod_eq, State.modBench_bench_self, entering_bench, if_pos rfl]
  rfl

/-- A bench whose condition holds at this strobe is released at it. -/
theorem benchRelease_holds {s : State} {b : BenchId} {c : ReleaseCond} (run : s.running = true) (strobed : s.clock.strobed = true)
    (armed : (s.bench b).state = .armed) (cond : s.releaseCond b = some c) (holds : s.condHolds b c = true)
    (slot : s.align % (s.bench b).seq.divisor = 0) : ((s.benchRelease b).bench b).state = .running := by
  have met : ((s.judgeBench b).bench b).met.isSome = true := by
    cases h : (s.bench b).met with
    | some n => rw [judgeBench_met (by rw [h]; rfl), h]; rfl
    | none => rw [State.judgeBench, if_pos ⟨armed, h, by simp [cond, holds]⟩, State.modBench_bench_self]; rfl
  have run : (s.judgeBench b).running = true := by rw [judgeBench_eq]; exact run
  have strobed : (s.judgeBench b).clock.strobed = true := by rw [judgeBench_eq]; exact strobed
  have align : (s.judgeBench b).align = s.align := by rw [judgeBench_eq]; rfl
  have armed : ((s.judgeBench b).bench b).state = .armed := by rw [judgeBench_bench]; exact armed
  have seq : ((s.judgeBench b).bench b).seq = (s.bench b).seq := by rw [judgeBench_bench]
  rw [benchRelease_eq rfl run strobed armed met (by rw [align, seq]; exact slot)]
  exact released_running _ b

/-! ### START -/

/-- A fold of changes of the audio ports changes the audio ports. -/
theorem foldl_audio {α : Type} {g : State → α → State} (h : ∀ s a, g s a = { s with audio := (g s a).audio }) (s : State) (l : List α) :
    l.foldl g s = { s with audio := (l.foldl g s).audio } := by
  induction l generalizing s with
  | nil => rfl
  | cons a rest ih => rw [List.foldl_cons, ih, h]

theorem startPorts_eq (s : State) (f : Nat) : s.startPorts f = { s with audio := (s.startPorts f).audio } := by
  refine foldl_audio (fun s p => ?_) s _
  dsimp only
  split <;> rfl

theorem inputLevel_low_iff (p : PinInput) : p.level = .low ↔ 10 * p.mv.getD 0 ≤ 3 * p.vddIo := pinLevel_low_iff

theorem recognise_sure {s : State} {ns never sure : Nat} (h : sure ≤ ns) : s.recognise ns never sure = (true, s) := if_pos h

theorem recognise_never {s : State} {ns never sure : Nat} (h : ns < never) (le : never ≤ sure) : s.recognise ns never sure = (false, s) :=
  (if_neg (by omega)).trans (if_pos h)

/-- A rising edge of START that is recognised. -/
theorem startEdge_taken {s : State} {p q : PinInput} {low high : Nat} (run : s.running = true) (strobed : s.clock.strobed = true)
    (before : 10 * p.mv.getD 0 ≤ 3 * p.vddIo) (after : 3 * q.vddIo < 10 * q.mv.getD 0) (hl : 1000 ≤ low) (hh : 1000 ≤ high) :
    s.startEdge p low q high = s.takeStart := by
  rw [State.startEdge, if_pos ⟨run, strobed, (inputLevel_low_iff p).mpr before, fun h => absurd ((inputLevel_low_iff q).mp h) (by omega)⟩,
    recognise_sure (by omega)]
  rfl

theorem startEdge_none {s : State} {p q : PinInput} {low high : Nat}
    (h : 3 * p.vddIo < 10 * p.mv.getD 0 ∨ 10 * q.mv.getD 0 ≤ 3 * q.vddIo ∨ low < 200 ∨ high < 200) : s.startEdge p low q high = s := by
  rw [State.startEdge]
  split
  · next edge =>
    obtain ⟨-, -, before, after⟩ := edge
    have before := (inputLevel_low_iff p).mp before
    have after := mt (inputLevel_low_iff q).mpr after
    rw [recognise_never (by omega) (by decide)]
    rfl
  · rfl

theorem isMaster_isStandalone {s : State} (h : s.isMaster = true) : s.isStandalone = false := by
  simp only [State.isMaster, State.isStandalone, Bool.and_eq_true, decide_eq_true_eq, Bool.or_eq_false_iff, decide_eq_false_iff_not] at *
  constructor <;> intro e <;> simp [e] at h

theorem isMember_alone {s : State} (h : s.isMember = true) : s.isStandalone = false ∧ s.isMaster = false := by
  simp only [State.isMember, State.isMaster, State.isStandalone, Bool.and_eq_true, decide_eq_true_eq, Bool.or_eq_false_iff,
    decide_eq_false_iff_not, Bool.and_eq_false_iff] at *
  refine ⟨⟨?_, ?_⟩, by omega⟩ <;> intro e <;> simp [e] at h

/-! ### Plan switches -/

theorem planSwitch_load {s : State} {p : PendingPlan} (run : s.running = true) (strobed : s.clock.strobed = true)
    (pending : s.clock.pending = some p) (due : p.e + 1 ≤ s.clock.frame) (all : ∀ b ∈ s.counted, (s.bench b).seq.start = s.clock.frame) :
    s.planSwitch = { s.loadPlan p.word with clock := { (s.loadPlan p.word).clock with pending := none } } := by
  rw [State.planSwitch, pending]
  exact if_pos ⟨run, strobed, due, by simpa using all⟩

theorem planSwitch_wait {s : State} (h : ∃ b ∈ s.counted, (s.bench b).seq.start ≠ s.clock.frame) : s.planSwitch = s := by
  rw [State.planSwitch]
  split
  · rfl
  · refine if_neg ?_
    rintro ⟨-, -, -, all⟩
    obtain ⟨b, hb, ne⟩ := h
    exact ne (of_decide_eq_true (List.all_eq_true.mp all b hb))

theorem loadPlan_bench (s : State) (w : Word) (b : BenchId) : (s.loadPlan w).bench b = if (s.bench b).active = true
    then { s.bench b with seq := { (s.bench b).seq with granted := (s.bench b).seq.granted - s.benchCycles + (s.loadPlan w).benchCycles } }
    else s.bench b := by
  rw [State.bench, State.loadPlan]
  dsimp only
  rw [Fin.getElem_fin, Vector.getElem_map]
  rfl

/-! ### Stretch cycles -/

/-- Settles O42: each command where it takes effect. -/
theorem startPlanStretch : Obligations.StartPlanStretch := by
  refine ⟨fun p q low high s run strobed => ⟨fun before after hl hh => ?start, fun none => ?noStart⟩,
    fun b s run strobed alone armed cond now slot => ?released, fun s p run strobed pending due => ⟨fun all => ?load, fun some => ?wait⟩,
    fun b mv cycle s _ => ⟨fun droop run active window toggle => ?withheld, fun high => ?granted⟩⟩
  case start =>
    have taken : exec (.startEdge p low q high) s = .next s.takeStart :=
      congrArg Host.Outcome.next (startEdge_taken run strobed before after hl hh)
    refine ⟨fun alone => ⟨_, taken, ?_⟩, fun master free => ⟨_, taken, ?_⟩, fun member => taken.trans (congrArg _ ?_)⟩
    · rw [State.takeStart, if_pos alone, startPorts_eq]
    · rw [State.takeStart, if_neg (by simp [isMaster_isStandalone master]), if_pos ⟨master, free⟩, startPorts_eq]
    · obtain ⟨alone, master⟩ := isMember_alone member
      rw [State.takeStart, if_neg (by simp [alone]), if_neg (by simp [master])]
  case noStart => exact congrArg Host.Outcome.next (startEdge_none none)
  case released =>
    refine ⟨_, rfl, benchRelease_holds run strobed armed cond ?_ slot⟩
    simp [State.condHolds, alone, now]
  case load =>
    refine ⟨_, congrArg Host.Outcome.next (planSwitch_load run strobed pending due all), rfl, loadPlan_bench s p.word⟩
  case wait => exact congrArg Host.Outcome.next (planSwitch_wait some)
  case withheld =>
    refine congrArg Host.Outcome.next ?_
    rw [State.stretchCycle, if_pos ⟨run, active, window, toggle⟩, State.droops, if_pos droop]
    rfl
  case granted =>
    refine congrArg Host.Outcome.next ?_
    have above : s.droops mv = (false, s) := (if_neg (by omega)).trans (if_pos high)
    rw [State.stretchCycle, above]
    split <;> rfl

end Sys2Proof.Machine
end

section
/-! SUPPORT. Tenant reset. -/
namespace Sys2Proof.Machine

/-! ### TRST_N_x -/

theorem modTenant_congr {s : State} {x : TenantId} {g h : Tenant → Tenant} (e : g (s.tenant x) = h (s.tenant x)) :
    s.modTenant x g = s.modTenant x h := by
  have e : g s.tenants[x] = h s.tenants[x] := e
  rw [State.modTenant, State.modTenant, e]

theorem trstNLow_ignored {x : TenantId} {l : PinInput} {ns : Nat} {s : State} (h : ns < 200 ∨ l.level = .high) : s.trstNLow x l ns = s := by
  rw [State.trstNLow]
  split
  · rfl
  · next judged =>
    rw [recognise_never (h.resolve_right fun e => judged (.inl e)) (by decide)]
    rfl

theorem trstNLow_asserts {x : TenantId} {l : PinInput} {ns : Nat} {s : State} (long : 1000 ≤ ns) (low : l.level ≠ .high)
    (up : s.power.state ≠ .por) (new : (s.tenant x).asserted = false) : s.trstNLow x l ns = s.modTenant x (fun y => { y with
      trstLow := decide (l.level = .low), holdDue := some (y.holdDue.getD s.nextFrame), lowFrame := s.nextFrame, releaseDue := none }) := by
  rw [State.trstNLow, if_neg (not_or.mpr ⟨low, up⟩), recognise_sure long]
  dsimp only
  rw [if_pos rfl]
  refine modTenant_congr ?_
  exact if_neg (ne_true_of_eq_false new)

theorem trstNHigh_releases {x : TenantId} {l : PinInput} {ns : Nat} {s : State} (long : 1000 ≤ ns) (high : l.level = .high)
    (up : s.power.state ≠ .por) (held : (s.tenant x).asserted = true) : s.trstNHigh x l ns = s.modTenant x (fun y => { y with
      trstLow := false, releaseDue := some (max s.nextFrame (y.lowFrame + 1)) }) := by
  rw [State.trstNHigh, if_neg (by simp [high, up, held]), recognise_sure long]
  rfl

theorem trstNHigh_ignored {x : TenantId} {l : PinInput} {ns : Nat} {s : State} (h : ns < 200 ∨ l.level ≠ .high) : s.trstNHigh x l ns = s := by
  rw [State.trstNHigh]
  split
  · rfl
  · next judged =>
    rw [recognise_never (h.resolve_right fun e => judged (.inl e)) (by decide)]
    rfl

/-! ### What a tenant reset keeps -/

/-- The straps, OTP, the part state and the pit's words. -/
def State.kept (s : State) : Straps × Otp × Power × Sparse (Option (BitVec 39)) := (s.straps, s.otp, s.power, s.pit.mem)

theorem foldl_keeps {σ α β : Type} {g : σ → α → σ} {f : σ → β} (h : ∀ s a, f (g s a) = f s) (s : σ) (l : List α) :
    f (l.foldl g s) = f s := by
  induction l generalizing s with
  | nil => rfl
  | cons a rest ih => rw [List.foldl_cons, ih, h]

@[simp] theorem modBench_kept (s : State) (b : BenchId) (f : Bench → Bench) : (s.modBench b f).kept = s.kept := rfl

@[simp] theorem modTenant_kept (s : State) (x : TenantId) (f : Tenant → Tenant) : (s.modTenant x f).kept = s.kept := rfl

@[simp] theorem modPort_kept (s : State) (x : TenantId) (f : Port → Port) : (s.modPort x f).kept = s.kept := rfl

@[simp] theorem setBenchState_kept (s : State) (b : BenchId) (st : BenchState) : (s.setBenchState b st).kept = s.kept := by
  rw [setBenchState_eq]
  rfl

@[simp] theorem stopBench_kept (s : State) (b : BenchId) (st : BenchState) : (s.stopBench b st).kept = s.kept := setBenchState_kept ..

@[simp] theorem armBench_kept (s : State) (b : BenchId) : (s.armBench b).kept = s.kept := by
  exact (setBenchState_kept _ b .armed).trans (modBench_kept s b _)

theorem judgeReleases_tenant (s : State) (y : TenantId) : s.judgeReleases.tenant y = s.tenant y := by
  have e : s.judgeReleases.tenants = s.tenants := by rw [judgeReleases_eq]
  rw [State.tenant, State.tenant, e]

@[simp] theorem judgeReleases_kept (s : State) : s.judgeReleases.kept = s.kept := by
  rw [judgeReleases_eq]
  simp only [State.kept]

@[simp] theorem logPart_kept (s : State) (kind : Byte) (payload : List Byte) : (s.logPart kind payload).kept = s.kept := by
  rw [State.logPart_eq]
  rfl

@[simp] theorem holdPort_kept (s : State) (x : TenantId) : (s.holdPort x).kept = s.kept := by
  rw [State.holdPort]
  dsimp only
  split
  · rw [State.endGrant]
    split <;> rfl
  · rfl

theorem holdStaging_eq (s : State) (x : TenantId) : s.holdStaging x = { s with staging := (s.holdStaging x).staging } := by
  rw [State.holdStaging]
  split <;> rfl

theorem cancelPlan_eq (s : State) (x : TenantId) : s.cancelPlan x = { s with clock := (s.cancelPlan x).clock } := by
  rw [State.cancelPlan]
  split <;> rfl

@[simp] theorem holdStaging_kept (s : State) (x : TenantId) : (s.holdStaging x).kept = s.kept := by
  rw [holdStaging_eq]
  rfl

@[simp] theorem cancelPlan_kept (s : State) (x : TenantId) : (s.cancelPlan x).kept = s.kept := by
  rw [cancelPlan_eq]
  rfl

/-! ### A held tenant gets no event -/

theorem raise_held {s : State} {x : TenantId} {n : Nat} (h : (s.tenant x).held = true) : s.raise x n = s := by
  rw [State.raise, if_neg]
  rintro ⟨-, h'⟩
  simp [h] at h'

theorem owner_of_owns {s : State} {x : TenantId} {b : BenchId} (h : s.owns x b = true) : s.owner b = some x := by
  simpa [State.owns] using h

/-- A bench of a held tenant changes its state without an event. -/
theorem setBenchState_held {s : State} {x : TenantId} {b : BenchId} (own : s.owns x b = true) (h : (s.tenant x).held = true)
    (st : BenchState) : s.setBenchState b st = s.modBench b (fun y => { y with state := st }) := by
  have quiet (n : Nat) : (s.modBench b (fun y => { y with state := st })).raiseOwner b n = s.modBench b (fun y => { y with state := st }) := by
    have e : (s.modBench b (fun y => { y with state := st })).owner b = some x := owner_of_owns own
    rw [State.raiseOwner, e]
    exact raise_held h
  rw [State.setBenchState]
  split
  · exact quiet 2
  · rfl

/-! ### The hold strobe -/

/-- A bench at the hold strobe of its tenant. -/
def State.resetBench (s : State) (b : BenchId) : State := if (s.bench b).holds then s.stopBench b .held else s

/-- The state of a bench after the hold strobe. -/
def BenchState.hold (st : BenchState) : BenchState := if st = .running ∨ st = .late ∨ st = .armed then .held else st

theorem Bench.holds_iff (x : Bench) : x.holds = true ↔ x.state = .running ∨ x.state = .late ∨ x.state = .armed := by
  simp [Bench.holds, Bench.active, or_assoc]

theorem stopBench_state (s : State) (b c : BenchId) (st : BenchState) :
    ((s.stopBench b st).bench c).state = if c = b then st else (s.bench c).state := by
  rw [State.stopBench, setBenchState_bench, State.modCells_bench]
  by_cases h : c = b
  · rw [if_pos h, if_pos h]
  · rw [if_neg h, if_neg h, State.modBench_bench_of_ne s _ h]

theorem resetBench_state (s : State) (b c : BenchId) :
    ((s.resetBench b).bench c).state = if c = b then (s.bench c).state.hold else (s.bench c).state := by
  rw [State.resetBench, BenchState.hold]
  by_cases h : (s.bench b).holds = true
  · rw [if_pos h, stopBench_state]
    by_cases e : c = b
    · subst e
      rw [if_pos rfl, if_pos rfl, if_pos ((Bench.holds_iff _).mp h)]
    · rw [if_neg e, if_neg e]
  · rw [if_neg h]
    by_cases e : c = b
    · subst e
      rw [if_pos rfl, if_neg (mt (Bench.holds_iff _).mpr h)]
    · rw [if_neg e]

/-- A fold over benches that changes each named bench's state once and for all. -/
theorem foldl_bench_state {g : State → BenchId → State} {f : BenchState → BenchState} {k : State → Prop} (hk : ∀ s b, k s → k (g s b))
    (h : ∀ s b c, k s → ((g s b).bench c).state = if c = b then f (s.bench c).state else (s.bench c).state)
    (once : ∀ st, f (f st) = f st) (bs : List BenchId) (s : State) (hs : k s) (c : BenchId) :
    ((bs.foldl g s).bench c).state = if c ∈ bs then f (s.bench c).state else (s.bench c).state := by
  induction bs generalizing s with
  | nil => rfl
  | cons b rest ih =>
    rw [List.foldl_cons, ih _ (hk s b hs), h s b c hs]
    by_cases e : c = b
    · rw [if_pos e, once, ite_self, if_pos (show c ∈ b :: rest by rw [e]; exact List.mem_cons_self ..)]
    · simp only [if_neg e, List.mem_cons, or_iff_right e]

theorem foldl_modBench_reset_state (bs : List BenchId) (s : State) (c : BenchId) :
    ((bs.foldl (fun s b => s.modBench b Bench.reset) s).bench c).state = (s.bench c).state := by
  refine foldl_keeps (f := fun s => (s.bench c).state) (fun s b => ?_) s bs
  by_cases e : c = b
  · subst e
    rw [State.modBench_bench_self]
    rfl
  · rw [State.modBench_bench_of_ne s _ e]

theorem mem_owned (s : State) (x : TenantId) (b : BenchId) : b ∈ s.owned x ↔ s.owns x b = true := by simp [State.owned]

theorem stopBench_held {s : State} {x : TenantId} {b : BenchId} (own : s.owns x b = true) (h : (s.tenant x).held = true) (st : BenchState) :
    s.stopBench b st = ((s.modBench b Bench.stop).modCells (s.benchCells b) (fun c =>
      if c.lastFrame.isSome then c else { c with lastFrame := some s.clock.frame })).modBench b (fun y => { y with state := st }) := by
  refine setBenchState_held (x := x) ?_ ?_ st
  · exact own
  · exact h

/-- What the hold of one bench keeps of the tenants and the straps. -/
theorem resetBench_held {s : State} {x : TenantId} {b : BenchId} (own : s.owns x b = true) (h : (s.tenant x).held = true) :
    s.resetBench b = { s with benches := (s.resetBench b).benches, ring := (s.resetBench b).ring } := by
  rw [State.resetBench]
  split
  · rw [stopBench_held own h]
    rfl
  · rfl

theorem resetBenches_held {s : State} {x : TenantId} (bs : List BenchId) (own : ∀ b ∈ bs, s.owns x b = true) (h : (s.tenant x).held = true) :
    bs.foldl State.resetBench s = { s with benches := (bs.foldl State.resetBench s).benches, ring := (bs.foldl State.resetBench s).ring } := by
  induction bs generalizing s with
  | nil => rfl
  | cons b rest ih =>
    have e := resetBench_held (own b (List.mem_cons_self ..)) h
    have own' : ∀ c ∈ rest, (s.resetBench b).owns x c = true := fun c hc => by
      rw [e]
      exact own c (List.mem_cons_of_mem _ hc)
    have h' : ((s.resetBench b).tenant x).held = true := by
      rw [e]
      exact h
    rw [List.foldl_cons, ih own' h', e]

/-! ### The port at the hold strobe -/

theorem State.modPort_tenant_of_ne (s : State) {x y : TenantId} (f : Port → Port) (h : y ≠ x) : (s.modPort x f).tenant y = s.tenant y :=
  State.modTenant_tenant_of_ne s _ h

theorem map_getElem {α β : Type} {n : Nat} (v : Vector α n) (f : α → β) (k : Fin n) : (v.map f)[k] = f v[k] := by
  rw [Fin.getElem_fin, Fin.getElem_fin, Vector.getElem_map]

/-- The port of a tenant at its hold strobe. -/
def Port.hold (p : Port) : Port :=
  { p with
    tags := p.tags.map (fun g => if g.outstanding then HostTag.init else g), inFlight := none
    jobs := (p.jobs.filter (fun j => !(match j.kind with | .read _ => true | _ => false))).map (fun j => { j with stale := true }) }

theorem endGrant_eq (s : State) (x : TenantId) : s.endGrant x = { s with pit := (s.endGrant x).pit } := by
  rw [State.endGrant]
  split <;> rfl

/-- The hold of a port, up to the pit's grant and the requests at the weighbridge. -/
theorem holdPort_eq (s : State) (x : TenantId) : s.holdPort x = { s with
    tenants := (s.modPort x Port.hold).tenants, pit := (s.holdPort x).pit, wb := (s.holdPort x).wb } := by
  have e (g : Port → Port) : (s.retireTags x HostTag.outstanding).modPort x g =
      { s.modPort x (fun p => g { p with tags := p.tags.map (fun g => if g.outstanding then HostTag.init else g) }) with
        wb := (s.retireTags x HostTag.outstanding).wb } := by
    rw [← modPort_modPort s x (fun p => { p with tags := p.tags.map (fun g => if g.outstanding then HostTag.init else g) }) g]
    rfl
  rw [State.holdPort]
  dsimp only
  split
  · rw [endGrant_eq, e]
    rfl
  · rw [e]
    rfl

/-- The state at the hold strobe once the port is held. -/
def State.portHeld (s : State) (x : TenantId) : State := (s.holdPort x).modTenant x (fun y => { y with held := true, holdDue := none })

theorem portHeld_tenant (s : State) (x y : TenantId) : (s.portHeld x).tenant y =
    if y = x then { s.tenant x with held := true, holdDue := none, port := (s.tenant x).port.hold } else s.tenant y := by
  rw [State.portHeld]
  have e (z : TenantId) : (s.holdPort x).tenant z = (s.modPort x Port.hold).tenant z := by
    rw [holdPort_eq]
    rfl
  by_cases h : y = x
  · subst h
    rw [if_pos rfl, State.modTenant_tenant_self, e, State.modPort_tenant_self]
  · rw [if_neg h, State.modTenant_tenant_of_ne _ _ h, e]
    exact State.modTenant_tenant_of_ne s _ h

theorem portHeld_benches (s : State) (x : TenantId) : (s.portHeld x).benches = s.benches := by
  rw [State.portHeld, State.modTenant_benches, holdPort_eq]

theorem portHeld_straps (s : State) (x : TenantId) : (s.portHeld x).straps = s.straps := by
  rw [State.portHeld, State.modTenant_straps, holdPort_eq]

@[simp] theorem portHeld_kept (s : State) (x : TenantId) : (s.portHeld x).kept = s.kept := by
  rw [State.portHeld, modTenant_kept, holdPort_kept]

theorem owner_congr {s t : State} (h : t.straps = s.straps) (b : BenchId) : t.owner b = s.owner b := by
  have layout : t.noLayout = s.noLayout := by rw [State.noLayout, State.noLayout, State.codeless, State.codeless, h]
  have code : t.code 0 = s.code 0 := by rw [State.code, State.code, h]
  rw [State.owner, State.owner, layout, code]

theorem owns_congr {s t : State} (h : t.straps = s.straps) (x : TenantId) (b : BenchId) : t.owns x b = s.owns x b := by
  rw [State.owns, State.owns, owner_congr h]

theorem owned_congr {s t : State} (h : t.straps = s.straps) (x : TenantId) : t.owned x = s.owned x := by
  rw [State.owned, State.owned, funext (owns_congr h x)]

theorem ownsChannel_congr {s t : State} (h : t.straps = s.straps) (x : TenantId) (c : Channel) : t.ownsChannel x c = s.ownsChannel x c := by
  have e (n : Nat) : t.endpointTenant n = s.endpointTenant n := by rw [State.endpointTenant, State.endpointTenant, owner_congr h]
  rw [State.ownsChannel, State.ownsChannel, e, e]

/-! ### The tenant's benches and channels at the hold strobe -/

/-- The state once the tenant's benches are stopped and their requests are of an earlier life. -/
def State.benchesHeld (u : State) (x : TenantId) : State :=
  ((u.owned x).foldl (fun s b => s.modBench b Bench.reset) ((u.owned x).foldl State.resetBench u)).newEpoch

theorem resetAll_eq (s : State) (bs : List BenchId) :
    bs.foldl (fun s b => s.modBench b Bench.reset) s = { s with benches := (bs.foldl (fun s b => s.modBench b Bench.reset) s).benches } := by
  induction bs generalizing s with
  | nil => rfl
  | cons b rest ih => rw [List.foldl_cons, ih]; rfl

theorem benchesHeld_eq {u : State} {x : TenantId} (held : (u.tenant x).held = true) : u.benchesHeld x = { u with
    benches := (u.benchesHeld x).benches, ring := (u.benchesHeld x).ring, faults := (u.benchesHeld x).faults } := by
  have e := resetBenches_held (u.owned x) (fun b hb => (mem_owned u x b).mp hb) held
  rw [State.benchesHeld, resetAll_eq, e]
  rfl

theorem BenchState.hold_hold (st : BenchState) : st.hold.hold = st.hold := by cases st <;> decide

theorem benchesHeld_state (u : State) (x : TenantId) (c : BenchId) :
    ((u.benchesHeld x).bench c).state = if u.owns x c = true then (u.bench c).state.hold else (u.bench c).state := by
  refine (foldl_modBench_reset_state (u.owned x) _ c).trans ?_
  rw [foldl_bench_state (k := fun _ => True) (fun _ _ _ => trivial) (fun s b c _ => resetBench_state s b c) BenchState.hold_hold _ _ trivial]
  simp only [mem_owned]

theorem emptyTenant_full (s : State) (x : TenantId) : ∀ c ∈ (s.emptyTenant x).channels, s.ownsChannel x c = true → c.full = false := by
  intro c hc own
  obtain ⟨hc, -⟩ := List.mem_filter.mp hc
  obtain ⟨d, -, rfl⟩ := List.mem_map.mp hc
  by_cases h : s.ownsChannel x d = true
  · rw [if_pos h]
    rfl
  · rw [if_neg h] at own
    exact absurd own h

/-- The state after the hold strobe of a present tenant, before its entry. -/
def State.tenantHeld (u : State) (x : TenantId) : State :=
  (((u.benchesHeld x).emptyTenant x).holdStaging x).cancelPlan x |>.modTenant x (fun y => { y with events := 0 })

theorem holdTenant_eq (u : State) (x : TenantId) : ∃ payload, u.holdTenant x = (u.tenantHeld x).logPart 0x0c payload := ⟨_, rfl⟩

section
variable {u : State} {x : TenantId} (held : (u.tenant x).held = true)
include held

/-- What a hold strobe changes at all. -/
theorem tenantHeld_eq : u.tenantHeld x = ({ u with
    benches := (u.benchesHeld x).benches, channels := ((u.benchesHeld x).emptyTenant x).channels, ring := (u.tenantHeld x).ring
    faults := (u.tenantHeld x).faults, staging := (u.tenantHeld x).staging, clock := (u.tenantHeld x).clock } : State).modTenant x
      (fun y => { y with events := 0 }) := by
  rw [State.tenantHeld, cancelPlan_eq, holdStaging_eq, State.emptyTenant, benchesHeld_eq held]
  rfl

theorem holdTenant_tenant (y : TenantId) : (u.holdTenant x).tenant y = if y = x then { u.tenant x with events := 0 } else u.tenant y := by
  obtain ⟨payload, e⟩ := holdTenant_eq u x
  have e' : (u.holdTenant x).tenant y = (u.tenantHeld x).tenant y := by rw [e, State.tenant, State.logPart_tenants]; rfl
  rw [e', tenantHeld_eq held]
  by_cases h : y = x
  · subst h
    rw [if_pos rfl, State.modTenant_tenant_self]
    rfl
  · rw [if_neg h, State.modTenant_tenant_of_ne _ _ h]
    rfl

theorem holdTenant_state (c : BenchId) :
    ((u.holdTenant x).bench c).state = if u.owns x c = true then (u.bench c).state.hold else (u.bench c).state := by
  obtain ⟨payload, e⟩ := holdTenant_eq u x
  have e' : (u.holdTenant x).bench c = (u.tenantHeld x).bench c := by rw [e, State.bench, State.logPart_benches]; rfl
  rw [e', tenantHeld_eq held, ← benchesHeld_state]
  rfl

theorem holdTenant_kept : (u.holdTenant x).kept = u.kept := by
  obtain ⟨payload, e⟩ := holdTenant_eq u x
  rw [e, logPart_kept, tenantHeld_eq held]
  rfl

theorem holdTenant_full : ∀ c ∈ (u.holdTenant x).channels, (u.holdTenant x).ownsChannel x c = true → c.full = false := by
  intro c hc own
  obtain ⟨payload, e⟩ := holdTenant_eq u x
  have straps : (u.benchesHeld x).straps = u.straps := by rw [benchesHeld_eq held]
  have kept : (u.holdTenant x).straps = u.straps := congrArg Prod.fst (holdTenant_kept held)
  rw [ownsChannel_congr kept, ← ownsChannel_congr straps] at own
  rw [e, State.logPart_channels, tenantHeld_eq held] at hc
  exact emptyTenant_full _ x c hc own

end

/-- The state after a hold strobe. -/
theorem tenantResetHold_eq {s : State} {x : TenantId} {f : Nat} (run : s.running = true) (strobed : s.clock.strobed = true)
    (due : (s.tenant x).holdDue = some f) (now : f ≤ s.clock.frame) :
    s.tenantResetHold x = if s.owned x = [] then s.portHeld x else (s.portHeld x).holdTenant x :=
  if_pos ⟨run, strobed, by simp [due, now]⟩

/-- At its hold strobe the tenant is held. -/
theorem tenantHolds {s : State} {x : TenantId} {f : Nat} (run : s.running = true) (strobed : s.clock.strobed = true)
    (due : (s.tenant x).holdDue = some f) (now : f ≤ s.clock.frame) :
    ∃ t, exec (.tenantResetHold x) s = .next t ∧ (t.tenant x).held = true ∧ (t.tenant x).holdDue = none ∧
      (t.tenant x).port.inFlight = none ∧ (∀ k : Fin 8, (t.tenant x).port.tags[k] =
        if ((s.tenant x).port.tags[k]).state = .pending ∨ ((s.tenant x).port.tags[k]).state = .ready then HostTag.init
        else (s.tenant x).port.tags[k]) ∧
      (∀ y, y ≠ x → t.tenant y = s.tenant y) ∧
      (∀ b, (t.bench b).state = if s.owns x b = true ∧ ((s.bench b).active = true ∨ (s.bench b).state = .armed)
        then .held else (s.bench b).state) ∧
      (s.owned x ≠ [] → (t.tenant x).events = 0 ∧ ∀ c ∈ t.channels, t.ownsChannel x c = true → c.full = false) ∧
      t.straps = s.straps ∧ t.otp = s.otp ∧ t.power = s.power ∧ t.pit.mem = s.pit.mem := by
  have held : ((s.portHeld x).tenant x).held = true := by rw [portHeld_tenant, if_pos rfl]
  have tags (k : Fin 8) : (s.tenant x).port.hold.tags[k] =
      if ((s.tenant x).port.tags[k]).state = .pending ∨ ((s.tenant x).port.tags[k]).state = .ready then HostTag.init
      else (s.tenant x).port.tags[k] := by
    refine (map_getElem _ _ k).trans ?_
    simp [HostTag.outstanding]
  have straps := portHeld_straps s x
  have bench (b : BenchId) : (s.portHeld x).bench b = s.bench b := by rw [State.bench, portHeld_benches]; rfl
  have other {y : TenantId} (h : y ≠ x) : (s.portHeld x).tenant y = s.tenant y := by rw [portHeld_tenant, if_neg h]
  have keeps {t : State} (h : t.kept = s.kept) : t.straps = s.straps ∧ t.otp = s.otp ∧ t.power = s.power ∧ t.pit.mem = s.pit.mem := by
    simpa only [State.kept, Prod.mk.injEq] using h
  refine ⟨_, congrArg Host.Outcome.next (tenantResetHold_eq run strobed due now), ?_⟩
  by_cases absent : s.owned x = []
  · rw [if_pos absent]
    have none (b : BenchId) : ¬s.owns x b = true := by rw [← mem_owned, absent]; exact List.not_mem_nil
    refine ⟨held, ?_, ?_, fun k => ?_, fun y h => other h, fun b => ?_, fun h => absurd absent h, keeps (portHeld_kept s x)⟩
    · rw [portHeld_tenant, if_pos rfl]
    · rw [portHeld_tenant, if_pos rfl]
      rfl
    · rw [portHeld_tenant, if_pos rfl]
      exact tags k
    · rw [if_neg fun h => none b h.1, bench]
  · have self : ((s.portHeld x).holdTenant x).tenant x =
        { s.tenant x with held := true, holdDue := none, port := (s.tenant x).port.hold, events := 0 } := by
      rw [holdTenant_tenant held, if_pos rfl, portHeld_tenant, if_pos rfl]
    rw [if_neg absent]
    refine ⟨?_, ?_, ?_, fun k => ?_, fun y h => ?_, fun b => ?_, fun _ => ⟨?_, holdTenant_full held⟩,
      keeps ((holdTenant_kept held).trans (portHeld_kept s x))⟩
    · rw [self]
    · rw [self]
    · rw [self]
      rfl
    · rw [self]
      exact tags k
    · rw [holdTenant_tenant held, if_neg h, other h]
    · rw [holdTenant_state held, owns_congr straps, bench, BenchState.hold]
      by_cases own : s.owns x b = true
      · simp [own, Bench.active, or_assoc]
      · simp [own]
    · rw [self]

/-! ### The release strobe -/

section
variable {s : State} {x : TenantId}

theorem armBench_held {b : BenchId} (own : s.owns x b = true) (h : (s.tenant x).held = true) :
    s.armBench b = { s with benches := (s.armBench b).benches } := by
  rw [State.armBench, setBenchState_held (x := x) (by exact own) (by exact h)]
  rfl

theorem armBench_state (b c : BenchId) : ((s.armBench b).bench c).state = if c = b then .armed else (s.bench c).state := by
  rw [State.armBench, setBenchState_bench]
  by_cases h : c = b
  · rw [if_pos h, if_pos h]
  · rw [if_neg h, if_neg h, State.modBench_bench_of_ne s _ h]

/-- A release leaves everything but the benches as it was. -/
theorem releaseBench_held {b : BenchId} (own : s.owns x b = true) (h : (s.tenant x).held = true) :
    s.releaseBench x b = { s with benches := (s.releaseBench x b).benches } := by
  have e (u : State) (hu : u = { s with benches := u.benches }) : u.armBench b = { s with benches := (u.armBench b).benches } := by
    rw [armBench_held (x := x) (s := u) (by rw [hu]; exact own) (by rw [hu]; exact h), hu]
  rw [State.releaseBench]
  split_ifs
  · rw [e s rfl]
    rfl
  · rw [e (s.modBench b _) rfl]
    rfl
  · rfl
  · rfl

/-- The state with a bench's failure record cleared, but that of a FENCED one. -/
def State.recordCleared (s : State) (b : BenchId) : State :=
  if (s.bench b).state = .fenced then s else s.modBench b (fun x => { x with status := x.status.clearFailures })

/-- A bench that starts again: its banks made equal and its result slots empty. -/
def Bench.rearm (x : Bench) : Bench := { x with coefs := x.coefs.restart, results := emptyResults }

theorem releaseBench_eq (s : State) (x : TenantId) (b : BenchId) : s.releaseBench x b =
    if (s.bench b).state = .held ∧ s.installing x = false then ((s.recordCleared b).armBench b).modBench b Bench.rearm
    else s.recordCleared b := rfl

/-- The state of a bench after the release strobe of its tenant. -/
def BenchState.rearm (st : BenchState) (installing : Bool) : BenchState := if st = .held ∧ installing = false then .armed else st

theorem modBench_state {b c : BenchId} {g : Bench → Bench} (h : ∀ y, (g y).state = y.state) :
    ((s.modBench b g).bench c).state = (s.bench c).state := by
  by_cases e : c = b
  · subst e
    rw [State.modBench_bench_self, h]
  · rw [State.modBench_bench_of_ne s _ e]

theorem recordCleared_state (b c : BenchId) : ((s.recordCleared b).bench c).state = (s.bench c).state := by
  rw [State.recordCleared]
  split
  · rfl
  · exact modBench_state fun _ => rfl

theorem releaseBench_state (b c : BenchId) : ((s.releaseBench x b).bench c).state =
    if c = b then (s.bench c).state.rearm (s.installing x) else (s.bench c).state := by
  rw [releaseBench_eq, BenchState.rearm]
  by_cases h : (s.bench b).state = .held ∧ s.installing x = false
  · rw [if_pos h, modBench_state (g := Bench.rearm) (fun _ => rfl), armBench_state]
    by_cases e : c = b
    · subst e
      rw [if_pos rfl, if_pos rfl, if_pos h]
    · rw [if_neg e, if_neg e, recordCleared_state]
  · rw [if_neg h, recordCleared_state]
    by_cases e : c = b
    · subst e
      rw [if_pos rfl, if_neg h]
    · rw [if_neg e]

theorem releaseBench_staging (s : State) (x : TenantId) (b : BenchId) : (s.releaseBench x b).staging = s.staging := by
  have arm (u : State) : (u.armBench b).staging = u.staging := by
    rw [State.armBench, setBenchState_eq]
    rfl
  rw [State.releaseBench]
  split_ifs
  · rw [State.modBench_staging, arm]
  · rw [State.modBench_staging, arm, State.modBench_staging]
  · rfl
  · rfl

theorem releaseAll_held (bs : List BenchId) (own : ∀ b ∈ bs, s.owns x b = true) (h : (s.tenant x).held = true) :
    bs.foldl (fun s b => s.releaseBench x b) s = { s with benches := (bs.foldl (fun s b => s.releaseBench x b) s).benches } := by
  induction bs generalizing s with
  | nil => rfl
  | cons b rest ih =>
    have e := releaseBench_held (own b (List.mem_cons_self ..)) h
    have own' : ∀ c ∈ rest, (s.releaseBench x b).owns x c = true := fun c hc => by
      rw [e]
      exact own c (List.mem_cons_of_mem _ hc)
    have h' : ((s.releaseBench x b).tenant x).held = true := by
      rw [e]
      exact h
    rw [List.foldl_cons, ih own' h', e]

theorem BenchState.rearm_rearm (st : BenchState) (k : Bool) : (st.rearm k).rearm k = st.rearm k := by
  cases st <;> cases k <;> decide

end

/-- The benches of a tenant at its release strobe. -/
def State.benchesReleased (u : State) (x : TenantId) : State := (u.owned x).foldl (fun s b => s.releaseBench x b) u

theorem benchesReleased_eq {u : State} {x : TenantId} (h : (u.tenant x).held = true) :
    u.benchesReleased x = { u with benches := (u.benchesReleased x).benches } :=
  releaseAll_held _ (fun b hb => (mem_owned u x b).mp hb) h

theorem benchesReleased_state {u : State} {x : TenantId} (c : BenchId) :
    ((u.benchesReleased x).bench c).state = if u.owns x c = true then (u.bench c).state.rearm (u.installing x) else (u.bench c).state := by
  have keeps (s : State) (b : BenchId) (k : s.installing x = u.installing x) : (s.releaseBench x b).installing x = u.installing x := by
    rw [State.installing, releaseBench_staging]
    exact k
  rw [State.benchesReleased, foldl_bench_state (f := fun st => st.rearm (u.installing x)) keeps
    (fun s b c hk => by rw [releaseBench_state, hk]) (fun st => st.rearm_rearm _) _ _ rfl]
  simp only [mem_owned]

/-- The state after a release strobe, before the conditions are judged. -/
def State.tenantReleased (s : State) (x : TenantId) : State :=
  let u := s.modPort x Port.restart
  let v := if s.owned x = [] then u else (u.benchesReleased x).newEpoch.restartTenant x
  v.modTenant x (fun y => { y with held := false, releaseDue := none })

theorem tenantResetRelease_eq {s : State} {x : TenantId} {f : Nat} (run : s.running = true) (strobed : s.clock.strobed = true)
    (held : (s.tenant x).held = true) (past : (s.tenant x).holdDue = none) (due : (s.tenant x).releaseDue = some f)
    (now : f ≤ s.clock.frame) : s.tenantResetRelease x = (s.tenantReleased x).judgeReleases := by
  refine (if_pos ⟨run, strobed, held, past, by simp [due, now]⟩).trans ?_
  rfl

section
variable {s : State} {x : TenantId} (held : (s.tenant x).held = true)
include held

/-- What a release strobe changes at all. -/
theorem tenantReleased_eq : s.tenantReleased x = ({ s.modPort x Port.restart with
    benches := (s.tenantReleased x).benches, faults := (s.tenantReleased x).faults, channels := (s.tenantReleased x).channels } :
      State).modTenant x (fun y => { y with held := false, releaseDue := none }) := by
  have h : ((s.modPort x Port.restart).tenant x).held = true := by
    rw [State.modPort_tenant_self]
    exact held
  rw [State.tenantReleased]
  dsimp only
  split
  · rfl
  · rw [State.restartTenant, benchesReleased_eq h]
    rfl

theorem tenantReleased_tenant (y : TenantId) : (s.tenantReleased x).tenant y = if y = x
    then { s.tenant x with held := false, releaseDue := none, port := (s.tenant x).port.restart } else s.tenant y := by
  rw [tenantReleased_eq held]
  by_cases h : y = x
  · subst h
    rw [if_pos rfl, State.modTenant_tenant_self]
    exact congrArg (fun z : Tenant => { z with held := false, releaseDue := none }) (State.modPort_tenant_self s y Port.restart)
  · rw [if_neg h, State.modTenant_tenant_of_ne _ _ h, ← State.modPort_tenant_of_ne s Port.restart h]
    rfl

theorem tenantReleased_state (c : BenchId) : ((s.tenantReleased x).bench c).state =
    if s.owns x c = true then (s.bench c).state.rearm (s.installing x) else (s.bench c).state := by
  have h : ((s.modPort x Port.restart).tenant x).held = true := by
    rw [State.modPort_tenant_self]
    exact held
  rw [State.tenantReleased]
  by_cases absent : s.owned x = []
  · have none : ¬s.owns x c = true := by rw [← mem_owned, absent]; exact List.not_mem_nil
    rw [if_pos absent, if_neg none]
    rfl
  · rw [if_neg absent]
    exact benchesReleased_state c

end

/-- At its release strobe the tenant is free. -/
theorem tenantReleases {s : State} {x : TenantId} {f : Nat} (run : s.running = true) (strobed : s.clock.strobed = true)
    (held : (s.tenant x).held = true) (past : (s.tenant x).holdDue = none) (due : (s.tenant x).releaseDue = some f)
    (now : f ≤ s.clock.frame) :
    ∃ t, exec (.tenantResetRelease x) s = .next t ∧ (t.tenant x).held = false ∧ (t.tenant x).releaseDue = none ∧
      (t.tenant x).events = (s.tenant x).events ∧ (t.tenant x).port.credits = 8 ∧ (t.tenant x).port.result = 0 ∧
      (t.tenant x).port.seq = 0 ∧ (∀ k : Fin 8, (t.tenant x).port.tags[k] = HostTag.init) ∧
      (∀ y, y ≠ x → t.tenant y = s.tenant y) ∧
      (∀ b, (t.bench b).state = if s.owns x b = true ∧ (s.bench b).state = .held ∧ s.installing x = false
        then .armed else (s.bench b).state) ∧
      t.straps = s.straps ∧ t.otp = s.otp ∧ t.power = s.power ∧ t.pit.mem = s.pit.mem := by
  have tenant (y : TenantId) : (s.tenantReleased x).judgeReleases.tenant y = if y = x
      then { s.tenant x with held := false, releaseDue := none, port := (s.tenant x).port.restart } else s.tenant y := by
    rw [judgeReleases_tenant, tenantReleased_tenant held]
  have self := (tenant x).trans (if_pos rfl)
  have kept : (s.tenantReleased x).judgeReleases.kept = s.kept := by
    rw [judgeReleases_kept, tenantReleased_eq held, modTenant_kept]
    simp only [State.kept, State.modPort_straps, State.modPort_otp, State.modPort_power, State.modPort_pit]
  refine ⟨_, congrArg Host.Outcome.next (tenantResetRelease_eq run strobed held past due now), ?_, ?_, ?_, ?_, ?_, ?_, fun k => ?_,
    fun y h => (tenant y).trans (if_neg h), fun b => ?_, by simpa only [State.kept, Prod.mk.injEq] using kept⟩
  · rw [self]
  · rw [self]
  · rw [self]
  iterate 3
    · rw [self]
      rfl
  · rw [self]
    exact (Vector.getElem_replicate ..)
  · rw [judgeReleases_bench]
    dsimp only
    rw [tenantReleased_state held, BenchState.rearm]
    by_cases own : s.owns x b = true <;> simp [own]

/-- Settles O40: each pin event and each of the two strobes. -/
theorem tenantResets : Obligations.TenantResets := by
  intro x s n hn
  subst hn
  exact ⟨fun l ns h => congrArg _ (trstNLow_ignored h), fun l ns long low up new => congrArg _ (trstNLow_asserts long low up new),
    fun l ns long high up held => congrArg _ (trstNHigh_releases long high up held), fun l ns h => congrArg _ (trstNHigh_ignored h),
    fun f run strobed due now => tenantHolds run strobed due now,
    fun f run strobed held past due now => tenantReleases run strobed held past due now⟩

end Sys2Proof.Machine
end

section
/-! SUPPORT. The input view that a bench latches at a strobe (R166). -/
namespace Sys2Proof.Machine

/-! ### The audio part -/

/-- What a fold of writes leaves at a place that one source alone writes. -/
theorem foldl_vmod_getElem {α β : Type} [DecidableEq β] {n : Nat} (l : List β) (ix : β → Nat) (g : β → α) (v : Vector α n) (i : Fin n) (r : β)
    (only : ∀ z ∈ l, ix z = i.val → z = r) :
    (l.foldl (fun v z => vmod v (ix z) (fun _ => g z)) v)[i] = if r ∈ l ∧ ix r = i.val then g r else v[i] := by
  induction l generalizing v with
  | nil => simp
  | cons z rest ih =>
    rw [List.foldl_cons, ih _ (fun y hy => only y (List.mem_cons_of_mem _ hy)), vmod_getElem]
    by_cases e : i.val = ix z
    · have h : z = r := only z (List.mem_cons_self ..) e.symm
      subst h
      simp [e]
    · rw [if_neg e]
      have ne : ix r = i.val → r ≠ z := by
        rintro h rfl
        exact e h.symm
      by_cases hi : ix r = i.val
      · simp only [hi, and_true, List.mem_cons, or_iff_right (ne hi)]
      · simp only [hi, and_false, if_false]

theorem viewSap_getElem {s : State} {b : BenchId} {v : Vector Word 64} {p q : SapId} {i : Fin 64} {e : PortEntry} {x : TenantId} {r : Route}
    (hp : (s.sap p).entry = some (x, e)) (input : roleInput (s.portRole p) = true) (hr : r ∈ e.routes) (hb : r.bench = b) (hi : r.ix = i.val)
    (only : ∀ (q : SapId) (y : TenantId) (f : PortEntry), (s.sap q).entry = some (y, f) → roleInput (s.portRole q) = true →
      ∀ z ∈ f.routes, z.bench = b → z.ix = i.val → q = p ∧ z = r) :
    (s.viewSap b v q)[i] = if q = p then (vget (s.sap p).delivered r.slot []).getD (if r.second then 1 else 0) 0 else v[i] := by
  rw [State.viewSap]
  cases hq : (s.sap q).entry with
  | none =>
    rw [if_neg]
    rintro rfl
    simp [hp] at hq
  | some k =>
    obtain ⟨y, f⟩ := k
    dsimp only
    by_cases inq : roleInput (s.portRole q) = true
    · rw [if_pos inq]
      refine (foldl_vmod_getElem _ Route.ix
        (fun z : Route => (vget (s.sap q).delivered z.slot []).getD (if z.second then 1 else 0) 0) v i r fun z hz h => ?_).trans ?_
      · obtain ⟨hz, hzb⟩ := List.mem_filter.mp hz
        exact (only q y f hq inq z hz (of_decide_eq_true hzb) h).2
      · by_cases e' : q = p
        · subst e'
          rw [hp] at hq
          cases hq
          rw [if_pos rfl, if_pos ⟨List.mem_filter.mpr ⟨hr, decide_eq_true hb⟩, hi⟩]
        · rw [if_neg e', if_neg]
          rintro ⟨h, -⟩
          exact e' (only q y f hq inq r (List.mem_filter.mp h).1 hb hi).1
    · rw [if_neg inq, if_neg]
      rintro rfl
      exact inq input

theorem viewAudio_getElem {s : State} {b : BenchId} {p : SapId} {i : Fin 64} {e : PortEntry} {x : TenantId} {r : Route}
    (hp : (s.sap p).entry = some (x, e)) (input : roleInput (s.portRole p) = true) (hr : r ∈ e.routes) (hb : r.bench = b) (hi : r.ix = i.val)
    (only : ∀ (q : SapId) (y : TenantId) (f : PortEntry), (s.sap q).entry = some (y, f) → roleInput (s.portRole q) = true →
      ∀ z ∈ f.routes, z.bench = b → z.ix = i.val → q = p ∧ z = r) :
    (s.viewAudio b)[i] = (vget (s.sap p).delivered r.slot []).getD (if r.second then 1 else 0) 0 := by
  have fold (l : List SapId) (v : Vector Word 64) : (l.foldl (fun v q => s.viewSap b v q) v)[i] =
      if p ∈ l then (vget (s.sap p).delivered r.slot []).getD (if r.second then 1 else 0) 0 else v[i] := by
    induction l generalizing v with
    | nil => rfl
    | cons q rest ih =>
      rw [List.foldl_cons, ih, viewSap_getElem hp input hr hb hi only]
      by_cases e : q = p
      · simp [e]
      · simp only [if_neg e, List.mem_cons, or_iff_right (Ne.symm e)]
  rw [State.viewAudio, fold, if_pos (List.mem_finRange p)]

/-! ### The pulse channels -/

theorem PulseTrack.fresh_eq (t : PulseTrack) (frame : Nat) (prev : Option Nat) :
    t.fresh frame prev = t.at_.any (fun f => match prev with | none => f == frame | some n => decide (n < f)) := by
  cases prev <;> rfl

/-- Latching marks an edge at this strobe, which it stays. -/
theorem PulseTrack.latch_fresh (t : PulseTrack) (frame : Nat) : (t.latch frame none).fresh frame none = t.fresh frame none := by
  rw [PulseTrack.latch]
  split
  · next h =>
    rw [h]
    simp [PulseTrack.fresh]
  · rfl

theorem PulseTrack.latch_latch (t : PulseTrack) (frame : Nat) : (t.latch frame none).latch frame none = t.latch frame none := by
  rw [PulseTrack.latch, PulseTrack.latch_fresh, PulseTrack.latch]
  split <;> rfl

theorem PulseTrack.latch_count (t : PulseTrack) (frame : Nat) (prev : Option Nat) : (t.latch frame prev).count = t.count := by
  rw [PulseTrack.latch]
  split <;> rfl

theorem PulseTrack.latch_interval (t : PulseTrack) (frame : Nat) (prev : Option Nat) : (t.latch frame prev).interval = t.interval := by
  rw [PulseTrack.latch]
  split <;> rfl

/-- At a release a track shows the same once latched. -/
theorem PulseTrack.show_latch (t : PulseTrack) (frame : Nat) : (t.latch frame none).show frame none = t.show frame none := by
  rw [PulseTrack.show, PulseTrack.show, PulseTrack.latch_latch, PulseTrack.latch_fresh, PulseTrack.latch_count, PulseTrack.latch_interval]

/-- What a view shows of a pulse channel. -/
theorem PulseTrack.show_spec (t : PulseTrack) (frame : Nat) (prev : Option Nat) (fresh : Bool)
    (h : fresh = t.at_.any (fun f => match prev with | none => f == frame | some n => decide (n < f))) :
    (t.show frame prev).count = t.count ∧ (t.show frame prev).interval = t.interval ∧ (t.show frame prev).fresh = fresh ∧
    (fresh = true → (t.show frame prev).age = 0) ∧ (fresh = false → t.at_ = none → (t.show frame prev).age = 0xffffffff) := by
  rw [← PulseTrack.fresh_eq] at h
  refine ⟨rfl, rfl, h.symm, fun new => ?_, fun old none => ?_⟩
  · rw [PulseTrack.show, PulseTrack.latch, if_pos (h.symm.trans new)]
    simp
  · rw [PulseTrack.show, PulseTrack.latch, if_neg (by rw [← h, old]; decide), none]

/-! ### The view -/

theorem viewSample_eq (s : State) (prev : Option Nat) (c : SenseChannel) : s.viewSample prev c = if c.state = .run ∧ s.gone 8 = false
    then ⟨c.sample, c.deliveredAt.any (fun f => match prev with | none => f == s.clock.frame | some n => decide (n < f))⟩
    else ⟨0, false⟩ := by
  rw [State.viewSample]
  cases prev <;> rfl

/-- A latched view shows what it should, for the tracks that it was latched from. -/
theorem latchView_shows_of (s : State) (b : BenchId) (first : Bool) {prev : Option Nat} {tracks : Vector PulseTrack 16}
    (hp : prev = if first then none else some (s.bench b).seq.start)
    (ht : ∀ ch : SenseId, ((s.bench b).pulses[ch]).show s.clock.frame prev = (tracks[ch]).show s.clock.frame prev) :
    s.shows b prev tracks (s.latchView b first) := by
  subst hp
  refine ⟨fun gone i => ?_, fun here p x e r i hp input hr hb hi only => ?_, fun ch => ?_, fun here ch fresh hf => ?_, fun c => ?_,
    rfl, rfl, rfl, rfl, rfl, rfl, rfl, rfl, rfl⟩
  · rw [State.latchView]
    dsimp only
    rw [if_pos gone]
    exact Vector.getElem_replicate ..
  · rw [State.latchView]
    dsimp only
    rw [if_neg (ne_true_of_eq_false here)]
    exact viewAudio_getElem hp input hr hb hi only
  · exact (map_getElem _ _ ch).trans (viewSample_eq ..)
  · have pulses : ((s.latchView b first).pulses)[ch] = (tracks[ch]).show s.clock.frame (if first then none else some (s.bench b).seq.start) := by
      rw [State.latchView, ← ht]
      dsimp only
      rw [State.viewPulses, if_neg (by rcases here with h | h <;> simp [h])]
      exact map_getElem _ _ ch
    rw [pulses]
    exact PulseTrack.show_spec _ _ _ fresh hf
  · refine (map_getElem _ _ c).trans ?_
    rw [State.viewLock]
    simp only [Bool.and_eq_true, Bool.not_eq_true', and_assoc]

theorem latchView_shows (s : State) (b : BenchId) :
    s.shows b (some (s.bench b).seq.start) (s.bench b).pulses (s.latchView b false) :=
  latchView_shows_of s b false rfl fun _ => rfl

theorem latchView_shows_first (s : State) (b : BenchId) :
    s.shows b none ((s.bench b).pulses.map (fun t => t.latch s.clock.frame none)) (s.latchView b true) :=
  latchView_shows_of s b true rfl fun ch => by rw [map_getElem, PulseTrack.show_latch]

/-- The state `u` has what a view shows as `s` has it. -/
structure State.Sees (s u : State) : Prop where
  straps : u.straps = s.straps
  faults : u.faults = s.faults
  sense : u.sense = s.sense
  frame : u.clock.frame = s.clock.frame
  powerCycle : u.wb.nv.powerCycle = s.wb.nv.powerCycle
  ring : u.ring = { s.ring with own := u.ring.own }
  entry : ∀ p, (u.sap p).entry = (s.sap p).entry
  delivered : ∀ p, (u.sap p).delivered = (s.sap p).delivered

theorem gone_congr {s u : State} (h : u.faults = s.faults) (code : Nat) : u.gone code = s.gone code := by
  have wedged : u.isWedged code = s.isWedged code := by rw [State.isWedged, State.isWedged, h]
  rw [State.gone, State.gone, State.wedgeFound, State.wedgeFound, wedged, h]

theorem code_congr {s u : State} (h : u.straps = s.straps) (i : Nat) : u.code i = s.code i := by rw [State.code, State.code, h]

theorem portRole_congr {s u : State} (h : u.straps = s.straps) (p : SapId) : u.portRole p = s.portRole p := by
  rw [State.portRole, State.portRole, code_congr h]

theorem isMaster_congr {s u : State} (h : u.straps = s.straps) : u.isMaster = s.isMaster := by
  rw [State.isMaster, State.isMaster, code_congr h]

theorem ringFrame_congr {s u : State} (h : s.Sees u) : u.ringFrame = s.ringFrame := by
  rw [State.ringFrame, State.ringFrame, isMaster_congr h.straps, h.frame, h.ring]

theorem shows_congr {s u : State} (h : s.Sees u) {b : BenchId} {prev : Option Nat} {tracks : Vector PulseTrack 16} {v : InputView}
    (hv : u.shows b prev tracks v) : s.shows b prev tracks v := by
  have chan (ch : SenseId) : u.chan ch = s.chan ch := by rw [State.chan, State.chan, h.sense]
  have locked : u.ring.locked = s.ring.locked := by rw [h.ring]
  have cells : u.ring.cells = s.ring.cells := by rw [h.ring]
  have seconds : u.ring.todSeconds = s.ring.todSeconds := by rw [h.ring]
  have todFrame : u.ring.todFrame = s.ring.todFrame := by rw [h.ring]
  have marked : u.ring.todMarked = s.ring.todMarked := by rw [h.ring]
  have todEpoch : u.ring.todEpoch = s.ring.todEpoch := by rw [h.ring]
  have epoch : u.ring.epoch = s.ring.epoch := by rw [h.ring]
  simpa only [State.shows, gone_congr h.faults, portRole_congr h.straps, ringFrame_congr h, h.entry, h.delivered, chan, h.frame,
    h.powerCycle, locked, cells, seconds, todFrame, marked, todEpoch, epoch] using hv

end Sys2Proof.Machine
end

section
/-! SUPPORT. A bench's release and the end of its period. -/
namespace Sys2Proof.Machine

/-! ### The writes on their way, done -/

/-- What a write that comes about changes at all. -/
theorem PipeTarget.apply_eq (t : PipeTarget) (y : Bench) : t.apply y = { y with
    d := (t.apply y).d, p := (t.apply y).p, accSeen := (t.apply y).accSeen, delay := (t.apply y).delay, lines := (t.apply y).lines
    status := (t.apply y).status, prioSeen := (t.apply y).prioSeen, tagSeen := (t.apply y).tagSeen } := by
  cases t <;> rfl

theorem PipeTarget.apply_lateCount (t : PipeTarget) (y : Bench) : (t.apply y).status.lateCount = y.status.lateCount := by
  cases t <;> rfl

theorem PipeTarget.apply_lines (t : PipeTarget) (y : Bench) {k : Nat} {l : LineState} (h : y.lines[k]? = some l) :
    ∃ fresh, (t.apply y).lines[k]? = some { l with fresh := fresh } := by
  cases t with
  | delay line addr v =>
    by_cases e : line = k
    · subst e
      exact ⟨true, by simp [PipeTarget.apply, h]⟩
    · exact ⟨l.fresh, by simp [PipeTarget.apply, h, e]⟩
  | _ => exact ⟨l.fresh, h⟩

theorem foldl_apply_eq (ws : List PipeWrite) (y : Bench) : ws.foldl (fun b w => w.target.apply b) y = { y with
    d := (ws.foldl (fun b w => w.target.apply b) y).d, p := (ws.foldl (fun b w => w.target.apply b) y).p
    accSeen := (ws.foldl (fun b w => w.target.apply b) y).accSeen, delay := (ws.foldl (fun b w => w.target.apply b) y).delay
    lines := (ws.foldl (fun b w => w.target.apply b) y).lines, status := (ws.foldl (fun b w => w.target.apply b) y).status
    prioSeen := (ws.foldl (fun b w => w.target.apply b) y).prioSeen, tagSeen := (ws.foldl (fun b w => w.target.apply b) y).tagSeen } := by
  induction ws generalizing y with
  | nil => rfl
  | cons w rest ih => rw [List.foldl_cons, ih, PipeTarget.apply_eq]

theorem Bench.drain_eq (x : Bench) : x.drain = { x with
    d := x.drain.d, p := x.drain.p, accSeen := x.drain.accSeen, delay := x.drain.delay, lines := x.drain.lines, status := x.drain.status
    prioSeen := x.drain.prioSeen, tagSeen := x.drain.tagSeen, pipe := [] } := foldl_apply_eq x.pipe { x with pipe := [] }

theorem Bench.drain_lateCount (x : Bench) : x.drain.status.lateCount = x.status.lateCount :=
  foldl_keeps (f := fun y : Bench => y.status.lateCount) (fun y w => w.target.apply_lateCount y) { x with pipe := [] } x.pipe

theorem Bench.drain_lines (x : Bench) {k : Nat} {l : LineState} (h : x.lines[k]? = some l) :
    ∃ fresh, x.drain.lines[k]? = some { l with fresh := fresh } := by
  have fold (ws : List PipeWrite) (y : Bench) (l : LineState) (h : y.lines[k]? = some l) :
      ∃ fresh, (ws.foldl (fun b w => w.target.apply b) y).lines[k]? = some { l with fresh := fresh } := by
    induction ws generalizing y l with
    | nil => exact ⟨l.fresh, h⟩
    | cons w rest ih =>
      obtain ⟨f, hf⟩ := w.target.apply_lines y h
      obtain ⟨g, hg⟩ := ih _ _ hf
      exact ⟨g, hg⟩
  exact fold x.pipe { x with pipe := [] } l h

/-! ### A release -/

theorem foldl_modOwn_eq (cs : List Nat) (f : OwnCell → OwnCell) (r : Ring) :
    cs.foldl (fun r c => r.modOwn c f) r = { r with own := (cs.foldl (fun r c => r.modOwn c f) r).own } := by
  induction cs generalizing r with
  | nil => rfl
  | cons c rest ih => rw [List.foldl_cons, ih]; rfl

theorem entering_sees (s : State) (b : BenchId) : s.Sees (s.entering b) := by
  rw [entering_eq]
  refine ⟨rfl, rfl, rfl, rfl, rfl, ?_, fun _ => rfl, fun _ => rfl⟩
  exact foldl_modOwn_eq _ _ _

/-- What a release changes at all. -/
theorem released_eq (s : State) (b : BenchId) : ∃ bs ts own,
    s.released b = { s with benches := bs, tenants := ts, ring := { s.ring with own := own } } := by
  have entered : ∃ bs ts own, s.entering b = { s with benches := bs, tenants := ts, ring := { s.ring with own := own } } :=
    ⟨_, _, _, (entering_eq s b).trans (by rw [foldl_modOwn_eq])⟩
  obtain ⟨bs, ts, own, e⟩ := entered
  exact ⟨_, ts, own, by rw [State.released, judgeReleases_eq, beginPeriod_eq, e]; rfl⟩

theorem entering_clock (s : State) (b : BenchId) : (s.entering b).clock = s.clock := by rw [entering_eq]

theorem entering_benchCycles (s : State) (b : BenchId) : (s.entering b).benchCycles = s.benchCycles := by
  rw [entering_eq]
  rfl

/-- A bench as its release leaves it. -/
theorem released_bench (s : State) (b : BenchId) : (s.released b).bench b =
    ({ (s.bench b).clear (fun c => (s.chan c).entering) s.clock.frame with state := .running } : Bench).begin true s.clock.frame s.benchCycles
      (s.bench b).seq.prologue ((s.bench b).seq.before + (s.bench b).seq.length) ((s.entering b).latchView b true) := by
  have e := entering_bench s b b
  rw [if_pos rfl] at e
  have running : (((s.entering b).beginPeriod b true (s.bench b).seq.prologue
      ((s.bench b).seq.before + (s.bench b).seq.length)).bench b).state ≠ .armed := by
    rw [beginPeriod_eq, State.modBench_bench_self, e]
    nofun
  rw [State.released, judgeReleases_bench_of _ _ running, beginPeriod_eq, State.modBench_bench_self, e, entering_clock, entering_benchCycles]

theorem released_bench_of_ne (s : State) {b c : BenchId} (h : c ≠ b) :
    (s.released b).bench c = { s.bench c with met := ((s.released b).bench c).met } := by
  have e : ((s.entering b).beginPeriod b true (s.bench b).seq.prologue ((s.bench b).seq.before + (s.bench b).seq.length)).bench c = s.bench c := by
    rw [beginPeriod_eq, State.modBench_bench_of_ne _ _ h, entering_bench, if_neg h]
  have j := judgeReleases_bench ((s.entering b).beginPeriod b true (s.bench b).seq.prologue
    ((s.bench b).seq.before + (s.bench b).seq.length)) c
  rw [e] at j
  exact j

theorem PulseTrack.enter_count (t : PulseTrack) (edges : List Nat) (frame : Nat) :
    (t.enter edges frame).count = t.count + BitVec.ofNat 32 edges.length := by
  unfold PulseTrack.enter
  induction edges generalizing t with
  | nil => simp
  | cons e rest ih =>
    rw [List.foldl_cons, ih, List.length_cons, BitVec.ofNat_add]
    dsimp only
    rw [BitVec.add_assoc, BitVec.add_comm 1]
    rfl

/-- What a release leaves. -/
theorem releases {b : BenchId} {s : State} (run : s.running = true) (strobed : s.clock.strobed = true) (armed : (s.bench b).state = .armed)
    (met : (s.bench b).met.isSome = true) (slot : s.align % (s.bench b).seq.divisor = 0) :
    ∃ t, exec (.benchRelease b) s = .next t ∧ (t.bench b).state = .running ∧ (∀ i : Fin 32, (t.bench b).d[i] = 0) ∧
      (∀ i : Fin 4, (t.bench b).acc[i] = 0) ∧ (t.bench b).p = 0 ∧ (t.bench b).pipe = [] ∧ (t.bench b).delay = [] ∧
      (t.bench b).stage = Stage.empty ∧ (t.bench b).met = none ∧ (t.bench b).coefs.first = true ∧
      (t.bench b).coefs.view = (s.bench b).coefs.inForce ∧
      s.shows b none (t.bench b).pulses (t.bench b).view ∧
      (∀ ch : SenseId, ((t.bench b).pulses[ch]).count = BitVec.ofNat 32 (s.chan ch).entering.length) ∧ (t.bench b).view.todChanged = false ∧
      (∀ (k : Nat) (l : LineState), (s.bench b).lines[k]? = some l → (t.bench b).lines[k]? = some { l with w := 0, f := 0, fresh := false }) ∧
      (t.bench b).seq = { (s.bench b).seq with
        vector := (s.bench b).seq.prologue, issued := 0, before := (s.bench b).seq.before + (s.bench b).seq.length, completed := 0,
        start := s.clock.frame
        due := s.clock.frame + (s.bench b).seq.divisor, granted := s.benchCycles, stretch := 0 } ∧
      (∀ c, c ≠ b → t.bench c = { s.bench c with met := (t.bench c).met }) ∧
      t.clock = s.clock ∧ t.power = s.power ∧ t.straps = s.straps ∧ t.pit = s.pit ∧ t.otp = s.otp ∧ t.channels = s.channels := by
  have out : exec (.benchRelease b) s = .next (s.released b) :=
    congrArg Host.Outcome.next (benchRelease_eq (judgeBench_met met) run strobed armed met slot)
  have self := released_bench s b
  refine ⟨_, out, ?_, fun i => ?_, fun i => ?_, ?_, ?_, ?_, ?_, ?_, ?_, ?_, ?_, fun ch => ?_, ?_, fun k l h => ?_, ?_,
    fun c h => released_bench_of_ne s h, ?_⟩
  case refine_11 =>
    have shows := latchView_shows_first (s.entering b) b
    rw [entering_clock] at shows
    rw [self]
    have e := entering_bench s b b
    rw [if_pos rfl] at e
    rw [e] at shows
    exact shows_congr (entering_sees s b) shows
  case refine_12 =>
    rw [self]
    refine (congrArg PulseTrack.count (map_getElem _ _ ch)).trans ((PulseTrack.latch_count ..).trans ?_)
    refine (congrArg PulseTrack.count (Vector.getElem_ofFn ..)).trans ((PulseTrack.enter_count ..).trans ?_)
    exact BitVec.zero_add _
  case refine_14 =>
    rw [self]
    simp [Bench.begin, Bench.clear, h]
  case refine_16 =>
    obtain ⟨bs, ts, own, e⟩ := released_eq s b
    rw [e]
    exact ⟨rfl, rfl, rfl, rfl, rfl, rfl⟩
  all_goals rw [self]
  case refine_2 => exact Vector.getElem_replicate ..
  case refine_3 => exact Vector.getElem_replicate ..
  case refine_4 => exact (by decide : setBit8 0 7 false = 0)
  all_goals rfl

end Sys2Proof.Machine
end

section
/-! SUPPORT. The end of a bench's period: what it publishes and the period that begins. -/
namespace Sys2Proof.Machine

/-! ### The period that follows -/

/-- The state once a bench begins its next period at the main vector. -/
def State.nextPeriod (v : State) (b : BenchId) (st : BenchState) (main before : Nat) : State :=
  ((v.modBench b (fun x => { x with state := st })).beginPeriod b false main before).judgeReleases

theorem nextPeriod_eq (v : State) (b : BenchId) (st : BenchState) (main before : Nat) :
    ∃ bs, v.nextPeriod b st main before = { v with benches := bs } :=
  ⟨_, by rw [State.nextPeriod, judgeReleases_eq, beginPeriod_eq]; rfl⟩

theorem nextPeriod_bench (v : State) (b : BenchId) {st : BenchState} (h : st ≠ .armed) (main before : Nat) :
    (v.nextPeriod b st main before).bench b = ({ v.bench b with state := st } : Bench).begin false v.clock.frame v.benchCycles main before
      ((v.modBench b (fun x => { x with state := st })).latchView b false) := by
  have e : ((v.modBench b (fun x => { x with state := st })).beginPeriod b false main before).bench b =
      ({ v.bench b with state := st } : Bench).begin false v.clock.frame v.benchCycles main before
        ((v.modBench b (fun x => { x with state := st })).latchView b false) := by
    rw [beginPeriod_eq, State.modBench_bench_self, State.modBench_bench_self]
    rfl
  rw [State.nextPeriod, judgeReleases_bench_of _ _ (by rw [e]; exact h), e]

theorem endPeriod_lines (x : Bench) (late : Bool) {k : Nat} {l : LineState} (h : x.lines[k]? = some l) :
    (x.endPeriod late).lines[k]? = some { l with w := (l.w + 1) % l.length, f := min (l.f + 1) l.length, fresh := false } := by
  obtain ⟨fresh, e⟩ := x.drain_lines h
  simp [Bench.endPeriod, e, LineState.rotate]

theorem endPeriod_lateCount (x : Bench) (late : Bool) :
    (x.endPeriod late).status.lateCount = if late then satInc16 x.status.lateCount else x.status.lateCount := by
  rw [Bench.endPeriod]
  dsimp only
  rw [Bench.drain_lateCount]

/-- What a bench keeps at the end of a period. -/
theorem endPeriod_eq (x : Bench) (late : Bool) : ∃ d p accSeen delay lines status prioSeen tagSeen debug, x.endPeriod late = { x with
    d := d, p := p, accSeen := accSeen, delay := delay, lines := lines, status := status, prioSeen := prioSeen, tagSeen := tagSeen
    debug := debug, pipe := [], seq := { x.seq with completed := x.seq.completed + 1 } } :=
  ⟨_, _, _, _, _, _, _, _, _, by rw [Bench.endPeriod, Bench.drain_eq]⟩

/-- What every end of a period leaves of its bench, whatever was published. -/
theorem nextPeriod_begins {s v : State} {b : BenchId} {late : Bool} {st : BenchState} {rs : Vector ResultSlot 64}
    (hb : v.bench b = { (s.bench b).endPeriod late with results := rs }) (sees : s.Sees v) (h : st ≠ .armed) {t : State}
    (ht : t = v.nextPeriod b st (s.bench b).seq.main ((s.bench b).seq.before + (s.bench b).seq.length)) :
    (t.bench b).state = st ∧
    (t.bench b).seq = { (s.bench b).seq with
      vector := (s.bench b).seq.main, issued := 0, before := (s.bench b).seq.before + (s.bench b).seq.length
      completed := (s.bench b).seq.completed + 1, start := s.clock.frame, due := s.clock.frame + (s.bench b).seq.divisor
      granted := t.benchCycles, stretch := 0 } ∧
    (t.bench b).stage = Stage.empty ∧ (t.bench b).coefs.view = (s.bench b).coefs.inForce ∧
    s.shows b (some (s.bench b).seq.start) (s.bench b).pulses (t.bench b).view ∧
    (t.bench b).view.todChanged = decide ((s.bench b).view.todEpoch ≠ s.ring.todEpoch) ∧
    (∀ (k : Nat) (l : LineState), (s.bench b).lines[k]? = some l →
      (t.bench b).lines[k]? = some { l with w := (l.w + 1) % l.length, f := min (l.f + 1) l.length, fresh := false }) ∧
    (t.bench b).results = rs ∧
    (t.bench b).status.lateCount = if late then satInc16 (s.bench b).status.lateCount else (s.bench b).status.lateCount := by
  have cycles : t.benchCycles = v.benchCycles := by
    obtain ⟨bs, e⟩ := nextPeriod_eq v b st (s.bench b).seq.main ((s.bench b).seq.before + (s.bench b).seq.length)
    rw [ht, e]
    rfl
  have self := nextPeriod_bench v b h (s.bench b).seq.main ((s.bench b).seq.before + (s.bench b).seq.length)
  rw [← ht] at self
  have shows := latchView_shows (v.modBench b (fun x => { x with state := st })) b
  have todEpoch : v.ring.todEpoch = s.ring.todEpoch := by rw [sees.ring]
  obtain ⟨d, p, accSeen, delay, lines, status, prioSeen, tagSeen, debug, e⟩ := endPeriod_eq (s.bench b) late
  have pulses : (v.bench b).pulses = (s.bench b).pulses := by rw [hb, e]
  have seq : (v.bench b).seq = { (s.bench b).seq with completed := (s.bench b).seq.completed + 1 } := by rw [hb, e]
  have coefs : (v.bench b).coefs = (s.bench b).coefs := by rw [hb, e]
  have view : (v.bench b).view = (s.bench b).view := by rw [hb, e]
  rw [State.modBench_bench_self] at shows
  dsimp only at shows
  rw [pulses, seq] at shows
  refine ⟨?_, ?_, ?_, ?_, ?_, ?_, fun k l hl => ?_, ?_, ?_⟩
  case refine_2 =>
    rw [cycles, self, Bench.begin, seq, sees.frame]
  case refine_4 =>
    rw [self, Bench.begin, coefs]
  case refine_5 =>
    rw [self]
    refine shows_congr ?_ shows
    exact ⟨sees.straps, sees.faults, sees.sense, sees.frame, sees.powerCycle, sees.ring, sees.entry, sees.delivered⟩
  case refine_6 =>
    rw [self]
    have known : ((v.modBench b (fun x => { x with state := st })).bench b).view = (s.bench b).view := by
      rw [State.modBench_bench_self]
      exact view
    rw [Bench.begin, State.latchView]
    dsimp only
    rw [known]
    exact congrArg (fun n : Word => decide ((s.bench b).view.todEpoch ≠ n)) todEpoch
  case refine_7 =>
    rw [self, Bench.begin, hb]
    dsimp only
    rw [List.getElem?_map, endPeriod_lines _ _ hl]
    rfl
  case refine_8 => rw [self, Bench.begin, hb]
  case refine_9 =>
    rw [self, Bench.begin, hb]
    exact endPeriod_lateCount _ _
  all_goals
    rw [self]
    rfl

/-! ### Results and cells published -/

/-- Changes at distinct places of a vector: each place has its own, and no other. -/
theorem foldl_vmod_keyed {α β : Type} {n : Nat} (l : List (Nat × β)) (f : β → α → α) (v : Vector α n) (i : Fin n)
    (distinct : (l.map Prod.fst).Nodup) :
    (∀ y, (i.val, y) ∈ l → (l.foldl (fun v q => vmod v q.1 (f q.2)) v)[i] = f y v[i]) ∧
    (i.val ∉ l.map Prod.fst → (l.foldl (fun v q => vmod v q.1 (f q.2)) v)[i] = v[i]) := by
  induction l generalizing v with
  | nil => exact ⟨nofun, fun _ => rfl⟩
  | cons q rest ih =>
    obtain ⟨k, z⟩ := q
    rw [List.map_cons, List.nodup_cons] at distinct
    obtain ⟨new, distinct⟩ := distinct
    obtain ⟨here, away⟩ := ih (vmod v k (f z)) distinct
    have slot := vmod_getElem v k (f z) i
    refine ⟨fun y hy => ?_, fun hn => ?_⟩
    · rw [List.foldl_cons]
      rcases List.mem_cons.mp hy with e | later
      · cases e
        rw [away new, slot, if_pos rfl]
      · have ne : i.val ≠ k := by
          rintro rfl
          exact new (List.mem_map.mpr ⟨_, later, rfl⟩)
        rw [here y later, slot, if_neg ne]
    · rw [List.map_cons, List.mem_cons, not_or] at hn
      rw [List.foldl_cons, away hn.2, slot, if_neg hn.1]

theorem find?_filter_ne {β : Type} (l : List (Nat × β)) {c k : Nat} (h : c ≠ k) :
    (l.filter (fun x => decide (x.1 ≠ k))).find? (fun x => decide (x.1 = c)) = l.find? (fun x => decide (x.1 = c)) := by
  rw [List.find?_filter]
  congr 1
  funext x
  by_cases e : x.1 = c
  · simp [e, h]
  · simp [e]

theorem modOwn_find? (r : Ring) (k c : Nat) (f : OwnCell → OwnCell) : (r.modOwn k f).own.find? (fun x => decide (x.1 = c)) =
    if c = k then some (k, f (((r.own.find? (fun x => decide (x.1 = k))).map (·.2)).getD ⟨none, none⟩))
    else r.own.find? (fun x => decide (x.1 = c)) := by
  rw [Ring.modOwn]
  by_cases e : c = k
  · subst e
    rw [if_pos rfl, List.find?_cons_of_pos (by simp)]
  · rw [if_neg e, List.find?_cons_of_neg (by simpa using Ne.symm e), find?_filter_ne _ e]

/-- Publications of distinct cells: each cell has its own, and no other. -/
theorem foldl_modOwn_keyed (l : List (Nat × Word)) (r : Ring) (c : Nat) (distinct : (l.map Prod.fst).Nodup) :
    (∀ v, (c, v) ∈ l → ∃ o, (l.foldl (fun r q => r.modOwn q.1 (fun o => { o with value := some q.2 })) r).own.find?
      (fun x => decide (x.1 = c)) = some (c, o) ∧ o.value = some v) ∧
    (c ∉ l.map Prod.fst → (l.foldl (fun r q => r.modOwn q.1 (fun o => { o with value := some q.2 })) r).own.find?
      (fun x => decide (x.1 = c)) = r.own.find? (fun x => decide (x.1 = c))) := by
  induction l generalizing r with
  | nil => exact ⟨nofun, fun _ => rfl⟩
  | cons q rest ih =>
    obtain ⟨k, z⟩ := q
    rw [List.map_cons, List.nodup_cons] at distinct
    obtain ⟨new, distinct⟩ := distinct
    obtain ⟨here, away⟩ := ih (r.modOwn k (fun o => { o with value := some z })) distinct
    refine ⟨fun v hv => ?_, fun hn => ?_⟩
    · rw [List.foldl_cons]
      rcases List.mem_cons.mp hv with e | hv
      · cases e
        exact ⟨_, (away new).trans ((modOwn_find? ..).trans (if_pos rfl)), rfl⟩
      · exact here v hv
    · rw [List.map_cons, List.mem_cons, not_or] at hn
      rw [List.foldl_cons, away hn.2, modOwn_find?, if_neg hn.1]

theorem foldl_modCells (l : List (Nat × Word)) (s : State) :
    l.foldl (fun s c => s.modCells [c.1] (fun o => { o with value := some c.2 })) s =
      { s with ring := l.foldl (fun r q => r.modOwn q.1 (fun o => { o with value := some q.2 })) s.ring } := by
  induction l generalizing s with
  | nil => rfl
  | cons q rest ih => rw [List.foldl_cons, ih]; rfl

/-! ### Audio outputs published -/

/-- The sample staged for a route, or 0. -/
def Route.sample (r : Route) (outputs : List (Nat × Word)) : Word :=
  ((outputs.find? (fun o => decide (o.1 = r.ix))).map Prod.snd).getD 0

/-- A port after a bench's publication. -/
def AudioPort.published (y : AudioPort) (role time : Nat) (b : BenchId) (outputs : List (Nat × Word)) : AudioPort :=
  match y.entry with
  | none => y
  | some (_, e) =>
    if roleInput role then y
    else (e.routes.filter (fun r => decide (r.bench = b))).foldl (fun y r => y.publish role time r (r.sample outputs)) y

theorem modSap_sap (s : State) (p q : SapId) (f : AudioPort → AudioPort) : (s.modSap p f).sap q = if q = p then f (s.sap q) else s.sap q := by
  by_cases h : q = p
  · subst h
    simp [State.modSap, State.sap]
  · have hv : p.val ≠ q.val := fun e => h (Fin.ext e.symm)
    simp [State.modSap, State.sap, hv, h]

theorem foldl_modSap_same {β : Type} (l : List β) (p : SapId) (f : β → AudioPort → AudioPort) (s : State) :
    l.foldl (fun s r => s.modSap p (f r)) s = s.modSap p (fun y => l.foldl (fun y r => f r y) y) := by
  induction l generalizing s with
  | nil => simp [State.modSap]
  | cons r rest ih =>
    rw [List.foldl_cons, ih]
    simp [State.modSap]

theorem publishSap_sap (s : State) (b : BenchId) (outputs : List (Nat × Word)) (p q : SapId) :
    (s.publishSap b outputs p).sap q = if q = p then (s.sap q).published (s.portRole q) s.clock.time b outputs else s.sap q := by
  rw [State.publishSap]
  by_cases h : q = p
  · subst h
    rw [if_pos rfl, AudioPort.published]
    cases (s.sap q).entry with
    | none => rfl
    | some k =>
      obtain ⟨y, e⟩ := k
      dsimp only
      split
      · rfl
      · have time (l : List Route) (u : State) (hu : u.clock.time = s.clock.time) :
            l.foldl (fun u r => u.modSap q (fun x => x.publish (s.portRole q) u.clock.time r (r.sample outputs))) u =
              l.foldl (fun u r => u.modSap q (fun x => x.publish (s.portRole q) s.clock.time r (r.sample outputs))) u := by
          induction l generalizing u with
          | nil => rfl
          | cons r rest ih =>
            rw [List.foldl_cons, List.foldl_cons, hu]
            exact ih _ hu
        have e' := time (e.routes.filter (fun r => decide (r.bench = b))) s rfl
        rw [foldl_modSap_same _ q (fun r x => x.publish (s.portRole q) s.clock.time r (r.sample outputs))] at e'
        refine (congrArg (·.sap q) e').trans ?_
        rw [modSap_sap, if_pos rfl]
  · rw [if_neg h]
    split
    · rfl
    · dsimp only
      split
      · rfl
      · refine foldl_keeps (f := fun u : State => u.sap q) (fun u r => ?_) s _
        rw [modSap_sap, if_neg h]

theorem publishSap_eq (s : State) (b : BenchId) (outputs : List (Nat × Word)) (p : SapId) :
    s.publishSap b outputs p = { s with audio := (s.publishSap b outputs p).audio } := by
  rw [State.publishSap]
  split
  · rfl
  · dsimp only
    split
    · rfl
    · exact foldl_audio (fun u r => rfl) s _

theorem publishAudio_eq (s : State) (b : BenchId) (outputs : List (Nat × Word)) :
    s.publishAudio b outputs = { s with audio := (s.publishAudio b outputs).audio } :=
  foldl_audio (fun u p => publishSap_eq u b outputs p) s _

/-- Each port publishes once. -/
theorem publishAudio_sap (s : State) (b : BenchId) (outputs : List (Nat × Word)) (p : SapId) :
    (s.publishAudio b outputs).sap p = (s.sap p).published (s.portRole p) s.clock.time b outputs := by
  have fold (l : List SapId) (distinct : l.Nodup) (u : State) (role : u.portRole p = s.portRole p) (time : u.clock.time = s.clock.time) :
      (l.foldl (fun s p => s.publishSap b outputs p) u).sap p =
        if p ∈ l then (u.sap p).published (s.portRole p) s.clock.time b outputs else u.sap p := by
    induction l generalizing u with
    | nil => rfl
    | cons q rest ih =>
      obtain ⟨new, distinct⟩ := List.nodup_cons.mp distinct
      have straps : (u.publishSap b outputs q).straps = u.straps := by rw [publishSap_eq]
      have clock : (u.publishSap b outputs q).clock = u.clock := by rw [publishSap_eq]
      rw [List.foldl_cons, ih distinct _ ((portRole_congr straps p).trans role) (by rw [clock, time]), publishSap_sap, role, time]
      by_cases e : p = q
      · subst e
        simp [new]
      · simp only [if_neg e, List.mem_cons, or_iff_right e]
  rw [State.publishAudio, fold _ (List.nodup_finRange 8) s rfl rfl, if_pos (List.mem_finRange p)]

end Sys2Proof.Machine
end

section
/-! SUPPORT. What the end of a bench's period publishes. -/
namespace Sys2Proof.Machine

/-! ### Audio outputs -/

theorem AudioPort.publish_entry (y : AudioPort) (role time : Nat) (r : Route) (v : Word) : (y.publish role time r v).entry = y.entry := by
  rw [AudioPort.publish]
  split
  · split
    · split <;> rfl
    · rfl
  · rfl

theorem AudioPort.publish_delivered (y : AudioPort) (role time : Nat) (r : Route) (v : Word) :
    (y.publish role time r v).delivered = y.delivered := by
  rw [AudioPort.publish]
  split
  · split
    · split <;> rfl
    · rfl
  · rfl

theorem AudioPort.published_entry (y : AudioPort) (role time : Nat) (b : BenchId) (outputs : List (Nat × Word)) :
    (y.published role time b outputs).entry = y.entry := by
  rw [AudioPort.published]
  split
  · rfl
  · split
    · rfl
    · exact foldl_keeps (f := AudioPort.entry) (fun y r => y.publish_entry role time r _) _ _

theorem AudioPort.published_delivered (y : AudioPort) (role time : Nat) (b : BenchId) (outputs : List (Nat × Word)) :
    (y.published role time b outputs).delivered = y.delivered := by
  rw [AudioPort.published]
  split
  · rfl
  · split
    · rfl
    · exact foldl_keeps (f := AudioPort.delivered) (fun y r => y.publish_delivered role time r _) _ _

theorem AudioPort.publish_pub (y : AudioPort) (time : Nat) (z : Route) (v : Word) (k : Fin 16) :
    ((y.publish 3 time z v).slots[k]).pub = if k.val = z.slot then (z.second, v) :: (y.slots[k]).pub else (y.slots[k]).pub := by
  have e := vmod_getElem y.slots z.slot (fun x => { x.start z.second with pub := if (3 : Nat) = 3 then (z.second, v) :: x.pub else x.pub }) k
  refine (congrArg AudioSlot.pub e).trans ?_
  split <;> rfl

/-- A master output carries the sample of the one route of its place. -/
theorem foldl_publish_master (l : List Route) (y : AudioPort) (time : Nat) (outputs : List (Nat × Word)) (r : Route) (k : Fin 16)
    (hk : r.slot = k.val) (only : ∀ q ∈ l, q.slot = r.slot → q.second = r.second → q = r) :
    pubAt ((l.foldl (fun y r => y.publish 3 time r (r.sample outputs)) y).slots[k]).pub r.second =
      if r ∈ l then some (r.sample outputs) else pubAt (y.slots[k]).pub r.second := by
  induction l generalizing y with
  | nil => rfl
  | cons z rest ih =>
    rw [List.foldl_cons, ih _ (fun q hq => only q (List.mem_cons_of_mem _ hq)), AudioPort.publish_pub]
    by_cases place : k.val = z.slot ∧ z.second = r.second
    · have e : z = r := only z (List.mem_cons_self ..) (by rw [hk, place.1]) place.2
      subst e
      simp [place.1, pubAt]
    · have ne : r ≠ z := by
        rintro rfl
        exact place ⟨hk.symm, rfl⟩
      have skip : pubAt (if k.val = z.slot then (z.second, z.sample outputs) :: (y.slots[k]).pub else (y.slots[k]).pub) r.second =
          pubAt (y.slots[k]).pub r.second := by
        split
        · next h =>
          have other : (z.second == r.second) = false := by
            simpa using fun e => place ⟨h, e⟩
          rw [pubAt, List.find?_cons, other]
          rfl
        · rfl
      rw [skip]
      simp only [List.mem_cons, or_iff_right ne]

/-- The latest publication of a follower output, at a strobe. -/
def AudioPort.latest (y : AudioPort) (time : Nat) (q : Nat × Bool × Word) : Prop := ∃ l, y.pubs.head? = some (time, l) ∧ q ∈ l

theorem AudioPort.publish_latest (y : AudioPort) (time : Nat) (z : Route) (v : Word) :
    (y.publish 4 time z v).latest time (z.slot, z.second, v) := by
  rw [AudioPort.publish, if_pos rfl]
  split
  · split
    · next h => exact ⟨_, by rw [← h]; rfl, List.mem_cons_self ..⟩
    · exact ⟨_, rfl, List.mem_cons_self ..⟩
  · exact ⟨_, rfl, List.mem_cons_self ..⟩

theorem AudioPort.publish_latest_of {y : AudioPort} {time : Nat} {q : Nat × Bool × Word} (h : y.latest time q) (z : Route) (v : Word) :
    (y.publish 4 time z v).latest time q := by
  obtain ⟨l, hl, hq⟩ := h
  rw [AudioPort.publish, if_pos rfl]
  split
  · next f l' rest hp =>
    rw [hp] at hl
    cases hl
    rw [if_pos rfl]
    exact ⟨_, rfl, List.mem_cons_of_mem _ hq⟩
  · next hp =>
    rw [hp] at hl
    cases hl

/-- A follower output has the sample of each of its routes in the latest publication. -/
theorem foldl_publish_follower (l : List Route) (y : AudioPort) (time : Nat) (outputs : List (Nat × Word)) (r : Route)
    (h : r ∈ l ∨ y.latest time (r.slot, r.second, r.sample outputs)) :
    (l.foldl (fun y r => y.publish 4 time r (r.sample outputs)) y).latest time (r.slot, r.second, r.sample outputs) := by
  induction l generalizing y with
  | nil => exact h.resolve_left List.not_mem_nil
  | cons z rest ih =>
    rw [List.foldl_cons]
    refine ih _ ?_
    rcases h with h | h
    · rcases List.mem_cons.mp h with rfl | h
      · exact .inr (AudioPort.publish_latest ..)
      · exact .inl h
    · exact .inr (AudioPort.publish_latest_of h z _)

section
variable {y : AudioPort} {x : TenantId} {e : PortEntry} {time : Nat} {b : BenchId} {outputs : List (Nat × Word)} {r : Route}

theorem published_master (he : y.entry = some (x, e)) (hr : r ∈ e.routes) (hb : r.bench = b) {k : Fin 16} (hk : r.slot = k.val)
    (only : ∀ q ∈ e.routes, q.slot = r.slot → q.second = r.second → q = r) :
    pubAt ((y.published 3 time b outputs).slots[k]).pub r.second = some (r.sample outputs) := by
  rw [AudioPort.published, he]
  dsimp only
  rw [if_neg (by decide), foldl_publish_master _ _ _ _ r k hk fun q hq => only q (List.mem_filter.mp hq).1,
    if_pos (List.mem_filter.mpr ⟨hr, decide_eq_true hb⟩)]

theorem published_follower (he : y.entry = some (x, e)) (hr : r ∈ e.routes) (hb : r.bench = b) :
    (y.published 4 time b outputs).latest time (r.slot, r.second, r.sample outputs) := by
  rw [AudioPort.published, he]
  dsimp only
  rw [if_neg (by decide)]
  exact foldl_publish_follower _ _ _ _ r (.inl (List.mem_filter.mpr ⟨hr, decide_eq_true hb⟩))

end

/-! ### The plan request -/

theorem requestPlan_eq (s : State) (b : BenchId) (p : Option (BitVec 3)) :
    ∃ asked pending, s.requestPlan b p = { s with clock := { s.clock with asked := asked, pending := pending } } := by
  unfold State.requestPlan
  split
  · exact ⟨_, _, rfl⟩
  · split
    · exact ⟨_, _, rfl⟩
    · split
      · exact ⟨_, _, rfl⟩
      · exact ⟨_, _, rfl⟩

theorem requestPlan_pending {s : State} {b : BenchId} {ix : BitVec 3} {w : Word} (known : s.planWord ix.toNat = some w)
    (first : s.outranked b = false) : (s.requestPlan b (some ix)).clock.pending =
      if s.clock.plan.toNat / 2 ^ 13 % 8 = ix.toNat then none else some { word := w, e := s.clock.frame } := by
  simp only [State.requestPlan, known, first, Bool.false_eq_true, if_false, decide_eq_true_eq]

theorem planWord_congr {s u : State} (ht : u.tenants = s.tenants) (hs : u.straps = s.straps) (ix : Nat) : u.planWord ix = s.planWord ix := by
  rw [State.planWord, State.planWord, State.tenant, State.tenant, ht, code_congr hs]

/-! ### Everything published -/

/-- A bench with these results published. -/
def Bench.publishResults (x : Bench) (g : List (Nat × Word)) : Bench :=
  { x with results := g.foldl (fun rs r => vmod rs r.1 (fun y => y.publish r.2)) x.results }

/-- The own cells with these publications. -/
def Ring.publishCells (r : Ring) (g : List (Nat × Word)) : Ring := g.foldl (fun r q => r.modOwn q.1 (fun o => { o with value := some q.2 })) r

theorem publishCells_own (r : Ring) (g : List (Nat × Word)) : ∃ own, r.publishCells g = { r with own := own } := by
  induction g generalizing r with
  | nil => exact ⟨r.own, rfl⟩
  | cons q rest ih =>
    obtain ⟨own, e⟩ := ih (r.modOwn q.1 (fun o => { o with value := some q.2 }))
    exact ⟨own, e⟩

/-- The state with the results and cells of a bench's period published, and its audio outputs. -/
def State.publishWords (s : State) (b : BenchId) (g : Stage) : State :=
  ({ s.modBench b (fun x => x.publishResults g.results) with ring := s.ring.publishCells g.cells } : State).publishAudio b g.outputs

theorem publish_eq (s : State) (b : BenchId) :
    s.publish b = (s.publishWords b (s.bench b).stage).requestPlan b (s.bench b).stage.plan := by
  rw [State.publish, foldl_modCells]
  rfl

section
variable (s : State) (b : BenchId) (g : Stage)

theorem publishWords_eq : ∃ audio, s.publishWords b g =
    { s.modBench b (fun x => x.publishResults g.results) with ring := s.ring.publishCells g.cells, audio := audio } :=
  ⟨_, publishAudio_eq _ _ _⟩

theorem publishWords_clock : (s.publishWords b g).clock = s.clock := by
  obtain ⟨audio, e⟩ := publishWords_eq s b g
  rw [e, State.modBench_clock]

theorem publishWords_tenants : (s.publishWords b g).tenants = s.tenants := by
  obtain ⟨audio, e⟩ := publishWords_eq s b g
  rw [e, State.modBench_tenants]

theorem publishWords_straps : (s.publishWords b g).straps = s.straps := by
  obtain ⟨audio, e⟩ := publishWords_eq s b g
  rw [e, State.modBench_straps]

theorem publishWords_sap (p : SapId) : (s.publishWords b g).sap p = (s.sap p).published (s.portRole p) s.clock.time b g.outputs := by
  rw [State.publishWords, publishAudio_sap]
  simp only [State.sap, State.portRole, State.code, State.modBench_audio, State.modBench_straps, State.modBench_clock]

end

section
variable {s : State} {b : BenchId} {g : Stage} (hg : (s.bench b).stage = g)
include hg

theorem publish_sap (p : SapId) : (s.publish b).sap p = (s.sap p).published (s.portRole p) s.clock.time b g.outputs := by
  subst hg
  obtain ⟨asked, pending, e⟩ := requestPlan_eq (s.publishWords b (s.bench b).stage) b (s.bench b).stage.plan
  rw [publish_eq, e, ← publishWords_sap s b]
  simp only [State.sap]

/-- What a publication changes at all, but for the audio ports. -/
theorem publish_parts : ∃ audio asked pending, s.publish b = { s.modBench b (fun x => x.publishResults g.results) with
    ring := s.ring.publishCells g.cells, audio := audio, clock := { s.clock with asked := asked, pending := pending } } := by
  subst hg
  obtain ⟨audio, e⟩ := publishWords_eq s b (s.bench b).stage
  obtain ⟨asked, pending, e'⟩ := requestPlan_eq (s.publishWords b (s.bench b).stage) b (s.bench b).stage.plan
  exact ⟨audio, asked, pending, by rw [publish_eq, e', e]; rfl⟩

theorem publish_bench : (s.publish b).bench b = (s.bench b).publishResults g.results := by
  obtain ⟨audio, asked, pending, e⟩ := publish_parts hg
  have same : (s.publish b).benches = (s.modBench b (fun x => x.publishResults g.results)).benches := by rw [e]
  rw [State.bench, same]
  exact State.modBench_bench_self s b _

theorem publish_ring : (s.publish b).ring = s.ring.publishCells g.cells := by
  obtain ⟨audio, asked, pending, e⟩ := publish_parts hg
  rw [e]

theorem publish_pending {ix : BitVec 3} {w : Word} (asks : g.plan = some ix) (known : s.planWord ix.toNat = some w)
    (first : s.outranked b = false) : (s.publish b).clock.pending =
      if s.clock.plan.toNat / 2 ^ 13 % 8 = ix.toNat then none else some { word := w, e := s.clock.frame } := by
  subst hg
  have word : (s.publishWords b (s.bench b).stage).planWord ix.toNat = some w :=
    (planWord_congr (publishWords_tenants s b _) (publishWords_straps s b _) _).trans known
  have top : (s.publishWords b (s.bench b).stage).outranked b = false := by
    rw [State.outranked, publishWords_clock]
    exact first
  rw [publish_eq, asks, requestPlan_pending word top, publishWords_clock]

theorem publish_sees : s.Sees (s.publish b) := by
  have entry (p : SapId) : ((s.publish b).sap p).entry = (s.sap p).entry := by rw [publish_sap hg, AudioPort.published_entry]
  have delivered (p : SapId) : ((s.publish b).sap p).delivered = (s.sap p).delivered := by
    rw [publish_sap hg, AudioPort.published_delivered]
  obtain ⟨audio, asked, pending, e⟩ := publish_parts hg
  obtain ⟨own, ring⟩ := publishCells_own s.ring g.cells
  rw [ring] at e
  have fields : (s.publish b).straps = s.straps ∧ (s.publish b).faults = s.faults ∧ (s.publish b).sense = s.sense ∧
      (s.publish b).clock.frame = s.clock.frame ∧ (s.publish b).wb = s.wb := by
    rw [e]
    exact ⟨rfl, rfl, rfl, rfl, rfl⟩
  obtain ⟨straps, faults, sense, frame, wb⟩ := fields
  exact ⟨straps, faults, sense, frame, by rw [wb], by rw [e], entry, delivered⟩

end

end Sys2Proof.Machine
end

section
/-! SUPPORT. The end of a bench's period as a command. -/
namespace Sys2Proof.Machine

/-- A bench that runs stays RUNNING or LATE without an event. -/
theorem setBenchState_quiet {v : State} {b : BenchId} {st : BenchState} (active : (v.bench b).state = .running ∨ (v.bench b).state = .late)
    (runs : st = .running ∨ st = .late) : v.setBenchState b st = v.modBench b (fun x => { x with state := st }) := by
  have quiet : stateEvent (v.bench b).state st = false := by
    rcases active with a | a <;> rcases runs with rfl | rfl <;> rw [a] <;> decide
  rw [State.setBenchState, quiet]
  rfl

/-- The state with everything of a bench's period that ends, before the next begins. -/
def State.periodOver (s : State) (b : BenchId) (late : Bool) : State :=
  let u := s.modBench b (fun y => y.endPeriod late)
  if late then u.raiseOwner b 0 else if (s.bench b).acked then u.publish b else u

section
variable {s : State} {b : BenchId}

theorem periodEnds_active (h : s.periodEnds b = true) : (s.bench b).state = .running ∨ (s.bench b).state = .late := by
  simp only [State.periodEnds, Bench.active, Bool.and_eq_true, Bool.or_eq_true, decide_eq_true_eq] at h
  exact h.1.1.1.1.2

theorem endPeriod_state (x : Bench) (late : Bool) : (x.endPeriod late).state = x.state := by
  obtain ⟨d, p, accSeen, delay, lines, status, prioSeen, tagSeen, debug, e⟩ := endPeriod_eq x late
  rw [e]

theorem endPeriod_stage (x : Bench) (late : Bool) : (x.endPeriod late).stage = x.stage := by
  obtain ⟨d, p, accSeen, delay, lines, status, prioSeen, tagSeen, debug, e⟩ := endPeriod_eq x late
  rw [e]

theorem endPeriod_results (x : Bench) (late : Bool) : (x.endPeriod late).results = x.results := by
  obtain ⟨d, p, accSeen, delay, lines, status, prioSeen, tagSeen, debug, e⟩ := endPeriod_eq x late
  rw [e]

/-- The bench after its period, with what it has published. -/
theorem periodOver_bench (late : Bool) : ∃ rs, (s.periodOver b late).bench b = { (s.bench b).endPeriod late with results := rs } ∧
    (late = true ∨ (s.bench b).acked = false → rs = (s.bench b).results) ∧
    (late = false → (s.bench b).acked = true → rs = (s.bench b).stage.results.foldl (fun rs r => vmod rs r.1 (fun y => y.publish r.2))
      (s.bench b).results) := by
  rw [State.periodOver]
  cases late with
  | true =>
    refine ⟨_, ?_, fun _ => endPeriod_results (s.bench b) true, nofun⟩
    rw [if_pos rfl, State.raiseOwner_bench, State.modBench_bench_self]
  | false =>
    rw [if_neg Bool.false_ne_true]
    cases acked : (s.bench b).acked with
    | true =>
      refine ⟨(s.bench b).stage.results.foldl (fun rs r => vmod rs r.1 (fun y => y.publish r.2)) (s.bench b).results, ?_, fun h => ?_,
        fun _ _ => rfl⟩
      · rw [if_pos rfl, publish_bench rfl, State.modBench_bench_self, endPeriod_stage, Bench.publishResults, endPeriod_results]
      · rcases h with h | h <;> cases h
    | false =>
      refine ⟨_, ?_, fun _ => endPeriod_results (s.bench b) false, nofun⟩
      rw [if_neg Bool.false_ne_true, State.modBench_bench_self]

theorem modBench_sees (g : Bench → Bench) : s.Sees (s.modBench b g) := ⟨rfl, rfl, rfl, rfl, rfl, rfl, fun _ => rfl, fun _ => rfl⟩

theorem State.Sees.trans {u v : State} (h : s.Sees u) (k : u.Sees v) : s.Sees v :=
  ⟨k.straps.trans h.straps, k.faults.trans h.faults, k.sense.trans h.sense, k.frame.trans h.frame, k.powerCycle.trans h.powerCycle,
    by rw [k.ring, h.ring], fun p => (k.entry p).trans (h.entry p), fun p => (k.delivered p).trans (h.delivered p)⟩

theorem raiseOwner_sees (n : Nat) : s.Sees (s.raiseOwner b n) := by
  rw [raiseOwner_eq_tenants]
  exact ⟨rfl, rfl, rfl, rfl, rfl, rfl, fun _ => rfl, fun _ => rfl⟩

theorem periodOver_sees (late : Bool) : s.Sees (s.periodOver b late) := by
  refine (modBench_sees (b := b) (fun y => y.endPeriod late)).trans ?_
  rw [State.periodOver]
  split
  · exact raiseOwner_sees 0
  · split
    · exact publish_sees rfl
    · exact ⟨rfl, rfl, rfl, rfl, rfl, rfl, fun _ => rfl, fun _ => rfl⟩

/-- The command where the bench's period ends. -/
theorem benchPeriodEnd_eq (h : s.periodEnds b = true) {late : Bool} {st : BenchState}
    (hl : late = (decide ((s.bench b).seq.issued < (s.bench b).seq.length) && (s.bench b).acked)) (hs : st = if late then .late else .running) :
    s.benchPeriodEnd b = (s.periodOver b late).nextPeriod b st (s.bench b).seq.main ((s.bench b).seq.before + (s.bench b).seq.length) := by
  obtain ⟨rs, e, -⟩ := periodOver_bench (s := s) (b := b) late
  have active : ((s.periodOver b late).bench b).state = .running ∨ ((s.periodOver b late).bench b).state = .late := by
    rw [e]
    dsimp only
    rw [endPeriod_state]
    exact periodEnds_active h
  rw [State.nextPeriod, ← setBenchState_quiet active (by rw [hs]; cases late <;> simp), State.benchPeriodEnd, if_pos h, hs, hl]
  rfl

end

/-! ### A period that ends LATE -/

theorem events_raise {s : State} {x : TenantId} (present : s.present x = true) (free : (s.tenant x).held = false) (n : Nat) (lt : n < 32) :
    ((s.raise x n).tenant x).events.getLsbD n = true := by
  rw [State.raise, if_pos ⟨present, free⟩, State.modTenant_tenant_self]
  simp [lt]

/-- A LATE period publishes nothing, counts, and raises LATE for the bench's owner. -/
theorem periodOver_late {s v : State} {b : BenchId} (hv : v = s.periodOver b true) : v.audio = s.audio ∧ v.clock = s.clock ∧ v.ring = s.ring ∧
    ∀ x, s.owner b = some x → s.present x = true → (s.tenant x).held = false → (v.tenant x).events.getLsbD 0 = true := by
  have e : v = (s.modBench b (fun y => y.endPeriod true)).raiseOwner b 0 := hv
  have parts : v.audio = s.audio ∧ v.clock = s.clock ∧ v.ring = s.ring := by
    rw [e, raiseOwner_eq_tenants]
    exact ⟨rfl, rfl, rfl⟩
  obtain ⟨audio, clock, ring⟩ := parts
  refine ⟨audio, clock, ring, fun x own present free => ?_⟩
  have owner : (s.modBench b (fun y => y.endPeriod true)).owner b = some x := own
  rw [e, State.raiseOwner, owner]
  exact events_raise (s := s.modBench b (fun y => y.endPeriod true)) present free 0 (by decide)

/-- A period whose bench failed the handshake publishes nothing. -/
theorem periodOver_unacked {s : State} {b : BenchId} (h : (s.bench b).acked = false) :
    s.periodOver b false = s.modBench b (fun y => y.endPeriod false) := by
  rw [State.periodOver]
  rw [if_neg Bool.false_ne_true, h]
  rfl

/-- A period that ends in time is published. -/
theorem periodOver_published {s : State} {b : BenchId} (h : (s.bench b).acked = true) :
    s.periodOver b false = (s.modBench b (fun y => y.endPeriod false)).publish b := by
  rw [State.periodOver]
  rw [if_neg Bool.false_ne_true, h]
  rfl

/-! ### The command -/

/-- The end of the period of a bench that answered the handshake. -/
theorem periodEnd_acked {b : BenchId} {s : State} (ends : s.periodEnds b = true) (acked : (s.bench b).acked = true) :
    ∃ t, exec (.benchPeriodEnd b) s = .next t ∧
      (t.bench b).state = (if (s.bench b).seq.issued < (s.bench b).seq.length then .late else .running) ∧
      (t.bench b).seq = { (s.bench b).seq with
        vector := (s.bench b).seq.main, issued := 0, before := (s.bench b).seq.before + (s.bench b).seq.length
        completed := (s.bench b).seq.completed + 1, start := s.clock.frame, due := s.clock.frame + (s.bench b).seq.divisor
        granted := t.benchCycles, stretch := 0 } ∧
      (t.bench b).stage = Stage.empty ∧ (t.bench b).coefs.view = (s.bench b).coefs.inForce ∧
      s.shows b (some (s.bench b).seq.start) (s.bench b).pulses (t.bench b).view ∧
      (t.bench b).view.todChanged = decide ((s.bench b).view.todEpoch ≠ s.ring.todEpoch) ∧
      (∀ (k : Nat) (l : LineState), (s.bench b).lines[k]? = some l →
        (t.bench b).lines[k]? = some { l with w := (l.w + 1) % l.length, f := min (l.f + 1) l.length, fresh := false }) ∧
      ((s.bench b).seq.issued < (s.bench b).seq.length →
        (t.bench b).results = (s.bench b).results ∧ t.audio = s.audio ∧ t.clock = s.clock ∧ t.ring = s.ring ∧
        (t.bench b).status.lateCount =
          (if (s.bench b).status.lateCount = 0xffff then 0xffff else (s.bench b).status.lateCount + 1) ∧
        ∀ x, s.owner b = some x → s.present x = true → (s.tenant x).held = false → (t.tenant x).events.getLsbD 0 = true) ∧
      ((s.bench b).seq.length ≤ (s.bench b).seq.issued → ((s.bench b).stage.results.map Prod.fst).Nodup →
        ∀ i : Fin 64, (∀ v, (i.val, v) ∈ (s.bench b).stage.results → ∀ r, r = (s.bench b).results[i] →
            (t.bench b).results[i] = ⟨v, if r.seq = 0 ∨ r.seq = 0xffff then 1 else r.seq + 1, true⟩) ∧
          (i.val ∉ (s.bench b).stage.results.map Prod.fst → (t.bench b).results[i] = (s.bench b).results[i])) ∧
      ((s.bench b).seq.length ≤ (s.bench b).seq.issued → ((s.bench b).stage.cells.map Prod.fst).Nodup → ∀ c : Nat,
        (∀ v, (c, v) ∈ (s.bench b).stage.cells →
          ∃ o, t.ring.own.find? (fun x => decide (x.1 = c)) = some (c, o) ∧ o.value = some v) ∧
        (c ∉ (s.bench b).stage.cells.map Prod.fst →
          t.ring.own.find? (fun x => decide (x.1 = c)) = s.ring.own.find? (fun x => decide (x.1 = c)))) ∧
      ((s.bench b).seq.length ≤ (s.bench b).seq.issued →
        ∀ (p : SapId) (x : TenantId) (e : PortEntry) (r : Route) (k : Fin 16) (v : Word),
        (s.sap p).entry = some (x, e) → r ∈ e.routes → r.bench = b → r.slot = k.val →
        (∀ q ∈ e.routes, q.slot = r.slot → q.second = r.second → q = r) →
        v = ((((s.bench b).stage.outputs.find? (fun o => decide (o.1 = r.ix))).map Prod.snd).getD 0) →
        (s.portRole p = 3 → pubAt ((t.sap p).slots[k]).pub r.second = some v) ∧
        (s.portRole p = 4 → ∃ l, (t.sap p).pubs.head? = some (s.clock.time, l) ∧ (r.slot, r.second, v) ∈ l)) ∧
      ((s.bench b).seq.length ≤ (s.bench b).seq.issued → ∀ (ix : BitVec 3) (w : Word), (s.bench b).stage.plan = some ix →
        s.planWord ix.toNat = some w → s.outranked b = false →
        t.clock.pending = if s.clock.plan.toNat / 2 ^ 13 % 8 = ix.toNat then none else some { word := w, e := s.clock.frame }) := by
  obtain ⟨late, hlate⟩ : ∃ late, late = decide ((s.bench b).seq.issued < (s.bench b).seq.length) := ⟨_, rfl⟩
  obtain ⟨st, hst⟩ : ∃ st : BenchState, st = if late then .late else .running := ⟨_, rfl⟩
  have run : st ≠ .armed := by rw [hst]; cases late <;> decide
  obtain ⟨t, ht⟩ : ∃ t, t = (s.periodOver b late).nextPeriod b st (s.bench b).seq.main ((s.bench b).seq.before + (s.bench b).seq.length) := ⟨_, rfl⟩
  have out : exec (.benchPeriodEnd b) s = .next t :=
    congrArg Host.Outcome.next ((benchPeriodEnd_eq ends (by rw [acked, Bool.and_true, hlate]) hst).trans ht.symm)
  obtain ⟨rs, bench, kept, published⟩ := periodOver_bench (s := s) (b := b) late
  obtain ⟨state, seq, stage, view, shows, tod, lines, results, count⟩ := nextPeriod_begins bench (periodOver_sees late) run ht
  obtain ⟨bs, parts⟩ := nextPeriod_eq (s.periodOver b late) b st (s.bench b).seq.main ((s.bench b).seq.before + (s.bench b).seq.length)
  rw [← ht] at parts
  refine ⟨t, out, ?_, seq, stage, view, shows, tod, lines, fun short => ?_, fun whole distinct i => ?_, fun whole distinct c => ?_,
    fun whole p x e r k v entry route hb hk only hv => ?_, fun whole ix w asks known first => ?_⟩
  case refine_1 =>
    rw [state, hst, hlate]
    simp only [decide_eq_true_eq]
  case refine_2 =>
    have isLate : late = true := hlate.trans (decide_eq_true short)
    subst isLate
    obtain ⟨audio, clock, ring, events⟩ := periodOver_late (s := s) (b := b) rfl
    refine ⟨results.trans (kept (.inl rfl)), ?_, ?_, ?_, by rw [count, if_pos rfl, satInc16_eq], fun x own present free => ?_⟩
    · rw [parts, ← audio]
    · rw [parts, ← clock]
    · rw [parts, ← ring]
    · have tenant : t.tenant x = (s.periodOver b true).tenant x := by rw [parts]; rfl
      rw [tenant]
      exact events x own present free
  all_goals
    have inTime : late = false := hlate.trans (decide_eq_false (by omega))
    subst inTime
    rw [periodOver_published acked] at parts
    have stage : ((s.modBench b (fun y => y.endPeriod false)).bench b).stage = (s.bench b).stage := by
      rw [State.modBench_bench_self, endPeriod_stage]
  case refine_3 =>
    obtain ⟨here, away⟩ := foldl_vmod_keyed (s.bench b).stage.results (fun v y => ResultSlot.publish y v) (s.bench b).results i distinct
    rw [results, published rfl acked]
    exact ⟨fun v hv r hr => by rw [here v hv, ← hr]; rfl, away⟩
  case refine_4 =>
    have ring : t.ring = s.ring.publishCells (s.bench b).stage.cells := by
      rw [parts]
      exact (publish_ring stage).trans rfl
    rw [ring]
    exact foldl_modOwn_keyed (s.bench b).stage.cells s.ring c distinct
  case refine_5 =>
    have sap : t.sap p = (s.sap p).published (s.portRole p) s.clock.time b (s.bench b).stage.outputs := by
      have e : t.sap p = ((s.modBench b (fun y => y.endPeriod false)).publish b).sap p := by rw [parts]; simp only [State.sap]
      rw [e, publish_sap stage]
      simp only [State.sap, State.portRole, State.code, State.modBench_audio, State.modBench_straps, State.modBench_clock]
    rw [sap, hv]
    refine ⟨fun master => ?_, fun follower => ?_⟩
    · rw [master]
      exact published_master entry route hb hk only
    · rw [follower]
      exact published_follower entry route hb
  case refine_6 =>
    have clock : t.clock.pending = ((s.modBench b (fun y => y.endPeriod false)).publish b).clock.pending := by rw [parts]
    rw [clock, publish_pending stage asks ((planWord_congr rfl rfl _).trans known) first]
    rfl

/-- The end of the period of a bench that failed the handshake. -/
theorem periodEnd_unacked {b : BenchId} {s : State} (ends : s.periodEnds b = true) (failed : (s.bench b).acked = false) :
    ∃ t, exec (.benchPeriodEnd b) s = .next t ∧ (t.bench b).state = .running ∧
      (t.bench b).seq = { (s.bench b).seq with
        vector := (s.bench b).seq.main, issued := 0, before := (s.bench b).seq.before + (s.bench b).seq.length
        completed := (s.bench b).seq.completed + 1, start := s.clock.frame, due := s.clock.frame + (s.bench b).seq.divisor
        granted := s.benchCycles, stretch := 0 } ∧
      (t.bench b).stage = Stage.empty ∧ (t.bench b).results = (s.bench b).results ∧
      (t.bench b).status.lateCount = (s.bench b).status.lateCount ∧ t.audio = s.audio ∧ t.clock = s.clock ∧ t.ring = s.ring ∧
      t.tenants = s.tenants := by
  obtain ⟨t, ht⟩ : ∃ t, t = (s.periodOver b false).nextPeriod b .running (s.bench b).seq.main
    ((s.bench b).seq.before + (s.bench b).seq.length) := ⟨_, rfl⟩
  have out : exec (.benchPeriodEnd b) s = .next t :=
    congrArg Host.Outcome.next ((benchPeriodEnd_eq ends (by rw [failed, Bool.and_false]) rfl).trans ht.symm)
  obtain ⟨rs, bench, kept, -⟩ := periodOver_bench (s := s) (b := b) false
  obtain ⟨state, seq, stage, -, -, -, -, results, count⟩ := nextPeriod_begins bench (periodOver_sees false) (by decide) ht
  obtain ⟨bs, parts⟩ := nextPeriod_eq (s.periodOver b false) b .running (s.bench b).seq.main ((s.bench b).seq.before + (s.bench b).seq.length)
  rw [← ht, periodOver_unacked failed] at parts
  have same : t.benchCycles = s.benchCycles ∧ t.audio = s.audio ∧ t.clock = s.clock ∧ t.ring = s.ring ∧ t.tenants = s.tenants := by
    rw [parts]
    exact ⟨rfl, rfl, rfl, rfl, rfl⟩
  obtain ⟨cycles, audio, clock, ring, tenants⟩ := same
  exact ⟨t, out, state, by rw [seq, cycles], stage, results.trans (kept (.inr failed)), by rw [count, if_neg Bool.false_ne_true],
    audio, clock, ring, tenants⟩

/-- Settles O41: a release, and the three ways in which a period ends or does not. -/
theorem benchReleaseAndPeriodEnd : Obligations.BenchReleaseAndPeriodEnd := by
  refine ⟨fun b s run strobed armed met => ⟨fun off => ?_, fun slot => releases run strobed armed met slot⟩,
    fun b s ends acked => periodEnd_acked ends acked, fun b s ends failed => periodEnd_unacked ends failed, fun b s up fails => ?_⟩
  · refine congrArg Host.Outcome.next ?_
    rw [State.benchRelease, judgeBench_met met]
    exact if_neg fun h => off h.2.2.2.2
  · refine congrArg Host.Outcome.next (if_neg ?_)
    have found : s.fenceFound b = true := by rw [State.fenceFound, decide_eq_true fails, decide_eq_true up]; rfl
    rw [State.periodEnds, found]
    simp

end Sys2Proof.Machine
end

section
/-! SUPPORT. A bench is fenced. -/
namespace Sys2Proof.Machine

theorem vget_vmod_self {α : Type} {n : Nat} (v : Vector α n) (i : Nat) (d : α) : vget (vmod v i (fun _ => d)) i d = d := by
  unfold vget vmod
  split
  · simp
  · rfl

theorem beBytes_length (n v : Nat) : (beBytes n v).length = n := by
  induction n with
  | zero => rfl
  | succ n ih => rw [beBytes, List.length_cons, ih]

/-- What the steps of a fence keep. -/
structure State.Fencing (b : BenchId) (s t : State) : Prop where
  straps : t.straps = s.straps
  otp : t.otp = s.otp
  clock : t.clock = s.clock
  pit : t.pit = s.pit
  wb : t.wb = s.wb
  held : ∀ x, (t.tenant x).held = (s.tenant x).held
  other : ∀ c, c ≠ b → t.bench c = s.bench c

section
variable {b : BenchId} {s t u : State}

theorem State.Fencing.trans (h : s.Fencing b t) (k : t.Fencing b u) : s.Fencing b u :=
  ⟨k.straps.trans h.straps, k.otp.trans h.otp, k.clock.trans h.clock, k.pit.trans h.pit, k.wb.trans h.wb,
    fun x => (k.held x).trans (h.held x), fun c hc => (k.other c hc).trans (h.other c hc)⟩

theorem State.Fencing.refl (b : BenchId) (s : State) : s.Fencing b s := ⟨rfl, rfl, rfl, rfl, rfl, fun _ => rfl, fun _ _ => rfl⟩

/-- A change of other parts than these is a step of a fence. -/
theorem State.Fencing.of_benches
    (h : t = { s with power := t.power, faults := t.faults, channels := t.channels, ring := t.ring, freeIdx := t.freeIdx }) :
    s.Fencing b t := by
  rw [h]
  exact ⟨rfl, rfl, rfl, rfl, rfl, fun _ => rfl, fun _ _ => rfl⟩

theorem fencing_modBench (g : Bench → Bench) : s.Fencing b (s.modBench b g) :=
  ⟨rfl, rfl, rfl, rfl, rfl, fun _ => rfl, fun _ h => State.modBench_bench_of_ne s g h⟩

theorem raise_held_eq (s : State) (x y : TenantId) (n : Nat) : ((s.raise y n).tenant x).held = (s.tenant x).held := by
  rw [State.raise]
  split
  · by_cases h : x = y
    · subst h
      rw [State.modTenant_tenant_self]
    · rw [State.modTenant_tenant_of_ne s _ h]
  · rfl

theorem fencing_raiseOwner (c : BenchId) (n : Nat) : s.Fencing b (s.raiseOwner c n) := by
  have held (x : TenantId) : ((s.raiseOwner c n).tenant x).held = (s.tenant x).held := by
    rw [State.raiseOwner]
    split
    · exact raise_held_eq ..
    · rfl
  refine ⟨?_, ?_, ?_, ?_, ?_, held, fun d _ => State.raiseOwner_bench s c n d⟩
  all_goals rw [raiseOwner_eq_tenants]

/-- A bench that goes to FENCED raises no BENCH_STATE (Table MBX-6). -/
theorem setBenchState_fenced (s : State) (b : BenchId) : s.setBenchState b .fenced = s.modBench b (fun x => { x with state := .fenced }) := by
  have quiet : stateEvent (s.bench b).state .fenced = false := by
    rw [stateEvent]
    simp
  rw [State.setBenchState, quiet]
  rfl

end

/-! ### The steps of a fence -/

/-- The bench stopped, its reads discarded, in a new rule epoch. -/
def State.fenceStop (s : State) (b : BenchId) : State := ((s.stopBench b .fenced).modBench b (fun x => { x with reads := [] })).newEpoch

theorem stopBench_fenced (s : State) (b : BenchId) : s.stopBench b .fenced = ((s.modBench b Bench.stop).modCells (s.benchCells b)
    (fun c => if c.lastFrame.isSome then c else { c with lastFrame := some s.clock.frame })).modBench b (fun x => { x with state := .fenced }) :=
  setBenchState_fenced _ b

theorem fenceStop_bench (s : State) (b : BenchId) :
    (s.fenceStop b).bench b = { (s.bench b).stop with state := .fenced, reads := [] } := by
  have e : (s.fenceStop b).bench b = ((s.stopBench b .fenced).modBench b (fun x => { x with reads := [] })).bench b := rfl
  rw [e, State.modBench_bench_self, stopBench_fenced, State.modBench_bench_self, State.modCells_bench, State.modBench_bench_self]

theorem fenceStop_fencing (s : State) (b : BenchId) : s.Fencing b (s.fenceStop b) := by
  have other (c : BenchId) (h : c ≠ b) : (s.fenceStop b).bench c = s.bench c := by
    have e : (s.fenceStop b).bench c = ((s.stopBench b .fenced).modBench b (fun x => { x with reads := [] })).bench c := rfl
    rw [e, State.modBench_bench_of_ne _ _ h, stopBench_fenced, State.modBench_bench_of_ne _ _ h, State.modCells_bench,
      State.modBench_bench_of_ne _ _ h]
  refine ⟨?_, ?_, ?_, ?_, ?_, fun x => ?_, other⟩
  all_goals
    rw [State.fenceStop, stopBench_fenced]
    rfl

theorem fenceStop_epoch (s : State) (b : BenchId) : (s.fenceStop b).faults.epoch = s.faults.epoch + 1 := by
  rw [State.fenceStop, stopBench_fenced]
  rfl

section
variable (s : State) (b : BenchId)

/-- The channels to the bench emptied. -/
def State.channelsEmptied (s : State) (b : BenchId) : State :=
  { s with channels := s.channels.map (fun c => if c.isTo b && c.full then c.empty else c) }

theorem emptyTo_eq : s.emptyTo b = s.channelsEmptied b ∨ s.emptyTo b = (s.channelsEmptied b).raiseOwner b 8 := by
  rw [State.emptyTo]
  split
  · exact .inr rfl
  · exact .inl rfl

theorem emptyTo_fencing : s.Fencing b (s.emptyTo b) := by
  have e : s.Fencing b (s.channelsEmptied b) := .of_benches rfl
  rcases emptyTo_eq s b with h | h <;> rw [h]
  · exact e
  · exact e.trans (fencing_raiseOwner b 8)

theorem emptyTo_bench (c : BenchId) : (s.emptyTo b).bench c = s.bench c := by
  rcases emptyTo_eq s b with h | h <;> rw [h]
  · rfl
  · exact State.raiseOwner_bench ..

theorem emptyTo_faults : (s.emptyTo b).faults = s.faults := by
  rcases emptyTo_eq s b with h | h <;> rw [h]
  · rfl
  · rw [raiseOwner_eq_tenants]
    rfl

theorem emptyTo_full : ∀ c ∈ (s.emptyTo b).channels, c.isTo b = true → c.full = false := by
  have e : (s.emptyTo b).channels = (s.channelsEmptied b).channels := by
    rcases emptyTo_eq s b with h | h <;> rw [h]
    rw [raiseOwner_eq_tenants]
  intro c hc sent
  rw [e] at hc
  obtain ⟨d, -, rfl⟩ := List.mem_map.mp hc
  by_cases h : (d.isTo b && d.full) = true
  · rw [if_pos h]
    rfl
  · rw [if_neg h] at sent ⊢
    simpa [sent] using h

theorem refuseCommit_eq : s.refuseCommit b = s ∨
    s.refuseCommit b = (s.modBench b (fun x => { x with coefs := x.coefs.abandon })).raiseOwner b 6 := by
  rw [State.refuseCommit]
  split
  · exact .inr rfl
  · exact .inl rfl

theorem refuseCommit_fencing : s.Fencing b (s.refuseCommit b) := by
  rcases refuseCommit_eq s b with h | h <;> rw [h]
  · exact .refl b s
  · exact (fencing_modBench _).trans (fencing_raiseOwner b 6)

theorem refuseCommit_keeps : (s.refuseCommit b).faults = s.faults ∧ (s.refuseCommit b).channels = s.channels := by
  rcases refuseCommit_eq s b with h | h <;> rw [h]
  · exact ⟨rfl, rfl⟩
  · rw [raiseOwner_eq_tenants]
    exact ⟨rfl, rfl⟩

/-- No commit of the bench waits any more. -/
theorem refuseCommit_bench : ∃ coefs, (s.refuseCommit b).bench b = { s.bench b with coefs := coefs } ∧ coefs.waits = false := by
  rw [State.refuseCommit]
  split
  · next waits =>
    rw [State.raiseOwner_bench, State.modBench_bench_self]
    refine ⟨_, rfl, ?_⟩
    rw [Coefs.waits] at waits
    rw [Coefs.abandon, if_pos waits]
    rfl
  · next free => exact ⟨_, rfl, Bool.eq_false_iff.mpr free⟩

theorem dropOwner_eq (source : Nat) : ∃ f : Faults, s.dropOwner b source = { s with faults := f } ∧ f.epoch = s.faults.epoch := by
  rw [State.dropOwner]
  split
  · exact ⟨_, rfl, rfl⟩
  · exact ⟨_, rfl, rfl⟩

/-- A bench with one remote write less on its way. -/
def Bench.remoteLess (x : Bench) : Bench := { x with remotes := x.remotes - 1 }

/-- One RWR request of a bench discarded. -/
def State.remoteDropped (s : State) (b : BenchId) : State := (s.modBench b Bench.remoteLess).dropOwner b 3

/-- What a discarded RWR request changes: the bench's count and the dropped failures. -/
structure State.Discards (b : BenchId) (s t : State) : Prop where
  fencing : s.Fencing b t
  bench : ∃ n, t.bench b = { s.bench b with remotes := n }
  epoch : t.faults.epoch = s.faults.epoch
  channels : t.channels = s.channels
  ring : t.ring = s.ring

theorem remoteDropped_discards : s.Discards b (s.remoteDropped b) := by
  obtain ⟨f, e, epoch⟩ := dropOwner_eq (s.modBench b Bench.remoteLess) b 3
  have bench : (s.remoteDropped b).bench b = (s.modBench b Bench.remoteLess).bench b := by
    rw [State.remoteDropped, e]
    rfl
  have fencing : (s.modBench b Bench.remoteLess).Fencing b (s.remoteDropped b) := by
    rw [State.remoteDropped, e]
    exact .of_benches rfl
  refine ⟨(fencing_modBench _).trans fencing, ⟨(s.bench b).remotes - 1, bench.trans (State.modBench_bench_self s b _)⟩, ?_, ?_, ?_⟩
  · rw [State.remoteDropped, e]
    exact epoch
  · rw [State.remoteDropped, e]
    rfl
  · rw [State.remoteDropped, e]
    rfl

theorem foldl_discards (l : List RemoteRequest) : s.Discards b (l.foldl (fun s _ => s.remoteDropped b) s) := by
  induction l generalizing s with
  | nil => exact ⟨.refl b s, ⟨_, rfl⟩, rfl, rfl, rfl⟩
  | cons q rest ih =>
    obtain ⟨fencing, ⟨n, bench⟩, epoch, channels, ring⟩ := remoteDropped_discards s b
    obtain ⟨fencing', ⟨n', bench'⟩, epoch', channels', ring'⟩ := ih (s.remoteDropped b)
    exact ⟨fencing.trans fencing', ⟨n', by rw [List.foldl_cons, bench', bench]⟩, epoch'.trans epoch, channels'.trans channels, ring'.trans ring⟩

/-- The RWR requests of a bench discarded, and its queue empty. -/
theorem discardRwr_spec : ∃ u : State, u = s.modRing (fun r => { r with rwrQ := vmod r.rwrQ b.val (fun _ => []) }) ∧
    u.Discards b (s.discardRwr b) := ⟨_, rfl, foldl_discards _ b _⟩

end

/-! ### A fence -/

theorem startUnitFault_eq (s : State) : ∃ p, s.startUnitFault = { s with power := p } := by
  rw [State.startUnitFault]
  split <;> exact ⟨_, rfl⟩

theorem ownerByte_eq (s : State) (b : BenchId) : ∃ n, (s.ownerByte b).2 = { s with freeIdx := n } := by
  rw [State.ownerByte]
  split <;> exact ⟨_, rfl⟩

/-- The state before a fence's effects: the FAULT_N pattern is on. -/
def State.fenceStart (s : State) (b : BenchId) : State := (s.startUnitFault.ownerByte b).2

theorem fenceStart_eq (s : State) (b : BenchId) : ∃ p n, s.fenceStart b = { s with power := p, freeIdx := n } := by
  obtain ⟨p, hp⟩ := startUnitFault_eq s
  obtain ⟨n, hn⟩ := ownerByte_eq s.startUnitFault b
  exact ⟨p, n, by rw [State.fenceStart, hn, hp]⟩

/-- The bench stopped, its channels emptied and its commit refused. -/
def State.fenceRefused (s : State) (b : BenchId) : State := (((s.fenceStart b).fenceStop b).emptyTo b).refuseCommit b

/-- The state after a fence's effects, before its event and its entry. -/
def State.fenceEffects (s : State) (b : BenchId) : State := (s.fenceRefused b).discardRwr b

theorem fence_eq (s : State) (b : BenchId) : s.fence b = ((s.fenceEffects b).raiseOwner b 1).logPart 0x0f
    ((s.fenceStart b).fencePayload b (s.startUnitFault.ownerByte b).1) := rfl

theorem fencePayload_length (s : State) (b : BenchId) (o : Byte) : (s.fencePayload b o).length = 23 := by
  simp [State.fencePayload, beBytes_length]

theorem unitFault_of_fenced {s : State} {b : BenchId} (h : (s.bench b).state = .fenced) : s.unitFault = true := by
  have found : s.benches.toList.any (fun b => decide (b.state = .fenced)) = true := by
    rw [List.any_eq_true]
    exact ⟨s.bench b, by simp [State.bench], decide_eq_true h⟩
  rw [State.unitFault, found]
  rfl

theorem present_congr {s t : State} (h : t.straps = s.straps) (x : TenantId) : t.present x = s.present x := by
  have layout : t.noLayout = s.noLayout := by rw [State.noLayout, State.noLayout, State.codeless, State.codeless, h]
  rw [State.present, State.present, layout, owned_congr h]

section
variable (s : State) (b : BenchId)

/-- What a fence leaves before the remote writes are discarded. -/
theorem fenceRefused_spec : s.Fencing b (s.fenceRefused b) ∧ (s.fenceRefused b).faults.epoch = s.faults.epoch + 1 ∧
    (∀ c ∈ (s.fenceRefused b).channels, c.isTo b = true → c.full = false) ∧
    ((s.fenceRefused b).bench b).state = .fenced ∧ ((s.fenceRefused b).bench b).reads = [] ∧
    ((s.fenceRefused b).bench b).coefs.waits = false := by
  obtain ⟨p, n, start⟩ := fenceStart_eq s b
  have started : s.Fencing b (s.fenceStart b) := by rw [start]; exact .of_benches rfl
  have epoch : (s.fenceStart b).faults.epoch = s.faults.epoch := by rw [start]
  rw [State.fenceRefused]
  obtain ⟨f, hf⟩ : ∃ f, f = s.fenceStart b := ⟨_, rfl⟩
  rw [← hf] at started epoch ⊢
  obtain ⟨e, he⟩ : ∃ e, e = (f.fenceStop b).emptyTo b := ⟨_, rfl⟩
  have emptied : f.Fencing b e := he ▸ (fenceStop_fencing f b).trans (emptyTo_fencing _ b)
  have bench : e.bench b = { (f.bench b).stop with state := .fenced, reads := [] } := by rw [he, emptyTo_bench, fenceStop_bench]
  have epoch' : e.faults.epoch = s.faults.epoch + 1 := by rw [he, emptyTo_faults, fenceStop_epoch, epoch]
  have full : ∀ c ∈ e.channels, c.isTo b = true → c.full = false := he ▸ emptyTo_full _ b
  rw [← he]
  obtain ⟨faults, channels⟩ := refuseCommit_keeps e b
  obtain ⟨coefs, refused, noWait⟩ := refuseCommit_bench e b
  rw [faults, channels, refused, bench]
  exact ⟨(started.trans emptied).trans (refuseCommit_fencing e b), epoch', full, rfl, rfl, noWait⟩

/-- What a fence's effects leave. -/
theorem fenceEffects_spec {v : State} (hv : v = s.fenceEffects b) : s.Fencing b v ∧ (v.bench b).state = .fenced ∧ (v.bench b).reads = [] ∧
    (v.bench b).coefs.waits = false ∧ vget v.ring.rwrQ b.val [] = [] ∧ v.faults.epoch = s.faults.epoch + 1 ∧
    ∀ c ∈ v.channels, c.isTo b = true → c.full = false := by
  obtain ⟨fencing, epoch, full, state, reads, waits⟩ := fenceRefused_spec s b
  rw [State.fenceEffects] at hv
  obtain ⟨r, hr⟩ : ∃ r, r = s.fenceRefused b := ⟨_, rfl⟩
  rw [← hr] at fencing epoch full state reads waits hv
  obtain ⟨u, hu, discards⟩ := discardRwr_spec r b
  rw [← hv] at discards
  obtain ⟨fencing', ⟨n, bench⟩, epoch', channels, ring⟩ := discards
  have ub : u.bench b = r.bench b := by rw [hu]; rfl
  have before : r.Fencing b u := by rw [hu]; exact .of_benches rfl
  refine ⟨fencing.trans (before.trans fencing'), by rw [bench, ub, ← state], by rw [bench, ub, ← reads], by rw [bench, ub, ← waits], ?_, ?_, ?_⟩
  · rw [ring, hu]
    exact vget_vmod_self ..
  · rw [epoch', hu]
    exact epoch
  · rw [channels, hu]
    exact full

end

/-- Settles O43: below sixteen, with a lower bench first, and the fence. -/
theorem benchFences : Obligations.BenchFences := by
  intro b s run strobed up
  refine ⟨fun few => ?_, fun ⟨o, lower, upo, fails⟩ => ?_, fun fails first => ?_⟩
  · refine congrArg Host.Outcome.next (if_neg ?_)
    rintro ⟨-, -, found, -⟩
    rw [State.fenceFound, decide_eq_false (by omega)] at found
    cases found
  · refine congrArg Host.Outcome.next (if_neg ?_)
    rintro ⟨-, -, -, none⟩
    have before : s.fenceBefore b = true := by
      rw [State.fenceBefore, List.any_eq_true]
      exact ⟨o, List.mem_finRange o, by rw [State.fenceFound, decide_eq_true lower, decide_eq_true fails, decide_eq_true upo]; rfl⟩
    rw [before] at none
    cases none
  · have found : s.fenceFound b = true := by rw [State.fenceFound, decide_eq_true fails, decide_eq_true up]; rfl
    have none : s.fenceBefore b = false := by
      rw [State.fenceBefore, List.any_eq_false]
      intro o _ h
      obtain ⟨lower, fo⟩ := Bool.and_eq_true_iff.mp h
      obtain ⟨k, up⟩ := Bool.and_eq_true_iff.mp fo
      rcases first o (of_decide_eq_true lower) with e | e
      · exact of_decide_eq_true up e
      · have := of_decide_eq_true k
        omega
    obtain ⟨v, hv⟩ : ∃ v, v = s.fenceEffects b := ⟨_, rfl⟩
    obtain ⟨kept, state, reads, waits, queue, epoch, full⟩ := fenceEffects_spec s b hv
    have out : exec (.benchFence b) s = .next (s.fence b) := congrArg Host.Outcome.next (if_pos ⟨run, strobed, found, none⟩)
    rw [fence_eq, ← hv] at out
    have raised : v.Fencing b (v.raiseOwner b 1) := fencing_raiseOwner b 1
    have all := kept.trans raised
    obtain ⟨t, ht⟩ : ∃ t, t = (v.raiseOwner b 1).logPart 0x0f ((s.fenceStart b).fencePayload b (s.startUnitFault.ownerByte b).1) := ⟨_, rfl⟩
    have bench (c : BenchId) : t.bench c = v.bench c := by
      rw [ht, State.bench, State.logPart_benches]
      exact State.raiseOwner_bench v b 1 c
    have fields : t.ring = v.ring ∧ t.faults = v.faults ∧ t.channels = v.channels := by
      rw [ht, State.logPart_ring, State.logPart_faults, State.logPart_channels, raiseOwner_eq_tenants]
      exact ⟨rfl, rfl, rfl⟩
    obtain ⟨ring, faults, channels⟩ := fields
    rw [← ht] at out
    refine ⟨t, v.raiseOwner b 1, _, out, ht, all.wb, fencePayload_length _ _ _, rfl, by rw [bench, state], by rw [bench, reads],
      by rw [bench, waits], by rw [ring, queue], by rw [faults, epoch], unitFault_of_fenced (by rw [bench, state]),
      fun c hc => (bench c).trans (kept.other c hc), by rw [channels]; exact full, ?_, ?_, ?_, ?_, fun x own present free => ?_⟩
    · rw [ht, State.logPart_pit, all.pit]
    · rw [ht, State.logPart_clock, all.clock]
    · rw [ht, State.logPart_straps, all.straps]
    · rw [ht, State.logPart_otp, all.otp]
    · have tenant : t.tenant x = (v.raiseOwner b 1).tenant x := by rw [ht, State.tenant, State.logPart_tenants]; rfl
      have owner : v.owner b = some x := (owner_congr kept.straps b).trans own
      rw [tenant, State.raiseOwner, owner]
      exact events_raise ((present_congr kept.straps x).trans present) ((kept.held x).trans free) 1 (by decide)

end Sys2Proof.Machine
end

section
/-! SUPPORT. A shared island is wedged. -/
namespace Sys2Proof.Machine

/-- What the outcome of a fault leaves as it was, whatever unit it is. -/
def State.spared (s : State) : (Straps × Otp × Clock × Sparse (Option (BitVec 39))) × (Vector Bool 9 × Option WedgeNote) ×
    Vector AudioPort 8 × Sense :=
  ((s.straps, s.otp, s.clock, s.pit.mem), (s.faults.wedged, s.faults.note), s.audio, s.sense)

section
variable (s : State) (b : BenchId) (x : TenantId)

@[simp] theorem modBench_spared (f : Bench → Bench) : (s.modBench b f).spared = s.spared := rfl

@[simp] theorem modTenant_spared (f : Tenant → Tenant) : (s.modTenant x f).spared = s.spared := rfl

@[simp] theorem modPort_spared (f : Port → Port) : (s.modPort x f).spared = s.spared := rfl

@[simp] theorem modRing_spared (f : Ring → Ring) : (s.modRing f).spared = s.spared := rfl

@[simp] theorem drop_spared (n : Nat) : (s.drop x n).spared = s.spared := rfl

@[simp] theorem raise_spared (n : Nat) : (s.raise x n).spared = s.spared := by
  rw [State.raise]
  split <;> rfl

@[simp] theorem raiseAll_spared (n : Nat) : (s.raiseAll n).spared = s.spared :=
  foldl_keeps (f := State.spared) (fun s x => raise_spared s x n) s _

@[simp] theorem raiseOwner_spared (n : Nat) : (s.raiseOwner b n).spared = s.spared := by
  rw [State.raiseOwner]
  split
  · exact raise_spared ..
  · rfl

@[simp] theorem startUnitFault_spared : s.startUnitFault.spared = s.spared := by
  rw [State.startUnitFault]
  split <;> rfl

/-! ### A failed access -/

@[simp] theorem failPwr_spared (q : BenchRequest) (code : Byte) : (s.failPwr b q code).spared = s.spared := by
  rw [State.failPwr]
  split
  · split <;> rfl
  · rw [raiseOwner_spared, modBench_spared]

@[simp] theorem failRwr_spared (tag : BitVec 12) (addr : Nat) (code : Byte) : (s.failRwr b tag addr code).spared = s.spared := by
  rw [State.failRwr]
  split
  · rw [raiseOwner_spared, modBench_spared]
  · split <;> rfl

@[simp] theorem failHost_spared (j : PortJob) (code : Byte) : (s.failHost x j code).spared = s.spared := by
  rw [State.failHost]
  split
  · rfl
  · rw [raise_spared]
    split <;> rfl

@[simp] theorem failWords_spared (j : PortJob) (code : Byte) (ws : List Word) : (s.failWords x j code ws).spared = s.spared := by
  induction ws generalizing s j with
  | nil => rfl
  | cons w rest ih => rw [State.failWords, ih, failHost_spared]

@[simp] theorem poisonJob_spared (j : PortJob) : (s.poisonJob x j).spared = s.spared := by
  rw [State.poisonJob]
  split <;> simp

@[simp] theorem queueLateFail_spared (w : LatchedWrite) (code : Byte) : (s.queueLateFail w code).spared = s.spared := by
  rw [State.queueLateFail]
  split <;> rfl

@[simp] theorem endMessage_spared (m : SentMessage) (reply : Option Byte) : (s.endMessage m reply).spared = s.spared := by
  unfold State.endMessage
  split
  · split <;> simp
  · split <;> rfl
  · rfl

/-! ### The pit -/

theorem poisonBench_spared : (s.poisonBench b).spared = s.spared :=
  foldl_keeps (f := State.spared) (fun s q => failPwr_spared s b q _) _ _

theorem poisonPort_spared : (s.poisonPort x).spared = s.spared :=
  foldl_keeps (f := State.spared) (fun s j => poisonJob_spared s x j) _ _

theorem poisonRing_spared : s.poisonRing.spared = s.spared :=
  foldl_keeps (f := State.spared) (fun s w => queueLateFail_spared s w _) _ _

theorem poisonPit_spared : s.poisonPit.spared = s.spared := by
  have system (u : State) : u.poisonSystem.spared = u.spared := rfl
  rw [State.poisonPit, raiseAll_spared, system, poisonRing_spared, foldl_keeps poisonPort_spared, foldl_keeps poisonBench_spared]

/-! ### The ring -/

theorem failQueued_spared : (s.failQueued b).spared = s.spared :=
  foldl_keeps (f := State.spared) (fun s _ => endMessage_spared s _ _) _ _

theorem failInFlight_spared : s.failInFlight.spared = s.spared := by
  refine foldl_keeps (f := State.spared) (fun s m => ?_) _ _
  split
  · exact endMessage_spared ..
  · rfl

theorem loseMessages_spared : s.loseMessages.spared = s.spared :=
  foldl_keeps (f := State.spared) (fun s m => endMessage_spared s m _) _ _

/-- The ring once lock is lost. -/
def Ring.unlocked (r : Ring) (master : Bool) (frame : Nat) : Ring :=
  { r with
    locked := false, lastCounter := if master then frame else r.counter, cells := Vector.replicate 128 ⟨0, 0, true⟩
    startFrame := if master then r.startFrame else none, retry := true }

/-- Lost ring lock, before the requests it fails: a member's waiting starts are dropped. -/
def State.unlocked (s : State) : State :=
  let u := s.modRing (fun r => r.unlocked s.isMaster s.clock.frame)
  if s.isMaster then u else u.dropStarts

theorem loseLock_eq : s.loseLock = ((List.finRange 8).foldl State.failQueued s.unlocked.failInFlight).raiseAll 14 := by
  rw [State.loseLock, State.unlocked]
  cases s.isMaster <;> rfl

/-- Lost ring lock ends the starts that wait, and changes no other of these. -/
theorem loseLock_spared : ∃ a, s.loseLock.spared = ({ s with audio := a } : State).spared := by
  rw [loseLock_eq, raiseAll_spared, foldl_keeps failQueued_spared, failInFlight_spared, State.unlocked]
  split <;> exact ⟨_, rfl⟩

theorem wedgeRing_spared : ∃ a, s.wedgeRing.spared = ({ s with audio := a } : State).spared := by
  rw [State.wedgeRing, modRing_spared, loseMessages_spared]
  split
  · exact loseLock_spared s
  · exact ⟨_, rfl⟩

/-! ### A port -/

@[simp] theorem dropJob_spared (j : PortJob) : (s.dropJob x j).spared = s.spared :=
  foldl_keeps (f := State.spared) (fun s _ => drop_spared s x 2) _ _

@[simp] theorem endGrant_spared : (s.endGrant x).spared = s.spared := by
  rw [State.endGrant]
  split <;> rfl

theorem wedgePort_spared : (s.wedgePort x).spared = s.spared := by
  rw [State.wedgePort, endGrant_spared, modPort_spared]
  exact foldl_keeps (f := State.spared) (fun s j => dropJob_spared s x j) _ _

/-! ### The weighbridge -/

/-- A request answered BUSY with no data. -/
def State.answerBusy (s : State) (q : TenantId × Nat) : State := s.completeTag q.1 q.2 [] 0x03 (⟨0, 0⟩, ⟨0, 0⟩)

/-- The tags of the requests that a wedge of the weighbridge ends, the one in service first. -/
def State.tagsOut (s : State) : List (TenantId × Nat) :=
  (match s.wb.service with | none => [] | some v => [(v.tenant, v.tag)]) ++
    (List.finRange 4).flatMap (fun t => (vget s.wb.requests t.val []).map (fun q => (t, q.1)))

/-- The weighbridge after its wedge. -/
def Weighbridge.stopped (w : Weighbridge) (nv : Nv) : Weighbridge :=
  { w with nv := nv, witnessQ := [], systemQ := [], requests := Vector.replicate 4 [], service := none }

theorem poisonWeighbridge_eq (cut : CommitCut) : s.poisonWeighbridge cut =
    { s.tagsOut.foldl State.answerBusy s with wb := (s.tagsOut.foldl State.answerBusy s).wb.stopped (s.cutCommit cut) } := rfl

theorem answerBusy_spared (q : TenantId × Nat) : (s.answerBusy q).spared = s.spared := rfl

theorem poisonWeighbridge_spared (cut : CommitCut) : (s.poisonWeighbridge cut).spared = s.spared := by
  rw [poisonWeighbridge_eq]
  exact foldl_keeps (f := State.spared) answerBusy_spared s _

theorem poisonWeighbridge_wb (cut : CommitCut) : (s.poisonWeighbridge cut).wb = s.wb.stopped (s.cutCommit cut) := by
  have kept : (s.tagsOut.foldl State.answerBusy s).wb = s.wb := 
    foldl_keeps (f := State.wb) (g := State.answerBusy) (fun _ _ => rfl) s _
  rw [poisonWeighbridge_eq, kept]

/-- The outcome of a wedge leaves the rest of the part. -/
theorem wedgeOutcome_spared (i : SharedIsland) (w : Nat) (cut : CommitCut) :
    ∃ a se n, (s.wedgeOutcome i w cut).spared =
      ({ s with audio := a, sense := se, faults := { s.faults with note := n } } : State).spared ∧
      (i ≠ .weighbridge → n = s.faults.note) ∧ (i ≠ .audio → i ≠ .ring → a = s.audio) ∧ (i ≠ .sense → se = s.sense) := by
  cases i with
  | pit => exact ⟨_, _, _, poisonPit_spared s, fun _ => rfl, fun _ _ => rfl, fun _ => rfl⟩
  | ring =>
    obtain ⟨a, h⟩ := wedgeRing_spared s
    exact ⟨a, _, _, h, fun _ => rfl, fun _ h => absurd rfl h, fun _ => rfl⟩
  | port x => exact ⟨_, _, _, wedgePort_spared s x, fun _ => rfl, fun _ _ => rfl, fun _ => rfl⟩
  | audio => exact ⟨_, _, _, rfl, fun _ => rfl, fun h => absurd rfl h, fun _ => rfl⟩
  | sense => exact ⟨_, _, _, rfl, fun _ => rfl, fun _ _ => rfl, fun h => absurd rfl h⟩
  | weighbridge => exact ⟨_, _, _, poisonWeighbridge_spared _ cut, fun h => absurd rfl h, fun _ _ => rfl, fun _ => rfl⟩

end

/-! ### The pit's requests all end -/

theorem foldl_stays {σ α : Type} {P : σ → Prop} {g : σ → α → σ} (keep : ∀ s a, P s → P (g s a)) (l : List α) (s : σ) (h : P s) :
    P (l.foldl g s) := by
  induction l generalizing s with
  | nil => exact h
  | cons a rest ih => exact ih _ (keep s a h)

/-- What each step of a fold brings about for its own element, and none undoes, holds of all of them after it. -/
theorem foldl_brings {σ α : Type} {P : α → σ → Prop} {g : σ → α → σ} (own : ∀ s a, P a (g s a)) (keep : ∀ s a c, P c s → P c (g s a))
    (l : List α) (s : σ) : ∀ c ∈ l, P c (l.foldl g s) := by
  induction l generalizing s with
  | nil => exact fun c hc => absurd hc List.not_mem_nil
  | cons a rest ih =>
    intro c hc
    rcases List.mem_cons.mp hc with rfl | hc
    · exact foldl_stays (fun s a => keep s a _) rest _ (own s _)
    · exact ih _ c hc

/-- The reads and writes that the benches, and the frames that the ports, have waiting for the pit. -/
def State.waiting (s : State) : Vector (List BenchRequest × List BenchRequest) 8 × Vector (List PortJob) 4 :=
  (s.benches.map (fun x => (x.reads, x.writes)), s.tenants.map (fun x => x.port.jobs))

/-- A bench with no request at the pit. -/
def State.drained (b : BenchId) (s : State) : Prop := s.waiting.1[b] = ([], [])

/-- A tenant with no frame at the pit. -/
def State.jobless (x : TenantId) (s : State) : Prop := s.waiting.2[x] = []

theorem vector_map_set_self {α β : Type} {n : Nat} (v : Vector α n) (i : Fin n) (f : α → β) (g : α → α) (h : f (g v[i]) = f v[i]) :
    (v.set i (g v[i])).map f = v.map f := by
  ext j hj
  by_cases e : i.val = j
  · subst e
    simpa using h
  · simp [Vector.getElem_set_ne, e]

section
variable (s : State) (b : BenchId) (x : TenantId)

theorem modBench_waiting {f : Bench → Bench} (h : ∀ y, ((f y).reads, (f y).writes) = (y.reads, y.writes)) :
    (s.modBench b f).waiting = s.waiting :=
  congrArg (fun v => (v, s.waiting.2)) (vector_map_set_self s.benches b _ f (h _))

theorem modTenant_waiting {f : Tenant → Tenant} (h : ∀ y, (f y).port.jobs = y.port.jobs) : (s.modTenant x f).waiting = s.waiting :=
  congrArg (fun v => (s.waiting.1, v)) (vector_map_set_self s.tenants x (fun y => y.port.jobs) f (h _))

theorem modPort_waiting {f : Port → Port} (h : ∀ p, (f p).jobs = p.jobs) : (s.modPort x f).waiting = s.waiting :=
  modTenant_waiting s x fun y => h y.port

@[simp] theorem drop_waiting (n : Nat) : (s.drop x n).waiting = s.waiting := rfl

@[simp] theorem raise_waiting (n : Nat) : (s.raise x n).waiting = s.waiting := by
  rw [State.raise]
  split
  · exact modTenant_waiting s x fun _ => rfl
  · rfl

@[simp] theorem raiseAll_waiting (n : Nat) : (s.raiseAll n).waiting = s.waiting :=
  foldl_keeps (f := State.waiting) (fun s x => raise_waiting s x n) s _

@[simp] theorem raiseOwner_waiting (n : Nat) : (s.raiseOwner b n).waiting = s.waiting := by
  rw [State.raiseOwner]
  split
  · exact raise_waiting ..
  · rfl

@[simp] theorem failPwr_waiting (q : BenchRequest) (code : Byte) : (s.failPwr b q code).waiting = s.waiting := by
  rw [State.failPwr]
  split
  · split <;> rfl
  · exact (raiseOwner_waiting _ b 12).trans (modBench_waiting s b fun _ => rfl)

@[simp] theorem failHost_waiting (j : PortJob) (code : Byte) : (s.failHost x j code).waiting = s.waiting := by
  rw [State.failHost]
  split
  · rfl
  · rw [raise_waiting]
    split
    · exact modPort_waiting s x fun _ => rfl
    · rfl

@[simp] theorem failWords_waiting (j : PortJob) (code : Byte) (ws : List Word) : (s.failWords x j code ws).waiting = s.waiting := by
  induction ws generalizing s j with
  | nil => rfl
  | cons w rest ih => rw [State.failWords, ih, failHost_waiting]

theorem finish_jobs (p : Port) (j : PortJob) : (p.finish j).jobs = p.jobs := by
  unfold Port.finish
  split
  all_goals split <;> rfl

@[simp] theorem poisonJob_waiting (j : PortJob) : (s.poisonJob x j).waiting = s.waiting := by
  rw [State.poisonJob]
  split
  · exact modPort_waiting s x fun p => finish_jobs p _
  · exact (modPort_waiting _ x fun p => finish_jobs p _).trans (failWords_waiting ..)
  · exact (modPort_waiting _ x fun p => finish_jobs p _).trans (failWords_waiting ..)

@[simp] theorem queueLateFail_waiting (w : LatchedWrite) (code : Byte) : (s.queueLateFail w code).waiting = s.waiting := by
  rw [State.queueLateFail]
  split <;> rfl

/-- A bench whose reads are answered with 0 and whose requests are gone. -/
def Bench.poisoned (x : Bench) (reads : List BenchRequest) : Bench :=
  reads.foldl (fun x q => x.fillTag q none) { x with reads := [], writes := [] }

theorem poisoned_queues (x : Bench) (l : List BenchRequest) : ((x.poisoned l).reads, (x.poisoned l).writes) = ([], []) := by
  have fill (x : Bench) (q : BenchRequest) : ((x.fillTag q none).reads, (x.fillTag q none).writes) = (x.reads, x.writes) := rfl
  exact foldl_keeps (f := fun x : Bench => (x.reads, x.writes)) fill _ l

theorem poisonBench_waiting : (s.poisonBench b).waiting = (s.modBench b (fun x => x.poisoned (s.bench b).reads)).waiting :=
  foldl_keeps (f := State.waiting) (fun s q => failPwr_waiting s b q _) _ _

theorem poisonPort_waiting : (s.poisonPort x).waiting = (s.modPort x (fun p => { p with jobs := [] })).waiting :=
  foldl_keeps (f := State.waiting) (fun s j => poisonJob_waiting s x j) _ _

theorem poisonRing_waiting : s.poisonRing.waiting = s.waiting :=
  foldl_keeps (f := State.waiting) (fun s w => queueLateFail_waiting s w _) _ _

theorem drained_iff (s : State) : s.drained b ↔ (s.bench b).reads = [] ∧ (s.bench b).writes = [] := by
  simp [State.drained, State.waiting, State.bench]

theorem jobless_iff (s : State) : s.jobless x ↔ (s.tenant x).port.jobs = [] := by
  simp [State.jobless, State.waiting, State.tenant]

theorem poisonBench_own : (s.poisonBench b).drained b := by
  rw [State.drained, poisonBench_waiting, ← State.drained, drained_iff, State.modBench_bench_self]
  exact Prod.mk.inj (poisoned_queues ..)

theorem poisonBench_keep (c : BenchId) (h : s.drained c) : (s.poisonBench b).drained c := by
  by_cases e : c = b
  · exact e ▸ poisonBench_own s b
  · rw [State.drained, poisonBench_waiting, ← State.drained, drained_iff, State.modBench_bench_of_ne _ _ e]
    exact (drained_iff c s).mp h

theorem poisonPort_own : (s.poisonPort x).jobless x := by
  rw [State.jobless, poisonPort_waiting, ← State.jobless, jobless_iff, State.modPort_tenant_self]

theorem poisonPort_keep (y : TenantId) (h : s.jobless y) : (s.poisonPort x).jobless y := by
  by_cases e : y = x
  · exact e ▸ poisonPort_own s x
  · rw [State.jobless, poisonPort_waiting, ← State.jobless, jobless_iff, State.modPort_tenant_of_ne _ _ e]
    exact (jobless_iff y s).mp h

theorem poisonPort_drained (h : s.drained b) : (s.poisonPort x).drained b := by
  rw [State.drained, poisonPort_waiting]
  exact h

/-- A wedged pit has no access left. -/
theorem poisonPit_empty : (∀ b, s.poisonPit.drained b) ∧ ∀ x, s.poisonPit.jobless x := by
  have waiting : s.poisonPit.waiting = ((List.finRange 4).foldl State.poisonPort ((List.finRange 8).foldl State.poisonBench s)).waiting := by
    have system (u : State) : u.poisonSystem.waiting = u.waiting := rfl
    rw [State.poisonPit, raiseAll_waiting, system, poisonRing_waiting]
  have benches (b : BenchId) := foldl_brings (P := State.drained) poisonBench_own poisonBench_keep (List.finRange 8) s b (List.mem_finRange b)
  refine ⟨fun b => ?_, fun x => ?_⟩
  · rw [State.drained, waiting]
    exact foldl_stays (fun s y => poisonPort_drained s b y) _ _ (benches b)
  · rw [State.jobless, waiting]
    exact foldl_brings (P := State.jobless) poisonPort_own poisonPort_keep (List.finRange 4) _ x (List.mem_finRange x)

/-! ### The ring's lock and a port's frames -/

@[simp] theorem drop_ring (n : Nat) : (s.drop x n).ring = s.ring := rfl

@[simp] theorem raiseAll_ring (n : Nat) : (s.raiseAll n).ring = s.ring :=
  foldl_keeps (f := State.ring) (fun s x => by rw [raise_eq_tenants]) s _

@[simp] theorem endMessage_ring (m : SentMessage) (reply : Option Byte) : (s.endMessage m reply).ring = s.ring := by
  have fails (u : State) (b : BenchId) (tag : BitVec 12) (addr : Nat) (code : Byte) : (u.failRwr b tag addr code).ring = u.ring := by
    rw [State.failRwr]
    split
    · rw [raiseOwner_eq_tenants]
      rfl
    · split <;> rfl
  unfold State.endMessage
  split
  · split
    · rfl
    · rw [fails, State.modBench_ring]
    · rw [fails, State.modBench_ring]
  · split <;> rfl
  · rfl

theorem failQueued_locked : (s.failQueued b).ring.locked = s.ring.locked :=
  foldl_keeps (f := fun s : State => s.ring.locked) (fun s _ => congrArg Ring.locked (endMessage_ring s _ _)) _ _

theorem failInFlight_locked : s.failInFlight.ring.locked = s.ring.locked := by
  refine foldl_keeps (f := fun s : State => s.ring.locked) (fun s m => ?_) _ _
  split
  · exact congrArg Ring.locked (endMessage_ring ..)
  · rfl

theorem loseMessages_locked : s.loseMessages.ring.locked = s.ring.locked :=
  foldl_keeps (f := fun s : State => s.ring.locked) (fun s m => congrArg Ring.locked (endMessage_ring s m _)) _ _

theorem loseLock_locked : s.loseLock.ring.locked = false := by
  have lost : s.unlocked.ring.locked = false := by
    rw [State.unlocked]
    split <;> rfl
  rw [loseLock_eq, raiseAll_ring]
  refine (foldl_keeps (f := fun s : State => s.ring.locked) failQueued_locked _ _).trans ?_
  rw [failInFlight_locked, lost]

theorem wedgeRing_locked : s.wedgeRing.ring.locked = false := by
  have kept (u : State) : (u.modRing (fun r => { r with
    laneUp := false, laneDown := false, severedUp := false, severedDown := false, roll := .idle })).ring.locked = u.ring.locked := rfl
  rw [State.wedgeRing, kept, loseMessages_locked]
  split
  · exact loseLock_locked s
  · next free => exact Bool.eq_false_iff.mpr free

theorem wedgePort_port : ((s.wedgePort x).tenant x).port.jobs = [] ∧ ((s.wedgePort x).tenant x).port.inFlight = none ∧
    ∀ k : Fin 8, ((s.wedgePort x).tenant x).port.tags[k] = HostTag.init := by
  have grant (u : State) : (u.endGrant x).tenant x = u.tenant x := by
    rw [endGrant_eq]
    rfl
  have retired (u : State) : ((u.retireTags x (fun _ => true)).tenant x).port =
      { (u.tenant x).port with tags := (u.tenant x).port.tags.map (fun _ => HostTag.init) } := by
    have e : (u.retireTags x (fun _ => true)).tenant x =
        (u.modPort x (fun p => { p with tags := p.tags.map (fun g => if true = true then HostTag.init else g) })).tenant x := rfl
    rw [e, State.modPort_tenant_self]
    simp
  rw [State.wedgePort, grant, State.modPort_tenant_self]
  obtain ⟨u, hu⟩ : ∃ u, u = (s.tenant x).port.jobs.foldl (fun s j => s.dropJob x j) s := ⟨_, rfl⟩
  rw [← hu]
  dsimp only
  rw [retired]
  exact ⟨rfl, rfl, fun k => by simp⟩

end

end Sys2Proof.Machine
end

section
/-! SUPPORT. The wedge of each island, put together. -/
namespace Sys2Proof.Machine

theorem island_code (i : SharedIsland) : 1 ≤ i.code ∧ i.code ≤ 9 := by
  cases i with
  | port x => exact ⟨Nat.le_add_right_of_le (by decide), by have := x.isLt; simp only [SharedIsland.code]; omega⟩
  | pit => decide
  | ring => decide
  | audio => decide
  | sense => decide
  | weighbridge => decide

theorem vget_vmod_of_ne {α : Type} {n : Nat} (v : Vector α n) {i j : Nat} (f : α → α) (d : α) (h : i ≠ j) :
    vget (vmod v i f) j d = vget v j d := by
  unfold vget vmod
  split
  · split
    · exact Vector.getElem_set_ne _ _ h
    · rfl
  · rfl

section
variable (s : State)

/-- A state with an island marked as wedged. -/
def State.marked (s : State) (code : Nat) : State :=
  { s with faults := { s.faults with wedged := vmod s.faults.wedged (code - 1) (fun _ => true) } }

theorem marked_self {code : Nat} (h : 1 ≤ code ∧ code ≤ 9) : (s.marked code).isWedged code = true := by
  have lt : code - 1 < 9 := by omega
  simp [State.isWedged, State.marked, vget, vmod, lt]

theorem marked_other {code k : Nat} (h : 1 ≤ code) (hk : 1 ≤ k) (ne : k ≠ code) : (s.marked code).isWedged k = s.isWedged k :=
  vget_vmod_of_ne _ _ _ (by omega)

theorem unitFault_of_wedged {code : Nat} (h : s.isWedged code = true) : s.unitFault = true := by
  have found : s.faults.wedged.toList.any id = true := by
    rw [State.isWedged, vget] at h
    split at h
    · next lt =>
      rw [List.any_eq_true]
      exact ⟨_, by simp, h⟩
    · cases h
  rw [State.unitFault, found, Bool.or_true]

/-- A log that is closed takes no entry. -/
theorem logPart_dead (h : s.logLive = false) (kind : Byte) (payload : List Byte) :
    ∃ e, s.logPart kind payload = { s with wb := { s.wb with early := e } } := by
  rw [State.logPart]
  split
  · exact ⟨_, rfl⟩
  · exact ⟨s.wb.early, rfl⟩

theorem wedge_eq (i : SharedIsland) (w : Nat) (cut : CommitCut) : s.wedge i w cut =
    ((s.startUnitFault.wedgeOutcome i w cut).marked i.code).logPart 0x10 (s.wedgePayload i.code w (s.poisoned i)) := rfl

theorem wedgePayload_shape (code w n : Nat) : (s.wedgePayload code w n).length = 19 ∧
    (s.wedgePayload code w n).take 2 = [BitVec.ofNat 8 code, BitVec.ofNat 8 w] := by
  refine ⟨?_, rfl⟩
  rw [State.wedgePayload, List.length_append, List.length_append, List.length_append, List.length_append, beBytes_length, beBytes_length,
    beBytes_length]
  rfl

/-- The note that a wedge of the weighbridge leaves. -/
def State.wedgeNote (s : State) (w : Nat) : WedgeNote :=
  ⟨w, s.localFrame, s.wb.nv.powerCycle, s.faults.wedged.toList.any id || s.otherWedge 9,
    s.benches.toList.any (fun b => decide (b.state = .fenced)) || s.fenceNow⟩

/-- The stopped weighbridge, once it is marked and its own entry is lost. -/
theorem wedge_weighbridge (w : Nat) (cut : CommitCut) : ∃ e,
    (s.wedge .weighbridge w cut).wb = { s.wb.stopped ((s.startUnitFault.writeNote w).cutCommit cut) with early := e } ∧
    (s.wedge .weighbridge w cut).faults.note = some (s.wedgeNote w) := by
  obtain ⟨p, start⟩ := startUnitFault_eq s
  obtain ⟨n, hn⟩ : ∃ n, n = s.startUnitFault.writeNote w := ⟨_, rfl⟩
  have nwb : n.wb = s.wb := by rw [hn, start]; rfl
  have note : n.faults.note = some (s.wedgeNote w) := by rw [hn, start]; rfl
  obtain ⟨u, hu⟩ : ∃ u, u = n.poisonWeighbridge cut := ⟨_, rfl⟩
  have uwb : u.wb = s.wb.stopped (n.cutCommit cut) := by rw [hu, poisonWeighbridge_wb, nwb]
  have kept : u.faults.note = n.faults.note :=
    congrArg (fun v => v.2.1.2) (hu ▸ poisonWeighbridge_spared n cut)
  have e : s.wedge .weighbridge w cut = (u.marked 9).logPart 0x10 (s.wedgePayload 9 w (s.poisoned .weighbridge)) := by
    rw [hu, hn]
    rfl
  have dead : (u.marked 9).logLive = false := by rw [State.logLive, marked_self u (by decide), Bool.not_true, Bool.and_false]
  obtain ⟨early, logged⟩ := logPart_dead _ dead 0x10 (s.wedgePayload 9 w (s.poisoned .weighbridge))
  rw [e, logged, ← hn]
  refine ⟨early, ?_, kept.trans note⟩
  rw [← uwb]
  rfl

end

/-- Each of the three watchdogs that finds its condition declares the wedge. -/
theorem watchdog_wedges {i : SharedIsland} {w : Nat} {cut : CommitCut} {c : Instr} {s : State}
    (h : c = .islandWedge i cut ∧ w = 1 ∧ s.running = true ∧ s.clock.strobed = true ∧ s.isWedged i.code = false ∧
        16 ≤ (vget s.faults.shake (i.code - 1) ⟨0, 0, true⟩).fails ∧
        (∀ k, 1 ≤ k → k < i.code → s.isWedged k = true ∨ (vget s.faults.shake (k - 1) ⟨0, 0, true⟩).fails < 16) ∧
        (1 < i.code → s.isWedged 1 = true ∨ s.faults.pitStall < 16) ∨
      c = .pitProgressWedge ∧ i = .pit ∧ w = 2 ∧ s.running = true ∧ s.clock.strobed = true ∧ s.isWedged 1 = false ∧
        16 ≤ s.faults.pitStall ∨
      (∃ us ans, c = .nvWriterWedge us ans cut ∧ i = .weighbridge ∧ w = 3 ∧ s.logLive = true ∧ s.nextQueued.isSome = true ∧
        (2000 ≤ us ∨ ans = false))) : ∃ cut', exec c s = .next (s.wedge i w cut') ∧ (i = .weighbridge → cut' = cut) := by
  rcases h with ⟨rfl, rfl, run, strobed, free, fails, lower, stall⟩ | ⟨rfl, rfl, rfl, run, strobed, free, stall⟩ |
    ⟨us, ans, rfl, rfl, rfl, live, queued, late⟩
  · refine ⟨cut, congrArg Host.Outcome.next (if_pos ⟨run, strobed, ?_, ?_⟩), fun _ => rfl⟩
    · rw [State.wedgeFound, free, decide_eq_true fails]
      rfl
    · rw [State.wedgeBefore, Bool.or_eq_false_iff, List.any_eq_false, Bool.and_eq_false_iff]
      refine ⟨fun k _ found => ?_, ?_⟩
      · simp only [Bool.and_eq_true, decide_eq_true_eq, State.wedgeFound, Bool.not_eq_true'] at found
        obtain ⟨⟨one, lt⟩, unmarked, fails⟩ := found
        rcases lower k one lt with e | e
        · exact absurd (e.symm.trans unmarked) (by decide)
        · omega
      · by_cases one : 1 < i.code
        · refine .inr ?_
          rw [State.stallFound, Bool.and_eq_false_iff, Bool.not_eq_false', decide_eq_false_iff_not]
          exact (stall one).imp id fun h => by omega
        · exact .inl (decide_eq_false one)
  · refine ⟨.none, congrArg Host.Outcome.next (if_pos ⟨run, strobed, ?_⟩), fun h => by cases h⟩
    rw [State.stallFound, free, decide_eq_true stall]
    rfl
  · exact ⟨cut, congrArg Host.Outcome.next (if_pos ⟨live, queued, late⟩), fun _ => rfl⟩

/-- Settles O44: each watchdog declares a wedge, and the wedge has its island's outcome. -/
theorem islandWedges : Obligations.IslandWedges := by
  intro i w cut c s found
  obtain ⟨cut', run, same⟩ := watchdog_wedges found
  clear found
  obtain ⟨pw, start⟩ := startUnitFault_eq s
  obtain ⟨len, head⟩ := wedgePayload_shape s i.code w (s.poisoned i)
  obtain ⟨t, ht⟩ : ∃ t, t = s.wedge i w cut' := ⟨_, rfl⟩
  have weighed := wedge_weighbridge s w cut'
  have noted : (s.startUnitFault.writeNote w).wb = s.wb := by
    rw [start]
    rfl
  have whole : t = s.wedge i w cut' := ht
  rw [wedge_eq] at ht
  obtain ⟨f, hf⟩ : ∃ f, f = s.startUnitFault := ⟨_, rfl⟩
  rw [← hf] at ht start
  obtain ⟨u, hu⟩ : ∃ u, u = f.wedgeOutcome i w cut' := ⟨_, rfl⟩
  rw [← hu] at ht
  obtain ⟨a, se, n, spared, note, audio, sense⟩ := wedgeOutcome_spared f i w cut'
  rw [← hu, start] at spared
  simp only [State.spared, Prod.mk.injEq] at spared
  obtain ⟨⟨straps, otp, clock, mem⟩, ⟨wedged, noteOf⟩, audioOf, senseOf⟩ := spared
  have faults : t.faults = (u.marked i.code).faults := by rw [ht, State.logPart_faults]
  have marks (k : Nat) : t.isWedged k = (u.marked i.code).isWedged k := by rw [State.isWedged, State.isWedged, faults]
  have bench (b : BenchId) : t.bench b = u.bench b := by rw [ht, State.bench, State.logPart_benches]; rfl
  have tenant (x : TenantId) : t.tenant x = u.tenant x := by rw [ht, State.tenant, State.logPart_tenants]; rfl
  have self : t.isWedged i.code = true := (marks _).trans (marked_self u (island_code i))
  have tAudio : t.audio = u.audio := by rw [ht, State.logPart_audio]; rfl
  have tSense : t.sense = u.sense := by rw [ht, State.logPart_sense]; rfl
  refine ⟨t, u.marked i.code, _, whole ▸ run, ht, len, head, self, fun k hk ne => ?_, unitFault_of_wedged t self, ?_, fun ne => ?_,
    ?_, ?_, ?_, ?_, ?_, ?_, fun h1 h2 => ?_, fun h => ?_, ?_, ?_, ?_, ?_⟩
  · rw [marks, marked_other u (island_code i).1 hk ne, State.isWedged, State.isWedged, wedged]
  · rintro rfl
    obtain ⟨early, wb, noteIs⟩ := weighed
    rw [← whole] at wb noteIs
    refine ⟨noteIs, by rw [wb]; rfl, by rw [wb]; rfl, by rw [wb]; rfl, fun none => ?_⟩
    rw [wb, same rfl, none, State.cutCommit_none, noted]
    rfl
  · rw [faults]
    exact noteOf.trans ((note ne).trans (by rw [start]))
  · rintro rfl b
    rw [bench, hu]
    exact (drained_iff b _).mp ((poisonPit_empty f).1 b)
  · rintro rfl x
    rw [tenant, hu]
    exact (jobless_iff x _).mp ((poisonPit_empty f).2 x)
  · rintro rfl
    rw [ht, State.logPart_ring, hu]
    exact wedgeRing_locked f
  · rintro x rfl
    rw [tenant, hu]
    exact wedgePort_port f x
  · rintro rfl p
    have out : t.sap p = f.stopAudio.sap p := by rw [State.sap, tAudio, hu]; rfl
    rw [out, start]
    simp [State.sap, State.stopAudio]
  · rintro rfl ch
    have out : t.chan ch = f.removeExcitation.chan ch := by rw [State.chan, tSense, hu]; rfl
    rw [out, start]
    exact map_getElem ..
  · rw [tAudio, audioOf, audio h1 h2, start]
  · rw [tSense, senseOf, sense h, start]
  · rw [ht, State.logPart_pit]
    exact mem
  · rw [ht, State.logPart_clock]
    exact clock
  · rw [ht, State.logPart_straps]
    exact straps
  · rw [ht, State.logPart_otp]
    exact otp

end Sys2Proof.Machine
end

section
/-! SUPPORT. Log commits and the budget second. -/
namespace Sys2Proof.Machine

section
variable (w : Weighbridge) (r : LogRecord) (q : QueuedEntry)

theorem commit_nv : (w.commit r).nv = (w.writeSlot r).update (w.blockAfter r) := rfl

theorem commit_slots : (w.commit r).nv.slots =
    Sparse.write LogSlot.blank w.nv.slots (w.nv.nextSlot r.region) ⟨.valid, w.entryBytes r, r.pair.era⟩ := rfl

theorem commit_region (g : Region) : (w.commit r).nv.region g = (w.blockAfter r).region g := rfl

theorem commit_queues : (w.commit r).witnessQ = w.witnessQ ∧ (w.commit r).systemQ = w.systemQ := by
  have mend : (w.mend r.region).witnessQ = w.witnessQ ∧ (w.mend r.region).systemQ = w.systemQ := by
    unfold Weighbridge.mend
    split <;> exact ⟨rfl, rfl⟩
  exact mend

theorem blockAfter_next : (w.blockAfter r).next = r.pair.next := by
  rw [Weighbridge.blockAfter]
  unfold CounterBlock.setRegion
  split <;> rfl

/-- The region's head in the counter block that a commit writes. -/
theorem blockAfter_region : (w.blockAfter r).region r.region = { w.nv.region r.region with
    head := some (w.nv.nextSlot r.region), newest := r.pair, hash := sha256 (w.entryBytes r)
    wraps := if r.anchor then satInc32 (w.nv.region r.region).wraps else (w.nv.region r.region).wraps } := by
  rw [Weighbridge.blockAfter]
  cases r.region <;> rfl

theorem commitAll_queues : (w.commitAll q).witnessQ = w.witnessQ ∧ (w.commitAll q).systemQ = w.systemQ := by
  obtain ⟨witness, system⟩ := commit_queues (q.ahead.foldl Weighbridge.commit w) q.entry
  exact ⟨witness.trans (foldl_keeps (f := Weighbridge.witnessQ) (fun w r => (commit_queues w r).1) w _),
    system.trans (foldl_keeps (f := Weighbridge.systemQ) (fun w r => (commit_queues w r).2) w _)⟩

theorem commitAll_next : (w.commitAll q).nv.next = q.entry.pair.next := blockAfter_next _ q.entry

/-- The bytes of an entry begin with its sequence. -/
theorem entryBytes_take : (w.entryBytes r).take 4 = beBytes 4 r.pair.seq.toNat := by
  have four := beBytes_length 4 r.pair.seq.toNat
  rw [Weighbridge.entryBytes, LogRecord.head]
  simp only [List.append_assoc]
  rw [List.take_append_of_le_length (by omega), List.take_of_length_le (by omega)]

end

/-- The weighbridge with the first witness entry taken out, or the first system entry. -/
theorem commitNext_witness {s : State} (live : s.logLive = true) {q : QueuedEntry} {rest : List QueuedEntry} (head : s.wb.witnessQ = q :: rest)
    (least : ∀ p, s.wb.systemQ.head? = some p → q.entry.pair.lt p.entry.pair = true) :
    s.commitNext = { s with wb := { s.wb with witnessQ := rest }.commitAll q } := by
  rw [State.commitNext, if_neg (by rw [live]; decide)]
  split
  · next none _ => cases head.symm.trans none
  · next o _ one _ =>
    obtain ⟨rfl, rfl⟩ := List.cons.inj (head.symm.trans one)
    rfl
  · next none _ => cases head.symm.trans none
  · next o _ p _ one two =>
    obtain ⟨rfl, rfl⟩ := List.cons.inj (head.symm.trans one)
    rw [if_pos (least p (by rw [two]; rfl))]

theorem commitNext_system {s : State} (live : s.logLive = true) {q : QueuedEntry} {rest : List QueuedEntry} (head : s.wb.systemQ = q :: rest)
    (least : ∀ p, s.wb.witnessQ.head? = some p → p.entry.pair.lt q.entry.pair = false) :
    s.commitNext = { s with wb := { s.wb with systemQ := rest }.commitAll q } := by
  rw [State.commitNext, if_neg (by rw [live]; decide)]
  split
  · next none => cases head.symm.trans none
  · next none => cases head.symm.trans none
  · next one =>
    obtain ⟨rfl, rfl⟩ := List.cons.inj (head.symm.trans one)
    rfl
  · next o _ p _ two one =>
    obtain ⟨rfl, rfl⟩ := List.cons.inj (head.symm.trans one)
    rw [if_neg (by rw [least o (by rw [two]; rfl)]; decide)]

theorem any_ne_iff (l : List Half) : l.any (fun c => decide (c ≠ 0)) = true ↔ ∃ c ∈ l, c ≠ 0 := by
  simp only [List.any_eq_true, decide_eq_true_eq]

/-- Settles O47: the least of the two queues' heads is committed; the ended second's two counts are asked for. -/
theorem logCommits : Obligations.LogCommits := by
  refine ⟨fun s live => ⟨fun witness system => ?_, fun q rest head least => ?_, fun q rest head least => ?_⟩, fun s none => ?_,
    fun s u v e a b ended hu ha hb hv => ?_⟩
  · refine congrArg Host.Outcome.next ?_
    rw [State.commitNext, witness, system, ite_self]
  · obtain ⟨w, hw⟩ : ∃ w, w = { s.wb with witnessQ := rest } := ⟨_, rfl⟩
    obtain ⟨witness, system⟩ := commitAll_queues w q
    refine ⟨s.commitNext, rfl, ?_⟩
    rw [commitNext_witness live head least, ← hw]
    refine ⟨rfl, by rw [witness, hw], by rw [system, hw], commitAll_next w q, fun alone _ slot hs => ?_⟩
    have nv : w.nv = s.wb.nv := by rw [hw]
    have one : w.commitAll q = w.commit q.entry := by rw [Weighbridge.commitAll, alone]; rfl
    refine ⟨w.entryBytes q.entry, ?_, ?_, ?_, ?_⟩
    · rw [one, commit_slots, nv, hs]
    · exact entryBytes_take w q.entry
    · rw [one, commit_region, blockAfter_region]
    · rw [one, commit_region, blockAfter_region]
  · obtain ⟨w, hw⟩ : ∃ w, w = { s.wb with systemQ := rest } := ⟨_, rfl⟩
    obtain ⟨witness, system⟩ := commitAll_queues w q
    refine ⟨s.commitNext, rfl, ?_⟩
    rw [commitNext_system live head least, ← hw]
    exact ⟨rfl, by rw [witness, hw], by rw [system, hw], commitAll_next w q⟩
  · refine congrArg Host.Outcome.next ?_
    rw [State.budgetSecondEnd, none]
  · refine congrArg Host.Outcome.next ?_
    rw [State.budgetSecondEnd, ended]
    dsimp only
    simp only [any_ne_iff]
    rw [← hu, ← ha, ← hb, ← hv]

end Sys2Proof.Machine
end

section
/-! SUPPORT. Bytes and words, the signature of a request. -/
namespace Sys2Proof.Machine

/-! ### Bytes and words -/

theorem beNat_snoc (b : List Byte) (x : Byte) : beNat (b ++ [x]) = beNat b * 256 + x.toNat := List.foldl_append ..

theorem beNat_append (a b : List Byte) : beNat (a ++ b) = beNat a * 256 ^ b.length + beNat b := by
  induction b using List.reverseRecOn with
  | nil => simp [beNat]
  | append_singleton b x ih =>
    rw [← List.append_assoc, beNat_snoc, ih, beNat_snoc, List.length_append, List.length_singleton, Nat.pow_succ]
    ring

/-- The number that bytes spell, most significant first. -/
theorem beNat_beBytes (n v : Nat) : beNat (beBytes n v) = v % 256 ^ n := by
  induction n with
  | zero => simp [beBytes, beNat, Nat.mod_one]
  | succ n ih =>
    have one : beNat [BitVec.ofNat 8 (v / 2 ^ (8 * n))] = v / 256 ^ n % 256 := by
      simp [beNat, Nat.pow_mul]
    rw [beBytes, ← List.singleton_append, beNat_append, beBytes_length, one, ih, Nat.pow_succ, Nat.mod_mul, Nat.add_comm, Nat.mul_comm]

/-- Four bytes as a word, and back. -/
theorem beBytes_word (a b c d : Byte) :
    beBytes 4 (BitVec.ofNat 32 (((a.toNat * 256 + b.toNat) * 256 + c.toNat) * 256 + d.toNat)).toNat = [a, b, c, d] := by
  have ha := a.isLt
  have hb := b.isLt
  have hc := c.isLt
  have hd := d.isLt
  rw [ofNat_toNat (by omega)]
  simp only [beBytes, List.cons.injEq, and_true]
  refine ⟨?_, ?_, ?_, ?_⟩
  all_goals
    apply BitVec.eq_of_toNat_eq
    rw [BitVec.toNat_ofNat]
    norm_num
    omega

theorem wordsToBytes_append (a b : List Word) : wordsToBytes (a ++ b) = wordsToBytes a ++ wordsToBytes b := List.flatMap_append

theorem wordsToBytes_length (ws : List Word) : (wordsToBytes ws).length = 4 * ws.length := by
  induction ws with
  | nil => rfl
  | cons w rest ih =>
    rw [← List.singleton_append, wordsToBytes_append, List.length_append, ih]
    simp [wordsToBytes, beBytes_length]
    omega

/-- Whole words of bytes are spelled back. -/
theorem wordsToBytes_bytesToWords (n : Nat) (bs : List Byte) (h : bs.length = 4 * n) :
    wordsToBytes (bytesToWords bs) = bs ∧ (bytesToWords bs).length = n := by
  induction n generalizing bs with
  | zero =>
    obtain rfl : bs = [] := List.length_eq_zero_iff.mp h
    exact ⟨rfl, rfl⟩
  | succ n ih =>
    match bs, h with
    | a :: b :: c :: d :: rest, h =>
      obtain ⟨spelled, length⟩ := ih rest (by simp only [List.length_cons] at h; omega)
      rw [bytesToWords, ← List.singleton_append, wordsToBytes_append, spelled, List.length_append, length]
      refine ⟨?_, by simp [Nat.add_comm]⟩
      rw [wordsToBytes, List.flatMap_singleton, beBytes_word]
      rfl

theorem beWords_length (n v : Nat) : (beWords n v).length = n := (wordsToBytes_bytesToWords n _ (beBytes_length _ _)).2

theorem beWords_bytes (n v : Nat) : wordsToBytes (beWords n v) = beBytes (4 * n) v := (wordsToBytes_bytesToWords n _ (beBytes_length _ _)).1

theorem padTo_length {α : Type} (d : α) (n : Nat) (xs : List α) : (padTo d n xs).length = n := by
  rw [padTo, List.length_take, List.length_append, List.length_replicate]
  omega

theorem padTo_whole {α : Type} (d : α) {n : Nat} {xs : List α} (h : xs.length = n) : padTo d n xs = xs := by
  rw [padTo, List.take_append_of_le_length (by omega), List.take_of_length_le (by omega)]

/-! ### SHA-256 -/

theorem sha256Round_length (v : List Nat) (kw : Nat × Nat) : (sha256Round v kw).length = v.length := by
  unfold sha256Round
  split <;> rfl

theorem sha256Block_length (h block : List Nat) : (sha256Block h block).length = h.length := by
  rw [sha256Block, List.length_zipWith, foldl_keeps (f := List.length) sha256Round_length, Nat.min_self]

/-- A hash is 32 bytes. -/
theorem sha256_length (msg : List Byte) : (sha256 msg).length = 32 := by
  have spelled (l : List Nat) : (l.flatMap (beBytes 4)).length = 4 * l.length := by
    induction l with
    | nil => rfl
    | cons x rest ih => rw [List.flatMap_cons, List.length_append, ih, beBytes_length, List.length_cons]; omega
  rw [sha256, spelled, foldl_keeps (f := List.length) sha256Block_length]
  rfl

theorem deviceKeyId_length : deviceKeyId.length = 8 := (wordsToBytes_bytesToWords 8 _ (sha256_length _)).2

theorem deviceKeyBytes_length : deviceKeyBytes.length = 64 := by
  rw [deviceKeyBytes, List.length_append, beBytes_length, beBytes_length]

/-! ### A signature -/

theorem secretOf_range (v : Nat) : 1 ≤ secretOf v ∧ secretOf v < p256N := by
  have lt : v % (p256N - 1) < p256N - 1 := Nat.mod_lt _ (by decide)
  rw [secretOf]
  omega

/-- The secret that is drawn is one of the range, and the signature is under it. -/
theorem signFresh_spec (drawn : List Nat) (msg : List Byte) (fuel k : Nat) (h : 1 ≤ k ∧ k < p256N) :
    (1 ≤ (signFresh drawn msg fuel k).1 ∧ (signFresh drawn msg fuel k).1 < p256N) ∧
    (signFresh drawn msg fuel k).2 = ecdsaSign devicePrivate (signFresh drawn msg fuel k).1 msg := by
  induction fuel generalizing k with
  | zero => exact ⟨h, rfl⟩
  | succ fuel ih =>
    rw [signFresh]
    split
    · exact ih _ (secretOf_range k)
    · exact ⟨h, rfl⟩

/-- The two numbers of a signature, where its secret has a multiple of the base point (FIPS 186-5). -/
theorem ecdsaSign_spec {d k kx ky : Nat} {msg : List Byte} (h : 1 ≤ k ∧ k < p256N) (point : p256Mul k (some p256G) = some (kx, ky)) :
    (ecdsaSign d k msg).1 = kx % p256N ∧ (ecdsaSign d k msg).2 < p256N ∧
    (ecdsaSign d k msg).2 * k % p256N = (beNat (sha256 msg) + (ecdsaSign d k msg).1 * d) % p256N := by
  rw [ecdsaSign, point]
  dsimp only
  refine ⟨rfl, Nat.mod_lt _ (by decide), ?_⟩
  obtain ⟨m, hm⟩ : ∃ m, m = (beNat (sha256 msg) + kx % p256N * d) % p256N := ⟨_, rfl⟩
  rw [← hm]
  calc invMod p256N k * m % p256N * k % p256N
      = invMod p256N k * k * m % p256N := by rw [Nat.mod_mul_mod]; ring_nf
    _ = 1 * m % p256N := by rw [← Nat.mod_mul_mod, invMod_mul k h.1 h.2]
    _ = m := by rw [Nat.one_mul, hm, Nat.mod_mod]

/-- The signature of words: 16 words, its secret kept as drawn. -/
theorem sign_spec (s : State) (words : List Word) : ∃ (sig : List Word) (k : Nat),
    s.sign words = (sig, { s with freeIdx := s.freeIdx + 1, drawn := k :: s.drawn }) ∧ sig.length = 16 ∧ 1 ≤ k ∧ k < p256N ∧
    ∀ kx ky, p256Mul k (some p256G) = some (kx, ky) → ∀ r z, r = beNat (wordsToBytes (sig.take 8)) →
      z = beNat (wordsToBytes (sig.drop 8)) →
      r = kx % p256N ∧ z < p256N ∧ z * k % p256N = (beNat (sha256 (wordsToBytes words)) + r * devicePrivate) % p256N := by
  obtain ⟨x, hx⟩ : ∃ x, x = signFresh s.drawn (wordsToBytes words) (s.drawn.length + 8) (secretOf (Config.signSecret s.freeIdx)) := ⟨_, rfl⟩
  obtain ⟨range, signed⟩ := signFresh_spec s.drawn (wordsToBytes words) (s.drawn.length + 8) _ (secretOf_range (Config.signSecret s.freeIdx))
  rw [← hx] at range signed
  have e : s.sign words = (beWords 8 x.2.1 ++ beWords 8 x.2.2, { s with freeIdx := s.freeIdx + 1, drawn := x.1 :: s.drawn }) := by
    rw [hx]
    rfl
  refine ⟨_, x.1, e, by rw [List.length_append, beWords_length, beWords_length], range.1, range.2, fun kx ky point r z hr hz => ?_⟩
  obtain ⟨one, two, three⟩ := ecdsaSign_spec (d := devicePrivate) (msg := wordsToBytes words) range point
  rw [← signed] at one two three
  have lt : x.2.1 < p256N := one ▸ Nat.mod_lt _ (by decide)
  have wide : p256N < 256 ^ (4 * 8) := by decide
  rw [List.take_append_of_le_length (by rw [beWords_length]), List.take_of_length_le (by rw [beWords_length]), beWords_bytes, beNat_beBytes,
    Nat.mod_eq_of_lt (lt.trans wide)] at hr
  rw [List.drop_append_of_le_length (by rw [beWords_length]), List.drop_of_length_le (by rw [beWords_length]), List.nil_append, beWords_bytes,
    beNat_beBytes, Nat.mod_eq_of_lt (two.trans wide)] at hz
  rw [hr, hz]
  exact ⟨one, two, three⟩

end Sys2Proof.Machine
end

section
/-! SUPPORT. The snapshots of the weighbridge's requests. -/
namespace Sys2Proof.Machine

/-! ### A list cut from its head -/

theorem getD_skip {α : Type} {a b : List α} {d : α} {n i : Nat} (h : a.length = n) : (a ++ b).getD (n + i) d = b.getD i d := by
  rw [List.getD_append_right _ _ _ _ (by omega), h, Nat.add_sub_cancel_left]

theorem getD_here {α : Type} {a b : List α} {d : α} {n i : Nat} (h : a.length = n) (lt : i < n) : (a ++ b).getD i d = a.getD i d :=
  List.getD_append _ _ _ _ (by omega)

theorem drop_skip {α : Type} {a b : List α} {n i : Nat} (h : a.length = n) : (a ++ b).drop (n + i) = b.drop i := by
  rw [← h, List.drop_length_add_append]

theorem take_here {α : Type} {a b : List α} {n : Nat} (h : a.length = n) : (a ++ b).take n = a := by
  rw [← h, List.take_left]

/-! ### HEAD -/

/-- The tag data of LOG HEAD, word by word (Table WBR-7). -/
theorem headData_spec {n : Nv} {ws : List Word} (hw : ws = n.headData) (hash : n.newest.2.length = 32) :
    ws.length = 26 ∧ ws.getD 0 0 = 0x01000000#32 ∧
      ws.getD 1 0 = n.newest.1.seq ∧ ws.getD 2 0 = n.next.seq ∧ wordsToBytes ((ws.drop 3).take 8) = n.newest.2 ∧
      n.headShows .prot ws 11 23 ∧ n.headShows .gen ws 16 24 ∧ ws.getD 21 0 = n.lost ∧ ws.getD 22 0 = n.next.era ++ n.newest.1.era ∧
      ws.getD 25 0 = n.prot.mark.era ++ n.gen.mark.era := by
  obtain ⟨bytes, length⟩ := wordsToBytes_bytesToWords 8 n.newest.2 hash
  obtain ⟨front, hf⟩ : ∃ front : List Word, front = [0x01000000#32, n.newest.1.seq, n.next.seq] := ⟨_, rfl⟩
  obtain ⟨back, hb⟩ : ∃ back : List Word, back = n.headWords .prot ++ n.headWords .gen ++
    [n.lost, halves n.next.era n.newest.1.era, halves n.prot.newest.era (n.oldest .prot).era,
     halves n.gen.newest.era (n.oldest .gen).era, halves n.prot.mark.era n.gen.mark.era] := ⟨_, rfl⟩
  have parts : ws = front ++ (bytesToWords n.newest.2 ++ back) := by
    rw [hw, Nv.headData, hf, hb]
    simp only [List.append_assoc]
  have three : front.length = 3 := by rw [hf]; rfl
  have behind (i : Nat) : ws.getD (3 + (8 + i)) 0 = back.getD i 0 := by rw [parts, getD_skip three, getD_skip length]
  have ahead (i : Nat) (lt : i < 3) : ws.getD i 0 = front.getD i 0 := by rw [parts, getD_here three lt]
  refine ⟨?_, by rw [ahead 0 (by decide), hf]; rfl, by rw [ahead 1 (by decide), hf]; rfl, by rw [ahead 2 (by decide), hf]; rfl, ?_,
    ⟨(behind 0).trans ?_, (behind 1).trans ?_, (behind 2).trans ?_, (behind 3).trans ?_, (behind 4).trans ?_, (behind 12).trans ?_⟩,
    ⟨(behind 5).trans ?_, (behind 6).trans ?_, (behind 7).trans ?_, (behind 8).trans ?_, (behind 9).trans ?_, (behind 13).trans ?_⟩,
    (behind 10).trans ?_, (behind 11).trans ?_, (behind 14).trans ?_⟩
  · have end15 : back.length = 15 := by rw [hb]; rfl
    rw [parts, List.length_append, List.length_append, three, length, end15]
  · rw [parts, drop_skip (i := 0) three, List.drop_zero, take_here length, bytes]
  all_goals
    rw [hb]
    rfl

/-! ### ENTRIES -/

theorem find_spec {n : Nv} {p : SeqPair} {x : Nat × LogSlot} (h : n.find p = some x) : x ∈ n.slots ∧ x.2.status = .valid ∧ x.2.pair = p := by
  rw [Nv.find] at h
  have found := List.mem_of_find?_eq_some h
  obtain ⟨mem, valid⟩ := List.mem_filter.mp found
  exact ⟨mem, of_decide_eq_true valid, by simpa using List.find?_some h⟩

/-- The entries of a run are those of the pairs one after another. -/
theorem run_spec (n : Nv) (k : Nat) (p : SeqPair) :
    (n.run k p).length ≤ k ∧ ((n.run k p).length < k → n.find (Nat.repeat SeqPair.next (n.run k p).length p) = none) ∧
    ∀ i y, (n.run k p)[i]? = some y → n.find (Nat.repeat SeqPair.next i p) = some y := by
  induction k generalizing p with
  | zero => exact ⟨Nat.le_refl _, fun h => absurd h (Nat.not_lt_zero _), fun i y h => by rw [Nv.run] at h; simp at h⟩
  | succ k ih =>
    have shift (i : Nat) (q : SeqPair) : Nat.repeat SeqPair.next (i + 1) q = Nat.repeat SeqPair.next i q.next := by
      induction i with
      | zero => rfl
      | succ i ih => rw [Nat.repeat, ih]; rfl
    rw [Nv.run]
    split
    · next none => exact ⟨Nat.zero_le _, fun _ => none, fun i y h => by simp at h⟩
    · next x found =>
      obtain ⟨bound, full, entries⟩ := ih p.next
      refine ⟨Nat.succ_le_succ bound, fun h => ?_, fun i y h => ?_⟩
      · rw [List.length_cons, shift]
        exact full (Nat.lt_of_succ_lt_succ h)
      · cases i with
        | zero =>
          rw [List.getElem?_cons_zero] at h
          rw [← h]
          exact found
        | succ i =>
          rw [List.getElem?_cons_succ] at h
          rw [shift]
          exact entries i y h

/-- The `i`-th of pieces of `m` words. -/
theorem flatMap_piece {α : Type} {f : α → List Word} {xs : List α} {m : Nat} (h : ∀ x ∈ xs, (f x).length = m) :
    (xs.flatMap f).length = m * xs.length ∧ ∀ i y, xs[i]? = some y → ∃ rest, (xs.flatMap f).drop (m * i) = f y ++ rest := by
  induction xs with
  | nil => exact ⟨rfl, fun i y h => by simp at h⟩
  | cons x rest ih =>
    obtain ⟨length, piece⟩ := ih fun y hy => h y (List.mem_cons_of_mem _ hy)
    have own := h x List.mem_cons_self
    refine ⟨by rw [List.flatMap_cons, List.length_append, length, own, List.length_cons, Nat.mul_succ, Nat.add_comm], fun i y hy => ?_⟩
    rw [List.flatMap_cons]
    cases i with
    | zero =>
      rw [List.getElem?_cons_zero, Option.some.injEq] at hy
      exact ⟨_, by rw [Nat.mul_zero, List.drop_zero, hy]⟩
    | succ i =>
      rw [List.getElem?_cons_succ] at hy
      rw [Nat.mul_succ, Nat.add_comm, drop_skip own]
      exact piece i y hy

section
variable (bad : List (Nat × List Byte))

theorem badMap_shift (xs : List (Nat × LogSlot)) (i : Nat) : badMap bad (i + 1) xs = 2 * badMap bad i xs := by
  induction xs generalizing i with
  | nil => rfl
  | cons x rest ih =>
    rw [badMap, badMap, ih, bitAt_eq, bitAt_eq, Nat.pow_succ]
    ring

theorem badMap_cons (x : Nat × LogSlot) (rest : List (Nat × LogSlot)) :
    badMap bad 0 (x :: rest) = (bad.any (fun z => decide (z.1 = x.1))).toNat + 2 * badMap bad 0 rest := by
  rw [badMap, badMap_shift, bitAt_eq, Nat.pow_zero, Nat.mul_one]

/-- Bit `i` of the map of uncorrectable entries is that of entry `i`. -/
theorem badMap_testBit (xs : List (Nat × LogSlot)) (i : Nat) (y : Nat × LogSlot) (h : xs[i]? = some y) :
    (badMap bad 0 xs).testBit i = bad.any (fun z => decide (z.1 = y.1)) := by
  induction xs generalizing i with
  | nil => simp at h
  | cons x rest ih =>
    have flag := Bool.toNat_lt (bad.any (fun z => decide (z.1 = x.1)))
    rw [badMap_cons]
    cases i with
    | zero =>
      rw [List.getElem?_cons_zero, Option.some.injEq] at h
      rw [← h]
      exact testBit_digit (by rw [Nat.pow_zero, Nat.div_one]; omega)
    | succ i =>
      rw [List.getElem?_cons_succ] at h
      rw [Nat.testBit_succ, show ((bad.any (fun z => decide (z.1 = x.1))).toNat + 2 * badMap bad 0 rest) / 2 = badMap bad 0 rest by omega]
      exact ih i h

/-- The first word of ENTRIES (Table WBR-8). -/
theorem entryHead_spec (length : Nat) (short devel : Bool) (h : length ≤ 16) {w : Word}
    (hw : w = BitVec.ofNat 32 (0x01000000 + length * 2 ^ 16 + bitAt short 9 + bitAt devel 8)) :
    w.toNat / 2 ^ 24 = 1 ∧ w.toNat / 2 ^ 16 % 2 ^ 8 = length ∧ w.getLsbD 9 = short ∧ w.getLsbD 8 = devel ∧ w.toNat % 2 ^ 8 = 0 := by
  have one := Bool.toNat_lt short
  have two := Bool.toNat_lt devel
  have value : w.toNat = 0x01000000 + length * 2 ^ 16 + short.toNat * 2 ^ 9 + devel.toNat * 2 ^ 8 := by
    rw [hw, bitAt_eq, bitAt_eq]
    exact ofNat_toNat (by omega)
  exact ⟨by omega, by omega, testBit_digit (by omega), testBit_digit (by omega), by omega⟩

theorem halves_high (hi lo : Half) : (halves hi lo).extractLsb' 16 16 = hi := by
  rw [halves]
  exact BitVec.extractLsb'_append_eq_left

theorem halves_low (hi lo : Half) (i : Nat) (lt : i < 16) : (halves hi lo).getLsbD i = lo.getLsbD i := by
  rw [halves, BitVec.getLsbD_append, if_pos lt]

/-- The words of ENTRIES: its three first ones, then 16 for each entry (Table WBR-8). -/
theorem entryData_spec {s : State} {p : SeqPair} {k : Nat} {ws : List Word} {xs : List (Nat × LogSlot)} (few : k ≤ 16)
    (hx : xs = s.wb.nv.run k p) (hw : ws = s.entryData p k bad) (whole : ∀ y ∈ s.wb.nv.slots, y.2.bytes.length = 64) :
    ws.length = 3 + 16 * xs.length ∧ xs.length ≤ k ∧
      (∀ w, w = ws.getD 0 0 → w.toNat / 2 ^ 24 = 1 ∧ w.toNat / 2 ^ 16 % 2 ^ 8 = xs.length ∧ w.getLsbD 9 = decide (xs.length < k) ∧
        w.getLsbD 8 = s.straps.devel ∧ w.toNat % 2 ^ 8 = 0) ∧
      ws.getD 1 0 = p.seq ∧ (ws.getD 2 0).extractLsb' 16 16 = p.era ∧
      (∀ i y, xs[i]? = some y → y ∈ s.wb.nv.slots ∧ y.2.status = .valid ∧ y.2.pair = Nat.repeat SeqPair.next i p ∧
        (ws.getD 2 0).getLsbD i = bad.any (fun z => decide (z.1 = y.1)) ∧
        wordsToBytes ((ws.drop (3 + 16 * i)).take 16) =
          match bad.find? (fun z => decide (z.1 = y.1)) with | none => y.2.bytes | some z => padTo 0 64 z.2) ∧
      (xs.length < k → s.wb.nv.find (Nat.repeat SeqPair.next xs.length p) = none) := by
  obtain ⟨bound, full, entries⟩ := run_spec s.wb.nv k p
  rw [← hx] at bound full entries
  have sizes (y : Nat × LogSlot) (h : y ∈ xs) : wordsToBytes (bytesToWords (slotBytes bad y)) = slotBytes bad y ∧
      (bytesToWords (slotBytes bad y)).length = 16 := by
    refine wordsToBytes_bytesToWords 16 _ ?_
    obtain ⟨i, hi⟩ := List.mem_iff_getElem?.mp h
    rw [slotBytes]
    split
    · exact padTo_length ..
    · exact whole y (find_spec (entries i y hi)).1
  obtain ⟨length, piece⟩ := flatMap_piece (f := fun y => bytesToWords (slotBytes bad y)) fun y hy => (sizes y hy).2
  obtain ⟨front, hf⟩ : ∃ front : List Word, front = [BitVec.ofNat 32 (0x01000000 + xs.length * 2 ^ 16 + bitAt (decide (xs.length < k)) 9 +
    bitAt s.straps.devel 8), p.seq, halves p.era (BitVec.ofNat 16 (badMap bad 0 xs))] := ⟨_, rfl⟩
  have three : front.length = 3 := by rw [hf]; rfl
  have parts : ws = front ++ xs.flatMap (fun y => bytesToWords (slotBytes bad y)) := by rw [hw, State.entryData, ← hx, hf]
  have ahead (i : Nat) (lt : i < 3) : ws.getD i 0 = front.getD i 0 := by rw [parts, getD_here three lt]
  have two : ws.getD 2 0 = halves p.era (BitVec.ofNat 16 (badMap bad 0 xs)) := by rw [ahead 2 (by decide), hf]; rfl
  refine ⟨by rw [parts, List.length_append, three, length], bound, fun w h => ?_, by rw [ahead 1 (by decide), hf]; rfl,
    by rw [two, halves_high], fun i y h => ?_, full⟩
  · refine entryHead_spec xs.length _ _ (bound.trans few) ?_
    rw [h, ahead 0 (by decide), hf]
    rfl
  · obtain ⟨mem, valid, pair⟩ := find_spec (entries i y h)
    have lt : i < xs.length := (List.getElem?_eq_some_iff.mp h).1
    refine ⟨mem, valid, pair, ?_, ?_⟩
    · rw [two, halves_low _ _ _ (by omega), BitVec.getLsbD_ofNat, decide_eq_true (by omega), Bool.true_and, badMap_testBit bad xs i y h]
    · obtain ⟨rest, hr⟩ := piece i y h
      have own := (sizes y (List.mem_of_getElem? h)).2
      rw [parts, drop_skip three, hr, take_here own, (sizes y (List.mem_of_getElem? h)).1, slotBytes]
      cases bad.find? (fun z => decide (z.1 = y.1)) <;> rfl

end

end Sys2Proof.Machine
end

section
/-! SUPPORT. The words of an attestation. -/
namespace Sys2Proof.Machine

theorem getD_of_drop {α : Type} {ws b : List α} {n : Nat} (h : ws.drop n = b) (i : Nat) (d : α) : ws.getD (n + i) d = b.getD i d := by
  rw [← h, List.getD_eq_getElem?_getD, List.getD_eq_getElem?_getD, List.getElem?_drop]

theorem drop_more {α : Type} {ws a b : List α} {n m : Nat} (h : ws.drop n = a ++ b) (ha : a.length = m) : ws.drop (n + m) = b := by
  rw [← List.drop_drop, h, ← ha, List.drop_left]

/-- Two words of a number, put together. -/
theorem beWords_two (v : BitVec 64) : (beWords 2 v.toNat).getD 0 0 ++ (beWords 2 v.toNat).getD 1 0 = v := by
  have bytes := beWords_bytes 2 v.toNat
  have value := beNat_beBytes 8 v.toNat
  rw [Nat.mod_eq_of_lt (show v.toNat < 256 ^ 8 from v.isLt), ← bytes] at value
  match e : beWords 2 v.toNat, beWords_length 2 v.toNat with
  | [a, b], _ =>
    have spelled : beNat (wordsToBytes [a, b]) = a.toNat * 2 ^ 32 + b.toNat := by
      have ha : a.toNat < 256 ^ 4 := a.isLt
      have hb : b.toNat < 256 ^ 4 := b.isLt
      have two : wordsToBytes [a, b] = beBytes 4 a.toNat ++ beBytes 4 b.toNat := by simp [wordsToBytes]
      rw [two, beNat_append, beNat_beBytes, beNat_beBytes, beBytes_length, Nat.mod_eq_of_lt ha, Nat.mod_eq_of_lt hb]
      norm_num
    rw [e, spelled] at value
    apply BitVec.eq_of_toNat_eq
    rw [← value]
    refine (BitVec.toNat_append a b).trans ?_
    rw [← Nat.shiftLeft_add_eq_or_of_lt b.isLt, Nat.shiftLeft_eq]

section
variable (s : State)

/-- The authority slots provisioned, bit by bit. -/
theorem provisioned_eq (o : Otp) : o.provisioned = (List.finRange 4).foldl (fun m i => m + (o.keys[i]).isSome.toNat * 2 ^ i.val) 0 := by
  have slot (m : Nat) (i : Fin 4) : (if (vget o.keys i.val none).isSome then m + 2 ^ i.val else m) = m + (o.keys[i]).isSome.toNat * 2 ^ i.val := by
    have e : vget o.keys i.val none = o.keys[i] := dif_pos i.isLt
    rw [e]
    cases (o.keys[i]).isSome <;> simp
  rw [Otp.provisioned, foldl_range]
  simp only [slot]

theorem provisioned_lt (o : Otp) : o.provisioned < 2 ^ 4 := by
  rw [provisioned_eq]
  exact foldl_digits_lt fun i => Bool.toNat_lt _

theorem provisioned_testBit (o : Otp) (i : Fin 4) : o.provisioned.testBit i.val = (o.keys[i]).isSome := by
  refine testBit_digit ?_
  rw [provisioned_eq]
  exact foldl_digits_digit (fun i => Bool.toNat_lt _) i

theorem tenantMask_eq (p : TenantId → Bool) : tenantMask p = (List.finRange 4).foldl (fun m t => m + (p t).toNat * 2 ^ t.val) 0 := by
  rw [tenantMask]
  simp only [bitAt_eq]

theorem tenantMask_lt (p : TenantId → Bool) : tenantMask p < 2 ^ 4 := by
  rw [tenantMask_eq]
  exact foldl_digits_lt fun i => Bool.toNat_lt _

theorem tenantMask_testBit (p : TenantId → Bool) (y : TenantId) : (tenantMask p).testBit y.val = p y := by
  refine testBit_digit ?_
  rw [tenantMask_eq]
  exact foldl_digits_digit (fun i => Bool.toNat_lt _) y

/-- The flags of an attestation, field by field (Table WBR-9). -/
theorem attestFlags_spec : ∀ w, w = s.attestFlags → w.getLsbD 31 = decide (s.otp.lock ≠ 0) ∧ w.getLsbD 30 = s.straps.devel ∧
    w.getLsbD 29 = s.provisioningOpen ∧ w.getLsbD 28 = false ∧ (∀ i : Fin 4, w.getLsbD (24 + i.val) = (s.otp.keys[i]).isSome) ∧
    w.toNat / 2 ^ 20 % 16 = s.power.state.code ∧ w.toNat / 2 ^ 17 % 8 = 0 ∧ w.getLsbD 16 = (s.family441 && !s.codeless 1) ∧
    w.toNat / 2 ^ 12 % 16 = min 15 (s.wb.nv.newest.1.era.toNat - s.wb.nv.prot.newest.era.toNat) ∧
    w.getLsbD 11 = (s.running && s.clock.plan.getLsbD 12) ∧
    w.toNat / 2 ^ 8 % 8 = (if s.running = true then s.clock.plan.toNat / 2 ^ 13 % 8 else 0) ∧
    ∀ y : TenantId, w.getLsbD (4 + y.val) = s.present y ∧ w.getLsbD y.val = (s.tenant y).image.isSome := by
  rintro w hw
  have lock := Bool.toNat_lt s.otp.locked
  have devel := Bool.toNat_lt s.straps.devel
  have opened := Bool.toNat_lt s.provisioningOpen
  have slots := provisioned_lt s.otp
  have code := s.power.state.code_lt
  have family := Bool.toNat_lt (s.family441 && !s.codeless 1)
  obtain ⟨eras, he⟩ : ∃ e, e = min 15 (s.wb.nv.newest.1.era.toNat - s.wb.nv.prot.newest.era.toNat) := ⟨_, rfl⟩
  have era : eras < 16 := by omega
  have economy := Bool.toNat_lt (s.running && s.economy)
  obtain ⟨plan, hp⟩ : ∃ p, p = if s.running = true then s.clock.plan.toNat / 2 ^ 13 % 8 else 0 := ⟨_, rfl⟩
  have planLt : plan < 8 := by rw [hp]; split <;> omega
  have here := tenantMask_lt s.present
  have images := tenantMask_lt (fun t => (s.tenant t).image.isSome)
  have value : w.toNat = s.otp.locked.toNat * 2 ^ 31 + s.straps.devel.toNat * 2 ^ 30 + s.provisioningOpen.toNat * 2 ^ 29 +
      s.otp.provisioned * 2 ^ 24 + s.power.state.code * 2 ^ 20 + (s.family441 && !s.codeless 1).toNat * 2 ^ 16 + eras * 2 ^ 12 +
      (s.running && s.economy).toNat * 2 ^ 11 + plan * 2 ^ 8 + tenantMask s.present * 2 ^ 4 +
      tenantMask (fun t => (s.tenant t).image.isSome) := by
    rw [hw, State.attestFlags, ← he, ← hp]
    simp only [bitAt_eq]
    exact ofNat_toNat (by omega)
  have bit {i : Nat} {b : Bool} (h : w.toNat / 2 ^ i % 2 = b.toNat) : w.getLsbD i = b := testBit_digit h
  rw [← he, ← hp]
  refine ⟨bit (b := s.otp.locked) (by omega), bit (by omega), bit (by omega), bit (by simp only [Bool.toNat_false]; omega),
      fun i => ?_, by omega, by omega, bit (by omega), by omega,
    bit (b := s.running && s.economy) (by omega), by omega, fun y => ⟨?_, ?_⟩⟩
  · rw [getLsbD_field (show _ % 2 ^ 4 = s.otp.provisioned by omega) i.isLt, provisioned_testBit]
  · rw [getLsbD_field (show _ % 2 ^ 4 = tenantMask s.present by omega) y.isLt, tenantMask_testBit]
  · have low := getLsbD_field (w := w) (lo := 0) (show _ % 2 ^ 4 = tenantMask (fun t => (s.tenant t).image.isSome) by omega) y.isLt
    rw [Nat.zero_add] at low
    rw [low, tenantMask_testBit]

theorem calMap_getLsbD (ch : SenseId) : s.calMap.getLsbD ch.val = (s.chan ch).cal.isSome := by
  have sum : (List.finRange 16).foldl (fun m c => m + bitAt s.sense.channels[c].cal.isSome c.val) 0 =
      (List.finRange 16).foldl (fun m c => m + s.sense.channels[c].cal.isSome.toNat * 2 ^ c.val) 0 := by simp only [bitAt_eq]
  rw [State.calMap, sum, BitVec.getLsbD_ofNat, decide_eq_true ch.isLt, Bool.true_and]
  exact testBit_digit (foldl_digits_digit (v := fun c : Fin 16 => s.sense.channels[c].cal.isSome.toNat) (fun i => Bool.toNat_lt _) ch)

theorem attestTenant_spec (y : TenantId) (whole : ∀ i, (s.tenant y).image = some i → i.digest.length = 32) :
    ∃ rollback digest, s.attestTenant y = s.wb.nv.floors[y] :: rollback :: digest ∧ digest.length = 8 ∧
      rollback = (match (s.tenant y).image with | none => 0 | some i => i.rollback) ∧
      wordsToBytes digest = (match (s.tenant y).image with | none => List.replicate 32 0 | some i => i.digest) := by
  have floor : vget s.wb.nv.floors y.val 0 = s.wb.nv.floors[y] := dif_pos y.isLt
  rw [State.attestTenant, floor]
  cases h : (s.tenant y).image with
  | none => exact ⟨0, List.replicate 8 0, rfl, rfl, rfl, by decide⟩
  | some i =>
    obtain ⟨bytes, length⟩ := wordsToBytes_bytesToWords 8 i.digest (whole i h)
    exact ⟨i.rollback, _, rfl, length, rfl, bytes⟩

/-- The words of an attestation (Table WBR-9). -/
theorem attestData_spec {x : TenantId} {nonce ws : List Word} (hw : ws = s.attestData x nonce) (hash : s.wb.nv.newest.2.length = 32)
    (straps : s.straps.snapshot.length = 28) (whole : ∀ y i, (s.tenant y).image = some i → i.digest.length = 32) :
    ws.length = 104 ∧ ws.getD 0 0 = BitVec.ofNat 32 (0x01b00000 + x.val * 256) ∧
      ws.getD 1 0 ++ ws.getD 2 0 = Config.partId ∧ (ws.drop 3).take 8 = deviceKeyId ∧
      wordsToBytes ((ws.drop 11).take 16) = deviceKeyBytes ∧ wordsToBytes ((ws.drop 27).take 7) = s.straps.snapshot ∧
      ws.getD 34 0 = s.attestFlags ∧ ws.getD 35 0 = halves s.wb.nv.newest.1.era s.calMap ∧
      (ws.getD 36 0).toNat = s.localFrame / 2 ^ 32 % 2 ^ 32 ∧ (ws.getD 37 0).toNat = s.localFrame % 2 ^ 32 ∧
      (ws.getD 38 0).toNat = s.ringFrame / 2 ^ 32 % 2 ^ 32 ∧ (ws.getD 39 0).toNat = s.ringFrame % 2 ^ 32 ∧
      ws.getD 40 0 = s.wb.nv.powerCycle ∧ ws.getD 41 0 = s.ring.todSeconds ∧ ws.getD 42 0 = s.todWord ∧ ws.getD 43 0 = s.ring.todEpoch ∧
      ws.getD 44 0 = s.ring.epoch ∧ ws.getD 45 0 = s.wb.nv.newest.1.seq ∧ wordsToBytes ((ws.drop 46).take 8) = s.wb.nv.newest.2 ∧
      ws.getD 54 0 = s.wb.nv.prot.newest.seq ∧ ws.getD 55 0 = s.wb.nv.lost ∧
      (∀ y : TenantId, ws.getD (56 + 10 * y.val) 0 = s.wb.nv.floors[y] ∧
        ws.getD (57 + 10 * y.val) 0 = (match (s.tenant y).image with | none => 0 | some i => i.rollback) ∧
        wordsToBytes ((ws.drop (58 + 10 * y.val)).take 8) =
          (match (s.tenant y).image with | none => List.replicate 32 0 | some i => i.digest)) ∧
      (ws.drop 96).take 8 = padTo 0 8 nonce := by
  obtain ⟨keyBytes, keyLength⟩ := wordsToBytes_bytesToWords 16 _ deviceKeyBytes_length
  obtain ⟨strapBytes, strapLength⟩ := wordsToBytes_bytesToWords 7 _ straps
  obtain ⟨hashBytes, hashLength⟩ := wordsToBytes_bytesToWords 8 _ hash
  have ten (y : TenantId) : (s.attestTenant y).length = 10 := by
    obtain ⟨r, d, e, length, -⟩ := attestTenant_spec s y (whole y)
    rw [e, List.length_cons, List.length_cons, length]
  obtain ⟨rows, row⟩ := flatMap_piece (f := s.attestTenant) (xs := List.finRange 4) fun y _ => ten y
  rw [State.attestData, padTo_whole _ straps] at hw
  simp only [List.append_assoc] at hw
  have d0 : ws.drop 0 = ws := rfl
  have d1 := drop_more (m := 1) (d0.trans hw) rfl
  have d3 := drop_more d1 (beWords_length 2 _)
  have d11 := drop_more d3 deviceKeyId_length
  have d27 := drop_more d11 keyLength
  have d34 := drop_more d27 strapLength
  have d36 := drop_more (m := 2) d34 rfl
  have d38 := drop_more (m := 2) d36 rfl
  have d40 := drop_more (m := 2) d38 rfl
  have d46 := drop_more (m := 6) d40 rfl
  have d54 := drop_more d46 hashLength
  have d56 := drop_more (m := 2) d54 rfl
  have d96 := drop_more d56 rows
  have word (n : Nat) : (BitVec.ofNat 32 n).toNat = n % 2 ^ 32 := BitVec.toNat_ofNat ..
  refine ⟨?_, getD_of_drop (d0.trans hw) 0 0, ?_, ?_, ?_, ?_, getD_of_drop d34 0 0, getD_of_drop d34 1 0,
    (congrArg BitVec.toNat (getD_of_drop d36 0 0)).trans (word _), (congrArg BitVec.toNat (getD_of_drop d36 1 0)).trans (word _),
    (congrArg BitVec.toNat (getD_of_drop d38 0 0)).trans (word _), (congrArg BitVec.toNat (getD_of_drop d38 1 0)).trans (word _),
    getD_of_drop d40 0 0, getD_of_drop d40 1 0, getD_of_drop d40 2 0, getD_of_drop d40 3 0, getD_of_drop d40 4 0, getD_of_drop d40 5 0,
    ?_, getD_of_drop d54 0 0, getD_of_drop d54 1 0, fun y => ?_, ?_⟩
  · have total := congrArg List.length hw
    simp only [List.length_append, List.length_cons, List.length_nil, beWords_length, deviceKeyId_length, keyLength, strapLength,
      hashLength, rows, padTo_length, counterWords, List.length_finRange] at total
    exact total
  · have two := beWords_length 2 Config.partId.toNat
    have one : ws.getD 1 0 = (beWords 2 Config.partId.toNat).getD 0 0 := (getD_of_drop d1 0 0).trans (getD_here two (by decide))
    have other : ws.getD 2 0 = (beWords 2 Config.partId.toNat).getD 1 0 := (getD_of_drop d1 1 0).trans (getD_here two (by decide))
    rw [one, other, beWords_two]
  · rw [d3, take_here deviceKeyId_length]
  · rw [d11, take_here keyLength, keyBytes]
  · rw [d27, take_here strapLength, strapBytes]
  · rw [d46, take_here hashLength, hashBytes]
  · obtain ⟨rest, hr⟩ := row y.val y (by simp)
    obtain ⟨rollback, digest, e, length, hroll, bytes⟩ := attestTenant_spec s y (whole y)
    have here : ws.drop (56 + 10 * y.val) = s.wb.nv.floors[y] :: rollback :: (digest ++ (rest ++ padTo 0 8 nonce)) := by
      rw [← List.drop_drop, d56, List.drop_append_of_le_length (by rw [rows, List.length_finRange]; have := y.isLt; omega), hr, e]
      simp only [List.cons_append, List.append_assoc]
    refine ⟨getD_of_drop here 0 0, ?_, ?_⟩
    · rw [← hroll, show 57 + 10 * y.val = 56 + 10 * y.val + 1 by omega]
      exact getD_of_drop here 1 0
    · have behind : ws.drop (56 + 10 * y.val + 2) = digest ++ (rest ++ padTo 0 8 nonce) := drop_more (a := [_, _]) here rfl
      rw [← bytes, show 58 + 10 * y.val = 56 + 10 * y.val + 2 by omega, behind, take_here length]
  · rw [show (96 : Nat) = 56 + 10 * (List.finRange 4).length from rfl, d96]
    exact List.take_of_length_le (by rw [padTo_length])

end

end Sys2Proof.Machine
end

section
/-! SUPPORT. The weighbridge serves its requests. -/
namespace Sys2Proof.Machine

section
variable {s u : State} {v : WbService} (st : BitVec 4) (us : Word)

theorem completeTag_eq (s : State) (x : TenantId) (tag : Nat) (data : List Word) (code : Byte) (marks : SeqPair × SeqPair) :
    s.completeTag x tag data code marks = s.tagReady x tag data code marks := rfl

/-- A signed request's tag takes its words and their signature. -/
theorem requestDone_signed (serves : s.wb.service = some v) (hu : u = { s with wb := { s.wb with service := none } })
    (signed : (∃ n, v.request = .attest n) ∨ ∃ p k n, v.request = .exportLog p k n) :
    s.requestDone st us = (u.sign v.words).2.tagReady v.tenant v.tag (v.words ++ (u.sign v.words).1) 0 v.marks := by
  rw [State.requestDone, serves, hu]
  rcases signed with ⟨n, h⟩ | ⟨p, k, n, h⟩
  · simp only [h]
    rfl
  · simp only [h]
    rfl

theorem requestDone_slot (serves : s.wb.service = some v) (hu : u = { s with wb := { s.wb with service := none } }) {i : Nat} {hash : List Word}
    (h : v.request = .slot i hash) : s.requestDone st us =
      (u.programSlot v.tenant i hash).2.tagReady v.tenant v.tag [BitVec.ofNat 32 (u.programSlot v.tenant i hash).2.otp.provisioned]
        (u.programSlot v.tenant i hash).1 v.marks := by
  rw [State.requestDone, serves, hu]
  simp only [h]
  rfl

theorem all_zero_iff (hash : List Word) : hash.all (fun w => decide (w = 0)) = true ↔ ∀ w ∈ hash, w = 0 := by
  simp only [List.all_eq_true, decide_eq_true_eq]

end

/-- The NV memory after an entry of the part: as it was, or with one more entry lost. -/
theorem logPart_nv (s : State) (kind : Byte) (payload : List Byte) : (s.logPart kind payload).wb.nv = s.wb.nv ∨
    (s.logPart kind payload).wb.nv = s.wb.nv.update { s.wb.nv.block with lost := satInc32 s.wb.nv.lost } := by
  rw [State.logPart]
  split
  · exact .inl rfl
  split
  · exact .inl rfl
  split
  · exact .inr rfl
  · exact .inl (s.takeEntry_wb _ _ _).1

theorem logPart_floors (s : State) (kind : Byte) (payload : List Byte) : (s.logPart kind payload).wb.nv.floors = s.wb.nv.floors := by
  rcases logPart_nv s kind payload with h | h <;> rw [h]
  rfl

/-- The state with a floor as raised, before its entry. -/
def State.floorRaised (s : State) (i : TenantId) (f : Word) : State :=
  { s with wb := { s.wb with nv := s.wb.nv.update { s.wb.nv.block with floors := vmod s.wb.nv.floors i.val (fun _ => f) } } }

theorem programFloor_eq (s : State) (t i : TenantId) (w f : Word)
    (hf : f = if (vget s.wb.nv.floors i.val 0).toNat < w.toNat then w else vget s.wb.nv.floors i.val 0) :
    s.programFloor t i w = (s.floorRaised i f).logPart 0x18 ([2, BitVec.ofNat 8 t.val, BitVec.ofNat 8 i.val, 0] ++ beBytes 4 f.toNat) ∧
    vget (s.programFloor t i w).wb.nv.floors i.val 0 = f := by
  have e : s.programFloor t i w = (s.floorRaised i f).logPart 0x18
      ([2, BitVec.ofNat 8 t.val, BitVec.ofNat 8 i.val, 0] ++ beBytes 4 f.toNat) := by
    rw [hf]
    rfl
  have floors : (s.floorRaised i f).wb.nv.floors = vmod s.wb.nv.floors i.val (fun _ => f) := rfl
  refine ⟨e, ?_⟩
  rw [e, logPart_floors, floors]
  unfold vget vmod
  simp [i.isLt]

/-- Settles O46: a request taken, a request done by its kind, and the words of each snapshot. -/
theorem weighbridgeServes : Obligations.WeighbridgeServes := by
  refine ⟨fun bad s live idle => ⟨fun none => ?_, fun x tag q next => ?_⟩, fun st us s idle => ?_,
    fun st us s u v serves hu => ⟨fun copied => ?_, fun self => ?_, fun signed => ?_, fun i hash h => ⟨fun taken => ?_, fun free zero => ?_,
      fun free ⟨w, hw, nonzero⟩ o ho => ?_⟩, fun x w h f hf => ?_⟩,
    fun x bad s n hn => ⟨fun ws hw size => ?_, fun p k nonce ws xs few hx hw whole => ?_, fun nonce ws hw hash straps digests => ?_⟩⟩
  · refine congrArg Host.Outcome.next ?_
    rw [State.serviceStart, none]
    exact ite_self _
  · refine congrArg Host.Outcome.next ?_
    rw [State.serviceStart, if_neg (by simp [live, idle]), next]
  · refine congrArg Host.Outcome.next ?_
    rw [State.requestDone, idle]
  · refine congrArg Host.Outcome.next ?_
    rw [State.requestDone, serves, hu]
    rcases copied with h | ⟨p, k, h⟩ | h
    all_goals
      simp only [h]
      rfl
  · refine congrArg Host.Outcome.next ?_
    rw [State.requestDone, serves, hu]
    simp only [self]
    rfl
  · obtain ⟨sig, k, e, length, low, high, valid⟩ := sign_spec u v.words
    refine ⟨sig, k, length, low, high, valid, ?_⟩
    refine congrArg Host.Outcome.next ((requestDone_signed st us serves hu signed).trans ?_)
    rw [e, hu]
  · refine congrArg Host.Outcome.next ((requestDone_slot st us serves hu h).trans ?_)
    have otp : u.otp = s.otp := by rw [hu]
    rw [State.programSlot, otp, if_pos taken, otp]
  · refine congrArg Host.Outcome.next ((requestDone_slot st us serves hu h).trans ?_)
    have otp : u.otp = s.otp := by rw [hu]
    rw [State.programSlot, otp, if_neg (by rw [free]; decide), if_pos ((all_zero_iff hash).mpr zero), otp]
  · refine congrArg Host.Outcome.next ((requestDone_slot st us serves hu h).trans ?_)
    have otp : u.otp = s.otp := by rw [hu]
    have some : ¬ hash.all (fun w => decide (w = 0)) = true := fun all => nonzero ((all_zero_iff hash).mp all w hw)
    rw [State.programSlot, otp, if_neg (by rw [free]; decide), if_neg some, ← ho]
    rw [State.logPart_otp]
  · refine congrArg Host.Outcome.next ?_
    have nv : u.wb.nv = s.wb.nv := by rw [hu]
    obtain ⟨e, floor⟩ := programFloor_eq u v.tenant x w f (by rw [nv]; exact hf)
    have done : s.requestDone st us = (u.programFloor v.tenant x w).tagReady v.tenant v.tag
        [vget (u.programFloor v.tenant x w).wb.nv.floors x.val 0] 0 v.marks := by
      rw [State.requestDone, serves, hu]
      simp only [h]
      rfl
    rw [done, floor, e, State.floorRaised, nv]
  · rw [hn] at size
    exact hn ▸ headData_spec hw size
  · rw [hn] at hx whole
    obtain ⟨length, bound, head, seq, era, entries, full⟩ := entryData_spec bad few hx hw whole
    rw [hn]
    refine ⟨length, bound, head, seq, era, entries, full, ?_⟩
    rw [hw]
    rfl
  · rw [hn] at hash
    obtain ⟨length, w0, part, key, keyBytes, straps', flags, map, rest⟩ := attestData_spec s hw hash straps digests
    rw [hn]
    refine ⟨length, w0, part, key, keyBytes, straps', fun w hw => attestFlags_spec s w (hw.trans flags), by rw [map, halves_high],
      fun ch => by rw [map, halves_low _ _ _ ch.isLt, calMap_getLsbD], rest⟩

end Sys2Proof.Machine
end

section
/-! SUPPORT. Images: their verification. -/
namespace Sys2Proof.Machine

section
variable (s : State) (x : TenantId) (r : ImageRefusal)

/-- A tenant whose refusals are counted or noted. -/
def Tenant.refusals (y : Tenant) (noted : Option Nat) (n : Word) : Tenant := { y with refusedAt := noted, refusedNotLogged := n }

/-- A refusal logged changes the weighbridge and the tenant's count of refusals. -/
theorem logRefused_eq : ∃ w noted n, s.logRefused x r = ({ s with wb := w } : State).modTenant x (fun y => y.refusals noted n) := by
  have tenant (u : State) : u.modTenant x (fun y => { y with refusedNotLogged := y.refusedNotLogged + 1 }) =
      u.modTenant x (fun y => y.refusals (u.tenant x).refusedAt ((u.tenant x).refusedNotLogged + 1)) :=
    modTenant_congr rfl
  rw [State.logRefused]
  dsimp only
  split
  · split
    · exact ⟨_, _, _, by rw [State.logPart_eq]; rfl⟩
    · exact ⟨_, _, _, by rw [State.logPart_eq]; exact tenant _⟩
  · exact ⟨s.wb, _, _, tenant s⟩

/-- A refused image: the code, the event, the staging area. -/
theorem refuseImage_spec : (s.refuseImage x r).staging = s.staging.release ∧
    s.refuseImage x r = { s with
      staging := (s.refuseImage x r).staging, tenants := (s.refuseImage x r).tenants, wb := (s.refuseImage x r).wb } ∧
    (∀ y, y ≠ x → (s.refuseImage x r).tenant y = s.tenant y) ∧
    ((s.refuseImage x r).tenant x).verifyCode = r.code ∧ ((s.refuseImage x r).tenant x).image = (s.tenant x).image ∧
    ((s.refuseImage x r).tenant x).port = (s.tenant x).port ∧
    (s.present x = true → (s.tenant x).held = false → ((s.refuseImage x r).tenant x).events = (s.tenant x).events ||| (1#32 <<< 4)) := by
  obtain ⟨m, hm⟩ : ∃ m, m = s.modTenant x (fun y => { y with verifyCode := r.code }) := ⟨_, rfl⟩
  obtain ⟨u, hu⟩ : ∃ u, u = m.raise x 4 := ⟨_, rfl⟩
  obtain ⟨w, noted, n, logged⟩ := logRefused_eq { u with staging := u.staging.release } x r
  have e : s.refuseImage x r = ({ u with staging := u.staging.release, wb := w } : State).modTenant x (fun y => y.refusals noted n) := by
    rw [← logged, hu, hm]
    rfl
  have base : u = { s with tenants := u.tenants } := by
    rw [hu, State.raise_eq, hm]
    rfl
  have mx : m.tenant x = { s.tenant x with verifyCode := r.code } := by rw [hm, State.modTenant_tenant_self]
  have ux : u.tenant x = if s.present x = true ∧ (s.tenant x).held = false then
      { m.tenant x with events := (m.tenant x).events ||| (1#32 <<< 4) } else m.tenant x := by
    have same : m.present x = s.present x := by rw [hm]; rfl
    rw [hu, State.raise_tenant, same, mx]
    simp only [true_and]
  have self : (s.refuseImage x r).tenant x = (u.tenant x).refusals noted n := by
    rw [e, State.modTenant_tenant_self]
    rfl
  have parts : (u.tenant x).verifyCode = r.code ∧ (u.tenant x).image = (s.tenant x).image ∧ (u.tenant x).port = (s.tenant x).port := by
    rw [ux, mx]
    split <;> exact ⟨rfl, rfl, rfl⟩
  obtain ⟨code, image, port⟩ := parts
  have staging : u.staging = s.staging := by rw [base]
  refine ⟨?_, ?_, fun y h => ?_, by rw [self]; exact code, by rw [self]; exact image, by rw [self]; exact port, fun present free => ?_⟩
  · rw [e, State.modTenant_staging, staging]
  · rw [e, base]
    rfl
  · rw [e, State.modTenant_tenant_of_ne _ _ h]
    have one : u.tenant y = m.tenant y := by rw [hu, State.raise_tenant, if_neg (fun k => h k.1)]
    refine one.trans ?_
    rw [hm, State.modTenant_tenant_of_ne _ _ h]
  · rw [self, Tenant.refusals, ux, if_pos ⟨present, free⟩, mx]

end

/-- Settles O48: the start, the three verdicts, and the timeout. -/
theorem imageVerification : Obligations.ImageVerification := by
  intro x s holder run
  refine ⟨fun complete => ⟨fun ⟨j, mem, kind⟩ => ?_, fun none => ?_⟩,
    fun verifying => ⟨fun waits => ?_, fun r refused => ?_, fun i passed => ?_⟩, fun loading => ⟨fun late => ?_, fun fresh => ?_⟩⟩
  · refine congrArg Host.Outcome.next ?_
    have waits : (s.tenant x).port.jobs.any (fun j => decide (j.kind = .load s.staging.generation)) = true :=
      List.any_eq_true.mpr ⟨j, mem, decide_eq_true kind⟩
    rw [State.verifyStart, holder]
    exact if_neg fun h => by rw [waits] at h; cases h.2.2
  · refine congrArg Host.Outcome.next ?_
    have waits : (s.tenant x).port.jobs.any (fun j => decide (j.kind = .load s.staging.generation)) = false :=
      List.any_eq_false.mpr fun j mem h => none j mem (of_decide_eq_true h)
    rw [State.verifyStart, holder]
    exact if_pos ⟨run, complete, waits⟩
  · refine congrArg Host.Outcome.next ?_
    rw [State.verifyEnd, holder]
    dsimp only
    rw [if_pos ⟨run, verifying⟩, waits]
  · refine ⟨s.refuseImage x r, congrArg Host.Outcome.next ?_, refuseImage_spec s x r⟩
    rw [State.verifyEnd, holder]
    dsimp only
    rw [if_pos ⟨run, verifying⟩, refused]
  · refine congrArg Host.Outcome.next ?_
    rw [State.verifyEnd, holder]
    dsimp only
    rw [if_pos ⟨run, verifying⟩, passed]
    rfl
  · exact congrArg Host.Outcome.next (if_pos ⟨run, by rw [holder]; rfl, loading, late⟩)
  · exact congrArg Host.Outcome.next (if_neg fun h => by omega)

end Sys2Proof.Machine
end

section
/-! SUPPORT. What the units of an image keep at its activation. -/
namespace Sys2Proof.Machine

/-- The NV memory as it was, or with one more entry lost. -/
def Nv.OrLost (n m : Nv) : Prop := m = n ∨ m = n.update { n.block with lost := satInc32 n.lost }

theorem Nv.OrLost.floors {n m : Nv} (h : n.OrLost m) : m.floors = n.floors := by
  rcases h with rfl | rfl <;> rfl

/-- Declares and clears recorded change the log and the sense island alone. -/
theorem recordDiags_eq (s : State) (cs : List DiagChange) :
    ∃ w se, s.recordDiags cs = { s with wb := w, sense := se } ∧ s.wb.nv.OrLost w.nv ∧ w.opened = s.wb.opened := by
  rw [State.recordDiags]
  split
  · exact ⟨s.wb, s.sense, rfl, .inl rfl, rfl⟩
  next c _ =>
    dsimp only
    split
    · rw [State.writeDiag]
      obtain ⟨u, hu⟩ : ∃ u : State, u = { s with sense := cs.foldl Sense.countDiag s.sense } := ⟨_, rfl⟩
      obtain ⟨p, hp⟩ : ∃ p, p = u.diagPayload u.sense.diagMap u.sense.diagCount c := ⟨_, rfl⟩
      rw [← hu, ← hp]
      have nv : s.wb.nv.OrLost (u.logPart 0xc1 p).wb.nv := by
        have same : u.wb.nv = s.wb.nv := by rw [hu]
        rw [← same]
        exact logPart_nv u 0xc1 p
      have opened : (u.logPart 0xc1 p).wb.opened = s.wb.opened := by
        have same : u.wb.opened = s.wb.opened := by rw [hu]
        rw [← same]
        exact congrArg (fun b => b.2.2.2.1) (u.logPart_boot 0xc1 p)
      have e : u.logPart 0xc1 p = { s with wb := (u.logPart 0xc1 p).wb, sense := u.sense } := by
        rw [State.logPart_eq, hu]
      split
      · exact ⟨_, _, by rw [e], nv, opened⟩
      · exact ⟨_, _, e, nv, opened⟩
    · split
      · exact ⟨_, _, rfl, .inl rfl, rfl⟩
      · exact ⟨_, _, rfl, .inl rfl, rfl⟩

/-! ### What the changes of an activation keep -/

/-- What no unit's part of an activation changes. -/
def State.across (s : State) : (Straps × Power × Staging × Otp) × (Vector Word 4 × Vector Bool 9 × Nat) ×
    Vector (Option Image × Bool) 4 × Sparse (Option (BitVec 39)) :=
  ((s.straps, s.power, s.staging, s.otp), (s.wb.nv.floors, s.faults.wedged, s.faults.epoch), s.tenants.map (fun x => (x.image, x.held)),
    s.pit.mem)

section
variable (s : State)

@[simp] theorem modBench_across (b : BenchId) (f : Bench → Bench) : (s.modBench b f).across = s.across := rfl

@[simp] theorem modSap_across (p : SapId) (f : AudioPort → AudioPort) : (s.modSap p f).across = s.across := rfl

theorem modTenant_across (x : TenantId) {f : Tenant → Tenant} (h : ∀ y, ((f y).image, (f y).held) = (y.image, y.held)) :
    (s.modTenant x f).across = s.across :=
  congrArg (fun v => (s.across.1, s.across.2.1, v, s.across.2.2.2)) (vector_map_set_self s.tenants x (fun y => (y.image, y.held)) f (h _))

@[simp] theorem raise_across (x : TenantId) (n : Nat) : (s.raise x n).across = s.across := by
  rw [State.raise]
  split
  · exact modTenant_across s x fun _ => rfl
  · rfl

@[simp] theorem raiseOwner_across (b : BenchId) (n : Nat) : (s.raiseOwner b n).across = s.across := by
  rw [State.raiseOwner]
  split
  · exact raise_across ..
  · rfl

@[simp] theorem setBenchState_across (b : BenchId) (st : BenchState) : (s.setBenchState b st).across = s.across := by
  rw [State.setBenchState]
  split
  · exact raiseOwner_across ..
  · rfl

@[simp] theorem armBench_across (b : BenchId) : (s.armBench b).across = s.across := (setBenchState_across _ b .armed).trans rfl

@[simp] theorem logPart_across (kind : Byte) (payload : List Byte) : (s.logPart kind payload).across = s.across := by
  have floors := logPart_floors s kind payload
  rw [State.logPart_eq]
  exact congrArg (fun v => (s.across.1, (v, s.across.2.1.2), s.across.2.2)) floors

@[simp] theorem judgeReleases_across : s.judgeReleases.across = s.across := by
  refine foldl_keeps (f := State.across) (fun s b => ?_) s _
  rw [State.judgeBench]
  split <;> rfl

/-- An image's naming of a port changes the ports alone. -/
theorem nameSap_eq (x : TenantId) (p : SapId) (e : Option PortEntry) : ∃ a, s.nameSap x p e = { s with audio := a } := by
  unfold State.nameSap
  cases e with
  | none =>
    dsimp only
    split <;> exact ⟨_, rfl⟩
  | some e =>
    dsimp only
    split <;> exact ⟨_, rfl⟩

@[simp] theorem nameSap_across (x : TenantId) (p : SapId) (e : Option PortEntry) : (s.nameSap x p e).across = s.across := by
  obtain ⟨a, h⟩ := nameSap_eq s x p e
  rw [h]
  rfl

@[simp] theorem activatePorts_across (x : TenantId) (i : Image) : (s.activatePorts x i).across = s.across :=
  foldl_keeps (f := State.across) (fun s p => nameSap_across s x p _) s _

theorem recordDiags_across (cs : List DiagChange) : (s.recordDiags cs).across = s.across := by
  obtain ⟨w, se, e, nv, -⟩ := recordDiags_eq s cs
  rw [e]
  exact congrArg (fun v => (s.across.1, (v, s.across.2.1.2), s.across.2.2)) nv.floors

@[simp] theorem activateSense_across (x : TenantId) (i : Image) (terminals : Vector Int 16) :
    (s.activateSense x i terminals).across = s.across := by
  rw [State.activateSense]
  split
  · rfl
  · exact recordDiags_across ..

@[simp] theorem activateClock_across (x : TenantId) (i : Image) : (s.activateClock x i).across = s.across := by
  rw [State.activateClock]
  split <;> rfl

@[simp] theorem activateBench_across (x : TenantId) (i : Image) (spoiled : Byte) (b : BenchId) :
    (s.activateBench x i spoiled b).across = s.across := by
  rw [State.activateBench]
  dsimp only
  split
  · rfl
  · split
    · split <;> simp
    · simp

/-! ### The benches' states -/

/-- The states of the benches. -/
def State.states (s : State) : Vector BenchState 8 := s.benches.map (·.state)

theorem states_getElem (b : BenchId) : s.states[b] = (s.bench b).state := map_getElem ..

theorem state_congr {t : State} (h : t.states = s.states) (b : BenchId) : (t.bench b).state = (s.bench b).state := by
  rw [← states_getElem, ← states_getElem, h]

theorem activatePorts_states (x : TenantId) (i : Image) : (s.activatePorts x i).states = s.states := by
  refine foldl_keeps (f := State.states) (fun s p => ?_) s _
  obtain ⟨a, h⟩ := nameSap_eq s x p _
  rw [h]
  rfl

theorem activateSense_states (x : TenantId) (i : Image) (terminals : Vector Int 16) : (s.activateSense x i terminals).states = s.states := by
  rw [State.activateSense]
  split
  · rfl
  · rw [State.reconfigure]
    obtain ⟨w, se, e, -⟩ := recordDiags_eq _ _
    rw [e]
    rfl

theorem loadPlan_states (w : Word) : (s.loadPlan w).states = s.states := by
  ext b hb
  have h := loadPlan_bench s w ⟨b, hb⟩
  have e (u : State) : u.states[b] = (u.bench ⟨b, hb⟩).state := states_getElem u ⟨b, hb⟩
  rw [e, e, h]
  split <;> rfl

theorem activateClock_states (x : TenantId) (i : Image) : (s.activateClock x i).states = s.states := by
  rw [State.activateClock]
  split
  · exact loadPlan_states ..
  · rfl

theorem judgeReleases_states : s.judgeReleases.states = s.states := by
  refine foldl_keeps (f := State.states) (fun s b => ?_) s _
  rw [State.judgeBench]
  split
  · exact vector_map_set_self s.benches b (·.state) (fun x => { x with met := some s.clock.frame }) rfl
  · rfl

end

end Sys2Proof.Machine
end

section
/-! SUPPORT. The hold strobe and the activation strobe. -/
namespace Sys2Proof.Machine

/-! ### The hold strobe -/

/-- What a hold strobe leaves. -/
def State.steady (s : State) : (Straps × Power × Staging × Otp) × Clock × Pit × Weighbridge :=
  ((s.straps, s.power, s.staging, s.otp), s.clock, s.pit, s.wb)

/-- A fold over benches that changes each named bench's state once and for all, each by its own rule. -/
theorem foldl_bench_stateOf {g : State → BenchId → State} {f : BenchId → BenchState → BenchState} {k : State → Prop}
    (hk : ∀ s b, k s → k (g s b))
    (h : ∀ s b c, k s → ((g s b).bench c).state = if c = b then f c (s.bench c).state else (s.bench c).state)
    (once : ∀ b st, f b (f b st) = f b st) (bs : List BenchId) (s : State) (hs : k s) (c : BenchId) :
    ((bs.foldl g s).bench c).state = if c ∈ bs then f c (s.bench c).state else (s.bench c).state := by
  induction bs generalizing s with
  | nil => rfl
  | cons b rest ih =>
    rw [List.foldl_cons, ih _ (hk s b hs), h s b c hs]
    by_cases e : c = b
    · rw [if_pos e, once, ite_self, if_pos (show c ∈ b :: rest by rw [e]; exact List.mem_cons_self ..)]
    · simp only [if_neg e, List.mem_cons, or_iff_right e]

section
variable (s : State) (i : Image) (b : BenchId)

@[simp] theorem raiseOwner_steady (n : Nat) : (s.raiseOwner b n).steady = s.steady := by
  rw [raiseOwner_eq_tenants]
  rfl

@[simp] theorem setBenchState_steady (st : BenchState) : (s.setBenchState b st).steady = s.steady := by
  rw [setBenchState_eq]
  rfl

@[simp] theorem stopBench_steady (st : BenchState) : (s.stopBench b st).steady = s.steady := setBenchState_steady ..

@[simp] theorem resetBench_steady : (s.resetBench b).steady = s.steady := by
  rw [State.resetBench]
  split
  · exact stopBench_steady ..
  · rfl

@[simp] theorem refuseCommit_steady : (s.refuseCommit b).steady = s.steady := by
  rcases refuseCommit_eq s b with h | h <;> rw [h]
  exact (raiseOwner_steady _ b 6).trans rfl

@[simp] theorem emptyTo_steady : (s.emptyTo b).steady = s.steady := by
  rcases emptyTo_eq s b with h | h <;> rw [h]
  · rfl
  · exact (raiseOwner_steady _ b 8).trans rfl

/-- A bench stopped at the hold strobe, its commit refused and the channels to it empty. -/
def State.benchQuiet (s : State) (b : BenchId) : State := ((s.resetBench b).refuseCommit b).emptyTo b

theorem holdBench_eq : s.holdBench i b =
    if i.names b = true ∧ ((s.benchQuiet b).bench b).state ≠ .fenced then (s.benchQuiet b).setBenchState b .loaded else s.benchQuiet b := rfl

@[simp] theorem holdBench_steady : (s.holdBench i b).steady = s.steady := by
  have quiet : (s.benchQuiet b).steady = s.steady := by rw [State.benchQuiet, emptyTo_steady, refuseCommit_steady, resetBench_steady]
  rw [holdBench_eq]
  split
  · rw [setBenchState_steady, quiet]
  · exact quiet

/-- The state of a bench that an image holds. -/
def Image.holdState (i : Image) (b : BenchId) (st : BenchState) : BenchState :=
  if st = .fenced then st else if i.names b = true then .loaded else st.hold

theorem holdState_once (st : BenchState) : i.holdState b (i.holdState b st) = i.holdState b st := by
  unfold Image.holdState
  cases i.names b <;> cases st <;> decide

theorem benchQuiet_state (c : BenchId) :
    ((s.benchQuiet b).bench c).state = if c = b then (s.bench c).state.hold else (s.bench c).state := by
  have refused (u : State) : ((u.refuseCommit b).bench c).state = (u.bench c).state := by
    rcases refuseCommit_eq u b with h | h <;> rw [h]
    rw [State.raiseOwner_bench]
    exact modBench_state (fun _ => rfl)
  rw [State.benchQuiet, emptyTo_bench, refused, resetBench_state]

theorem holdBench_state (c : BenchId) : ((s.holdBench i b).bench c).state = if c = b then i.holdState c (s.bench c).state else (s.bench c).state := by
  have own : ((s.benchQuiet b).bench b).state = (s.bench b).state.hold := by rw [benchQuiet_state, if_pos rfl]
  have fenced : (s.bench b).state.hold = .fenced ↔ (s.bench b).state = .fenced := by
    cases (s.bench b).state <;> decide
  rw [holdBench_eq, own, Image.holdState]
  by_cases e : c = b
  · subst e
    rw [if_pos rfl]
    by_cases f : (s.bench c).state = .fenced
    · rw [if_pos f, if_neg (fun h => h.2 (fenced.mpr f)), own]
      rw [f]
      decide
    · rw [if_neg f]
      by_cases n : i.names c = true
      · rw [if_pos n, if_pos ⟨n, fun h => f (fenced.mp h)⟩, setBenchState_bench, if_pos rfl]
      · rw [if_neg n, if_neg (fun h => n h.1), own]
  · rw [if_neg e]
    split
    · rw [setBenchState_bench, if_neg e, benchQuiet_state, if_neg e]
    · rw [benchQuiet_state, if_neg e]

/-- No channel to a bench is full. -/
def State.quietTo (b : BenchId) (s : State) : Prop := ∀ c ∈ s.channels, c.isTo b = true → c.full = false

theorem setBenchState_channels (st : BenchState) : (s.setBenchState b st).channels = s.channels := by
  rw [setBenchState_eq]

theorem holdBench_channels : (s.holdBench i b).channels = (s.channelsEmptied b).channels := by
  have reset : (s.resetBench b).channels = s.channels := by
    rw [State.resetBench]
    split
    · exact setBenchState_channels ..
    · rfl
  have emptied (u : State) : (u.emptyTo b).channels = (u.channelsEmptied b).channels := by
    rcases emptyTo_eq u b with h | h <;> rw [h]
    rw [raiseOwner_eq_tenants]
  have quiet : (s.benchQuiet b).channels = (s.channelsEmptied b).channels := by
    rw [State.benchQuiet, emptied, State.channelsEmptied, State.channelsEmptied, (refuseCommit_keeps _ b).2, reset]
  rw [holdBench_eq]
  split
  · rw [setBenchState_channels, quiet]
  · exact quiet

theorem holdBench_own : (s.holdBench i b).quietTo b := by
  rw [State.quietTo, holdBench_channels]
  intro c hc sent
  obtain ⟨d, -, rfl⟩ := List.mem_map.mp hc
  by_cases h : (d.isTo b && d.full) = true
  · rw [if_pos h]
    rfl
  · rw [if_neg h] at sent ⊢
    simpa [sent] using h

theorem holdBench_keep (o : BenchId) (quiet : s.quietTo o) : (s.holdBench i b).quietTo o := by
  rw [State.quietTo, holdBench_channels]
  intro c hc sent
  obtain ⟨d, hd, rfl⟩ := List.mem_map.mp hc
  by_cases h : (d.isTo b && d.full) = true
  · rw [if_pos h]
    rfl
  · rw [if_neg h] at sent ⊢
    exact quiet d hd sent

/-- The records that an installer with nothing read reads as poison: every bench with a word to install. -/
theorem unread_getLsbD (bodies : List (Nat × Nat × BenchId)) {at_ len : Nat} (mem : (at_, len, b) ∈ bodies) (some : 0 < len) :
    (unread bodies 0).getLsbD b.val = true := by
  induction bodies with
  | nil => cases mem
  | cons head rest ih =>
    have one : ∀ b : BenchId, (1#8 <<< b.val).getLsbD b.val = true := by decide
    rw [unread, BitVec.getLsbD_or, Bool.or_eq_true, Nat.zero_sub]
    rcases List.mem_cons.mp mem with h | h
    · left
      rw [← h, if_pos some]
      exact one b
    · exact .inr (ih h)

end

end Sys2Proof.Machine
end

section
/-! SUPPORT. The activation strobe. -/
namespace Sys2Proof.Machine

/-! ### The pit's written words -/

/-- A memory filtered by address reads its default at the words that go. -/
theorem Sparse.read_filter {α : Type} [DecidableEq α] {d : α} {lo : Nat} (p : Nat → Bool) (m : Sparse α) (h : Sparse.wfFrom d lo m = true) (a : Nat) :
    Sparse.read d (m.filter (fun x => !p x.1)) a = if p a = true then d else Sparse.read d m a := by
  induction m generalizing lo with
  | nil => rw [List.filter_nil, Sparse.read, ite_self]
  | cons x rest ih =>
    obtain ⟨k, v⟩ := x
    rw [Sparse.wfFrom, Bool.and_eq_true, Bool.and_eq_true] at h
    obtain ⟨⟨low, -⟩, later⟩ := h
    rw [Sparse.read]
    by_cases gone : p k = true
    · rw [List.filter_cons_of_neg (by simp [gone]), ih later]
      by_cases here : k = a
      · subst here
        rw [if_pos gone, if_pos gone]
      · rw [if_neg here]
        by_cases before : a < k
        · rw [if_pos before, Sparse.read_below later (Nat.lt_succ_of_lt before)]
        · rw [if_neg before]
    · rw [List.filter_cons_of_pos (by simp [gone]), Sparse.read]
      by_cases here : k = a
      · subst here
        rw [if_pos rfl, if_pos rfl, if_neg gone]
      · rw [if_neg here, if_neg here]
        by_cases before : a < k
        · rw [if_pos before, if_pos before, ite_self]
        · rw [if_neg before, if_neg before, ih later]

section
variable (s : State) (x : TenantId) (i : Image)

/-! ### The units -/

/-- The part once the image of a tenant is in force, before its units take it. -/
def State.imaged (s : State) (x : TenantId) (i : Image) : State :=
  (({ s with staging := s.staging.release, pit := s.pit.clearNew (s.tenant x).image i } : State).modTenant x
    (fun y => { y with image := some i })).newEpoch

/-- The part once its shared units have taken an image, before the benches do. -/
def State.unitsActive (s : State) (x : TenantId) (i : Image) (tv : Vector Int 16) : State :=
  ((((s.imaged x i).activateChannels x i.channels).activatePorts x i).activateSense x i tv).activateClock x i

theorem imaged_tenant (y : TenantId) : (s.imaged x i).tenant y = if y = x then { s.tenant x with image := some i } else s.tenant y := by
  have e : (s.imaged x i).tenant y = (s.modTenant x (fun y => { y with image := some i })).tenant y := rfl
  rw [e]
  by_cases h : y = x
  · subst h
    rw [if_pos rfl, State.modTenant_tenant_self]
  · rw [if_neg h, State.modTenant_tenant_of_ne _ _ h]

theorem unitsActive_across (tv : Vector Int 16) : (s.unitsActive x i tv).across = (s.imaged x i).across := by
  rw [State.unitsActive, activateClock_across, activateSense_across, activatePorts_across]
  rfl

theorem unitsActive_states (tv : Vector Int 16) : (s.unitsActive x i tv).states = s.states := by
  rw [State.unitsActive, activateClock_states, activateSense_states, activatePorts_states]
  rfl

/-! ### The benches -/

/-- The state of a bench at the activation strobe. -/
def Image.activeState (i : Image) (spoiled : Byte) (held : Bool) (b : BenchId) (st : BenchState) : BenchState :=
  if st = .fenced then st else if i.names b = true ∧ spoiled.getLsbD b.val = false then (if held = true then .held else .armed) else .off

theorem activeState_once (spoiled : Byte) (held : Bool) (b : BenchId) (st : BenchState) :
    i.activeState spoiled held b (i.activeState spoiled held b st) = i.activeState spoiled held b st := by
  unfold Image.activeState
  by_cases h : i.names b = true ∧ spoiled.getLsbD b.val = false
  · simp only [if_pos h]
    cases held <;> cases st <;> decide
  · simp only [if_neg h]
    cases st <;> decide

theorem install_state (b : BenchId) (y : Bench) : (y.install i b).state = y.state := rfl

theorem activateBench_state (spoiled : Byte) {held : Bool} (h : (s.tenant x).held = held) (b c : BenchId) :
    ((s.activateBench x i spoiled b).bench c).state =
      if c = b then i.activeState spoiled held c (s.bench c).state else (s.bench c).state := by
  have changed (f : Bench → Bench) (st : BenchState) (hf : ∀ y, (f y).state = y.state) :
      (((s.modBench b f).setBenchState b st).bench c).state = if c = b then st else (s.bench c).state := by
    rw [setBenchState_bench]
    by_cases e : c = b
    · rw [if_pos e, if_pos e]
    · rw [if_neg e, if_neg e, modBench_state hf]
  rw [State.activateBench, Image.activeState]
  by_cases f : (s.bench b).state = .fenced
  · rw [if_pos f]
    by_cases e : c = b
    · subst e
      rw [if_pos rfl, if_pos f]
    · rw [if_neg e]
  · rw [if_neg f]
    have other : (if c = b then (if (s.bench c).state = .fenced then (s.bench c).state else
        if i.names c = true ∧ spoiled.getLsbD c.val = false then (if held = true then .held else .armed) else .off) else (s.bench c).state) =
        if c = b then (if i.names b = true ∧ spoiled.getLsbD b.val = false then (if held = true then .held else .armed) else .off)
          else (s.bench c).state := by
      by_cases e : c = b
      · subst e
        rw [if_pos rfl, if_pos rfl, if_neg f]
      · rw [if_neg e, if_neg e]
    rw [other]
    by_cases n : i.names b = true ∧ spoiled.getLsbD b.val = false
    · rw [if_pos n, if_pos n]
      dsimp only
      have same : ((s.modBench b (fun y => y.install i b)).tenant x).held = held := h
      rw [same]
      cases held
      · rw [if_neg Bool.false_ne_true, if_neg Bool.false_ne_true, armBench_state]
        by_cases e : c = b
        · rw [if_pos e, if_pos e]
        · rw [if_neg e, if_neg e]
          exact modBench_state (install_state i b)
      · rw [if_pos rfl, if_pos rfl]
        exact changed _ _ (install_state i b)
    · rw [if_neg n, if_neg n]
      exact changed _ _ fun _ => rfl

theorem across_held {u t : State} (h : t.across = u.across) (y : TenantId) :
    (t.tenant y).image = (u.tenant y).image ∧ (t.tenant y).held = (u.tenant y).held := by
  have e (v : State) : v.across.2.2.1[y] = ((v.tenant y).image, (v.tenant y).held) := map_getElem ..
  have both := e t
  rw [h, e u, Prod.mk.injEq] at both
  exact ⟨both.1.symm, both.2.symm⟩

/-- The part once its units and benches have taken an image. -/
theorem activateUnits_eq (spoiled : Byte) (tv : Vector Int 16) :
    ({ s with staging := s.staging.release } : State).activateUnits x i spoiled tv =
      (s.owned x).foldl (fun s b => s.activateBench x i spoiled b) (s.unitsActive x i tv) := rfl

theorem activateUnits_across (spoiled : Byte) (tv : Vector Int 16) :
    (({ s with staging := s.staging.release } : State).activateUnits x i spoiled tv).across = (s.imaged x i).across := by
  rw [activateUnits_eq, foldl_keeps (f := State.across) (fun s b => activateBench_across s x i spoiled b), unitsActive_across]

theorem activateUnits_state (spoiled : Byte) (tv : Vector Int 16) (b : BenchId) :
    ((({ s with staging := s.staging.release } : State).activateUnits x i spoiled tv).bench b).state =
      if s.owns x b = true then i.activeState spoiled (s.tenant x).held b (s.bench b).state else (s.bench b).state := by
  have held : ((s.unitsActive x i tv).tenant x).held = (s.tenant x).held := by
    rw [(across_held (unitsActive_across s x i tv) x).2, imaged_tenant, if_pos rfl]
  rw [activateUnits_eq, foldl_bench_stateOf (k := fun u => (u.tenant x).held = (s.tenant x).held)
    (fun u b h => (across_held (activateBench_across u x i spoiled b) x).2.trans h)
    (fun u b c h => activateBench_state u x i spoiled h b c) (activeState_once i spoiled _) _ _ held]
  rw [state_congr s (unitsActive_states s x i tv) b]
  simp only [mem_owned]

end

end Sys2Proof.Machine
end

section
/-! SUPPORT. The two strobes of an image, put together. -/
namespace Sys2Proof.Machine

section
variable {s : State} {x : TenantId} {i : Image} (holder : s.staging.holder = some x) (run : s.running = true) (strobed : s.clock.strobed = true)

/-- The part at the hold strobe, its installer not yet begun. -/
def State.benchesQuiet (s : State) (x : TenantId) (i : Image) : State := (s.owned x).foldl (fun s b => s.holdBench i b) s

include holder run strobed

theorem holdStrobe_eq (image : s.staging.image = some i) (passed : s.staging.phase = .passed) (due : s.staging.v + 1 ≤ s.clock.frame) :
    s.holdStrobe = ({ s.benchesQuiet x i with staging := { (s.benchesQuiet x i).staging with
      phase := .installing, nextRead := 0, spoiled := s.poisonedRecords i } } : State).cancelPlan x := by
  rw [State.holdStrobe, holder, image]
  exact if_pos ⟨run, strobed, passed, due⟩

theorem activationStrobe_eq {k : Image} (image : s.staging.image = some k) (hi : i = s.installedImage k) (installing : s.staging.phase = .installing)
    (due : s.staging.a ≤ s.clock.frame) (tv : Vector Int 16) : ∃ payload, s.activationStrobe tv =
      (((((({ s with staging := s.staging.release } : State).activateUnits x i s.staging.spoiled tv).raiseFloor x i).enterOperating).raise x 3).logPart
        0x0d payload).judgeReleases := by
  refine ⟨s.activePayload x i, ?_⟩
  rw [State.activationStrobe, holder, image, hi]
  exact if_pos ⟨run, strobed, installing, due⟩

end

/-- The hold strobe of an image (Table IMG-8). -/
theorem holdStrobe_spec (s : State) (x : TenantId) (i : Image) : ∃ t,
    t = ({ s.benchesQuiet x i with staging := { (s.benchesQuiet x i).staging with
      phase := .installing, nextRead := 0, spoiled := s.poisonedRecords i } } : State).cancelPlan x ∧
    (t.staging = { s.staging with phase := .installing, nextRead := 0, spoiled := s.poisonedRecords i }) ∧
    (∀ b, (t.bench b).state = if s.owns x b = true then i.holdState b (s.bench b).state else (s.bench b).state) ∧
    (∀ b, s.owns x b = true → t.quietTo b) ∧ t.clock.pending = (if x = 0 then none else s.clock.pending) ∧
    t.pit = s.pit ∧ t.power = s.power ∧ t.straps = s.straps ∧ t.otp = s.otp ∧ t.wb = s.wb := by
  have steady : (s.benchesQuiet x i).steady = s.steady := foldl_keeps (f := State.steady) (fun s b => holdBench_steady s i b) s _
  have state (b : BenchId) : ((s.benchesQuiet x i).bench b).state =
      if s.owns x b = true then i.holdState b (s.bench b).state else (s.bench b).state := by
    refine (foldl_bench_stateOf (k := fun _ => True) (f := i.holdState) (fun _ _ h => h) (fun u b c _ => holdBench_state u i b c)
      (holdState_once i) (s.owned x) s trivial b).trans ?_
    simp only [mem_owned]
  have quiet (b : BenchId) (own : s.owns x b = true) : (s.benchesQuiet x i).quietTo b :=
    foldl_brings (P := State.quietTo) (fun u b => holdBench_own u i b) (fun u b o => holdBench_keep u i b o) (s.owned x) s b
      ((mem_owned s x b).mpr own)
  obtain ⟨u, hu⟩ : ∃ u, u = s.benchesQuiet x i := ⟨_, rfl⟩
  rw [← hu] at steady state quiet ⊢
  simp only [State.steady, Prod.mk.injEq] at steady
  obtain ⟨⟨straps, power, staging, otp⟩, clock, pit, wb⟩ := steady
  refine ⟨_, rfl, ?_⟩
  rw [cancelPlan_eq]
  refine ⟨by rw [staging], state, quiet, ?_, pit, power, straps, otp, wb⟩
  dsimp only
  rw [State.cancelPlan]
  split
  · rfl
  · dsimp only
    rw [clock]

/-! ### The floor and the part's state -/

theorem raiseFloor_eq (s : State) (x : TenantId) (i : Image) : ∃ w, s.raiseFloor x i = { s with wb := w } ∧
    ∀ y : Fin 4, w.nv.floors[y] = if y = x ∧ s.raisesFloor x i = true then i.rollback else s.wb.nv.floors[y] := by
  rw [State.raiseFloor]
  by_cases h : s.raisesFloor x i = true
  · rw [if_pos h]
    refine ⟨_, rfl, fun y => ?_⟩
    have e : (vmod s.wb.nv.floors x.val (fun _ => i.rollback))[y] = if y.val = x.val then i.rollback else s.wb.nv.floors[y] :=
      vmod_getElem _ _ _ y
    refine e.trans ?_
    simp only [h, and_true, Fin.ext_iff]
  · rw [if_neg h]
    exact ⟨s.wb, rfl, fun y => by rw [if_neg (fun k => h k.2)]⟩

theorem enterOperating_eq (s : State) : s.enterOperating = { s with
    power := { s.power with state := if s.power.state = .awaitImage then .operating else s.power.state } } := by
  rw [State.enterOperating]
  split
  · rfl
  · rfl

/-- Settles O49: the hold strobe stops the tenant's benches, the activation strobe puts its image in force. -/
theorem imageStrobes : Obligations.ImageStrobes := by
  intro x i s holder run strobed
  refine ⟨fun passed image due => ?_, fun k installing image hi due tv => ?_⟩
  · obtain ⟨t, ht, staging, state, quiet, pending, rest⟩ := holdStrobe_spec s x i
    refine ⟨t, congrArg Host.Outcome.next ((holdStrobe_eq holder run strobed image passed due).trans ht.symm), by rw [staging],
      fun free => ?_, fun wedged a n b mem some => ?_, fun b => ?_, fun b c own mem => quiet b own c mem, pending, rest⟩
    · rw [staging, State.poisonedRecords, if_neg (by rw [free]; decide)]
    · rw [staging, State.poisonedRecords, if_pos wedged]
      exact unread_getLsbD b i.bodies mem some
    · rw [state, Image.holdState, BenchState.hold]
      cases s.owns x b
      · rfl
      · simp [Bench.active, or_assoc]
  · obtain ⟨payload, e⟩ := activationStrobe_eq holder run strobed image hi installing due tv
    obtain ⟨w, hw⟩ : ∃ w, w = ({ s with staging := s.staging.release } : State).activateUnits x i s.staging.spoiled tv := ⟨_, rfl⟩
    have across := activateUnits_across s x i s.staging.spoiled tv
    have state := activateUnits_state s x i s.staging.spoiled tv
    rw [← hw] at e across state
    have tenants := across_held across
    simp only [State.across, Prod.mk.injEq] at across
    obtain ⟨⟨straps, power, staging, otp⟩, ⟨floors, wedged, epoch⟩, -, mem⟩ := across
    obtain ⟨wb, raised, raisedTo⟩ := raiseFloor_eq w x i
    obtain ⟨v, hv⟩ : ∃ v, v = (w.raiseFloor x i).enterOperating := ⟨_, rfl⟩
    rw [← hv] at e
    rw [raised, enterOperating_eq] at hv
    obtain ⟨t, ht⟩ : ∃ t, t = ((v.raise x 3).logPart 0x0d payload).judgeReleases := ⟨_, rfl⟩
    have kept : t.across = v.across := by rw [ht, judgeReleases_across, logPart_across, raise_across]
    have states : t.states = v.states := by
      have logged : ((v.raise x 3).logPart 0x0d payload).states = (v.raise x 3).states := by
        rw [State.states, State.logPart_benches]
        rfl
      rw [ht, judgeReleases_states, logged, State.states, State.raise_benches]
      rfl
    have tenant : t.tenant x = (v.raise x 3).tenant x := by
      rw [ht, judgeReleases_tenant, State.tenant, State.logPart_tenants]
      rfl
    have image (y : TenantId) : (t.tenant y).image = ((s.imaged x i).tenant y).image := by
      rw [(across_held kept y).1, ← (tenants y).1, hv]
      rfl
    have vstate (b : BenchId) : (v.bench b).state = (w.bench b).state := by
      rw [hv]
      rfl
    have vx : v.straps = w.straps ∧ v.tenant x = w.tenant x := by
      rw [hv]
      exact ⟨rfl, rfl⟩
    simp only [State.across, Prod.mk.injEq] at kept
    rw [hv] at kept
    obtain ⟨⟨straps', power', staging', otp'⟩, ⟨floors', -, epoch'⟩, -, mem'⟩ := kept
    refine ⟨t, congrArg Host.Outcome.next (e.trans ht.symm), staging'.trans staging, ?_, fun y h => ?_, ?_, epoch'.trans epoch, fun b => ?_,
      fun present free => ?_, fun y => ?_, fun wf a => ?_, straps'.trans straps, otp'.trans otp⟩
    · rw [image, imaged_tenant, if_pos rfl]
    · rw [image, imaged_tenant, if_neg h]
    · rw [power']
      dsimp only
      rw [power]
      rfl
    · rw [state_congr v states b, vstate, state, Image.activeState]
      cases s.owns x b
      · rfl
      · simp
    · have held : (w.tenant x).held = false := by
        rw [(tenants x).2, imaged_tenant, if_pos rfl]
        exact free
      rw [tenant]
      exact events_raise ((present_congr vx.1 x).trans ((present_congr straps x).trans present)) (by rw [vx.2]; exact held) 3 (by decide)
    · have raises : w.raisesFloor x i = (!i.unsigned && !s.straps.devel && !s.isWedged 9 && decide ((s.wb.nv.floors[x]).toNat < i.rollback.toNat)) := by
        have floor : vget w.wb.nv.floors x.val 0 = s.wb.nv.floors[x] := by
          rw [floors]
          exact dif_pos x.isLt
        have straps : w.straps = s.straps := straps
        have wedge : w.isWedged 9 = s.isWedged 9 := congrArg (fun v => vget v (9 - 1) false) wedged
        rw [State.raisesFloor, floor, straps, wedge]
      have floor (y : Fin 4) : t.wb.nv.floors[y] = wb.nv.floors[y] := by rw [floors']
      have before (y : Fin 4) : w.wb.nv.floors[y] = s.wb.nv.floors[y] := by rw [floors]; rfl
      rw [floor, raisedTo, before, raises]
      by_cases h : y = x
      · subst h
        simp only [true_and, Bool.and_eq_true, Bool.not_eq_true', decide_eq_true_eq, and_assoc]
      · rw [if_neg (fun k => h k.1), if_neg (fun k => h k.1)]
    · rw [mem']
      dsimp only
      rw [mem]
      exact Sparse.read_filter _ _ wf a

end Sys2Proof.Machine
end

section
/-! SUPPORT. The stages of a frame strobe. -/
namespace Sys2Proof.Machine

/-- What of a bench a lost ring message leaves: its state, program, coefficients and handshakes. -/
def Bench.beat (x : Bench) : BenchState × Sequencer × Coefs × Bool × Bool × Handshake :=
  (x.state, x.seq, x.coefs, x.acked, x.glideOk, x.shake)

/-- What the shared units' part of a strobe leaves, the audio ports and sense channels not yet at it. -/
def State.through (s : State) : (Straps × Power × Staging × Otp × Tap) × (Clock × List Channel × Vector AudioPort 8 × Sense) ×
    (Vector Handshake 9 × Vector Bool 9 × Bool × Half) × Vector (BenchState × Sequencer × Coefs × Bool × Bool × Handshake) 8 ×
    Vector Bool 4 × Sparse (Option (BitVec 39)) :=
  ((s.straps, s.power, s.staging, s.otp, s.tap), (s.clock, s.channels, s.audio, s.sense),
    (s.faults.shake, s.faults.wedged, s.ring.locked, s.ring.skipDelivery), s.benches.map Bench.beat, s.tenants.map (·.held), s.pit.mem)

section
variable (s : State)

theorem modBench_through (b : BenchId) {f : Bench → Bench} (h : ∀ x, (f x).beat = x.beat) : (s.modBench b f).through = s.through :=
  congrArg (fun v => (s.through.1, s.through.2.1, s.through.2.2.1, v, s.through.2.2.2.2)) (vector_map_set_self s.benches b _ f (h _))

theorem modTenant_through (x : TenantId) {f : Tenant → Tenant} (h : ∀ y, (f y).held = y.held) : (s.modTenant x f).through = s.through :=
  congrArg (fun v => (s.through.1, s.through.2.1, s.through.2.2.1, s.through.2.2.2.1, v, s.through.2.2.2.2.2))
    (vector_map_set_self s.tenants x (·.held) f (h _))

@[simp] theorem raise_through (x : TenantId) (n : Nat) : (s.raise x n).through = s.through := by
  rw [State.raise]
  split
  · exact modTenant_through s x fun _ => rfl
  · rfl

@[simp] theorem raiseAll_through (n : Nat) : (s.raiseAll n).through = s.through :=
  foldl_keeps (f := State.through) (fun s x => raise_through s x n) s _

@[simp] theorem raiseOwner_through (b : BenchId) (n : Nat) : (s.raiseOwner b n).through = s.through := by
  rw [State.raiseOwner]
  split
  · exact raise_through ..
  · rfl

theorem failRwr_through (b : BenchId) (tag : BitVec 12) (addr : Nat) (code : Byte) : (s.failRwr b tag addr code).through = s.through := by
  rw [State.failRwr]
  split
  · exact (raiseOwner_through _ b 12).trans (modBench_through s b fun _ => rfl)
  · split <;> rfl

theorem endMessage_through (m : SentMessage) (reply : Option Byte) : (s.endMessage m reply).through = s.through := by
  have less (b : BenchId) : (s.modBench b Bench.remoteLess).through = s.through := modBench_through s b fun _ => rfl
  unfold State.endMessage
  split
  · split
    · exact less _
    · exact (failRwr_through ..).trans (less _)
    · exact (failRwr_through ..).trans (less _)
  · split <;> rfl
  · rfl

theorem loseMessages_through : s.loseMessages.through = s.through :=
  foldl_keeps (f := State.through) (fun s m => endMessage_through s m _) _ _

theorem modRing_through {f : Ring → Ring} (h : ∀ r, (f r).locked = r.locked) (k : ∀ r, (f r).skipDelivery = r.skipDelivery) :
    (s.modRing f).through = s.through := by
  have e : (s.modRing f).through = (s.through.1, s.through.2.1,
      (s.faults.shake, s.faults.wedged, (f s.ring).locked, (f s.ring).skipDelivery), s.through.2.2.2) := rfl
  rw [e, h, k]
  rfl

/-- A ring whose lap was missed. -/
def Ring.missed (r : Ring) : Ring := { r.missCells.missHeader with sent := none }

theorem missLap_through : s.missLap.through = s.through := by
  have missed : (s.loseMessages.modRing Ring.missed).through = s.through :=
    (modRing_through s.loseMessages (fun _ => rfl) (fun _ => rfl)).trans (loseMessages_through s)
  rw [State.missLap]
  split
  · exact (modRing_through (s.loseMessages.modRing Ring.missed) (fun _ => rfl) (fun _ => rfl)).trans missed
  · exact missed

theorem raiseRing_through : s.raiseRing.through = s.through := by
  refine foldl_keeps (f := State.through) (fun u i => ?_) _ _
  split
  · exact raiseAll_through ..
  · rfl

theorem ringStrobe_through : s.ringStrobe.through = s.through := by
  rw [State.ringStrobe, raiseRing_through]
  split
  · exact missLap_through s
  · rfl

/-- The pit's progress, the budget second and LOG_NEAR_FULL. -/
theorem countAll_through : s.pitProgress.turnSecond.raiseNearFull.through = s.through := by
  have full (u : State) : u.raiseNearFull.through = u.through := by
    rw [State.raiseNearFull]
    split
    · exact raiseAll_through ..
    · rfl
  have second (u : State) : u.turnSecond.through = u.through := by
    rw [State.turnSecond]
    split <;> rfl
  rw [full, second]
  rfl

/-! ### The strobe, stage by stage -/

/-- The strobe that the clock gives. -/
def State.strobeFrame (s : State) : Nat := if s.clock.strobed then s.clock.frame + 1 else 0

/-- The part once the handshakes of a strobe are judged. -/
def State.judged (s : State) (i : StrobeInputs) : State :=
  ({ s with clock := s.clock.strobe } : State).judgeStrobe i s.clock.frame (decide (s.clock.stepped = .afterNext))

/-- The part once its shared units but the audio ports and the sense channels are at a strobe. -/
def State.unitsStrobed (s : State) (i : StrobeInputs) : State := (s.judged i).pitProgress.turnSecond.raiseNearFull.ringStrobe

/-- The part once its benches and sense channels are at a strobe too. -/
def State.senseStrobed (s : State) (i : StrobeInputs) : State := ((s.unitsStrobed i).strobeBenches s.addedCycles).strobeSense i

/-- The part once its audio ports are at a strobe too. -/
def State.audioStrobed (s : State) (i : StrobeInputs) : State :=
  (s.senseStrobed i).audioStrobe (s.unitsStrobed i).clock.frame i.audio

/-- The part after a strobe, before the release conditions are judged. -/
def State.afterStrobe (s : State) (i : StrobeInputs) : State :=
  { s.audioStrobed i with channels := (s.audioStrobed i).channels.map Channel.tick }

variable {s : State} (i : StrobeInputs)

theorem frameStrobe_eq (run : s.running = true) (goes : s.clock.stepped ≠ .stopped) :
    s.frameStrobe i = (s.afterStrobe i).judgeReleases := if_pos ⟨run, goes⟩

variable (s)

theorem unitsStrobed_through : (s.unitsStrobed i).through = (s.judged i).through := by
  rw [State.unitsStrobed, ringStrobe_through, countAll_through]

theorem judged_clock : (s.judged i).clock = s.clock.strobe := rfl

/-- A bench whose views take the edges that enter. -/
def Bench.takeEdges (x : Bench) (g : Vector PulseTrack 16 → Vector PulseTrack 16) : Bench :=
  if x.active then { x with pulses := g x.pulses } else x

theorem takeEdges_beat (x : Bench) (g : Vector PulseTrack 16 → Vector PulseTrack 16) : (x.takeEdges g).beat = x.beat := by
  rw [Bench.takeEdges]
  split <;> rfl

/-- The channels once each has its sample of the strobe. -/
def State.channelsStrobed (s : State) (i : StrobeInputs) : State :=
  if s.senseLive then (List.finRange 16).foldl (fun s ch => s.strobeChannel i ch) s else s

theorem strobeChannel_eq (u : State) (ch : SenseId) : ∃ r se, u.strobeChannel i ch = { u with ring := r, sense := se } ∧
    r.locked = u.ring.locked ∧ r.counter = u.ring.counter := by
  rw [State.strobeChannel]
  split <;> exact ⟨_, _, rfl, rfl, rfl⟩

theorem channelsStrobed_eq : ∃ r se, s.channelsStrobed i = { s with ring := r, sense := se } ∧
    r.locked = s.ring.locked ∧ r.counter = s.ring.counter := by
  have all (l : List SenseId) (u : State) : ∃ r se, l.foldl (fun s ch => s.strobeChannel i ch) u = { u with ring := r, sense := se } ∧
      r.locked = u.ring.locked ∧ r.counter = u.ring.counter := by
    induction l generalizing u with
    | nil => exact ⟨_, _, rfl, rfl, rfl⟩
    | cons ch rest ih =>
      obtain ⟨r, se, h, locked, counter⟩ := strobeChannel_eq i u ch
      obtain ⟨r', se', h', locked', counter'⟩ := ih (u.strobeChannel i ch)
      rw [h] at h' locked' counter'
      exact ⟨r', se', by rw [List.foldl_cons, h, h'], locked'.trans locked, counter'.trans counter⟩
  rw [State.channelsStrobed]
  split
  · exact all _ s
  · exact ⟨_, _, rfl, rfl, rfl⟩

/-- The sense island's strobe changes the sense channels, the misses that wait, and the views of running benches. -/
theorem strobeSense_eq : ∃ r bs se, s.strobeSense i = { s with benches := bs, ring := r, sense := se } ∧
    (∀ b : BenchId, (bs[b]).beat = (s.bench b).beat) ∧ r.locked = s.ring.locked ∧ r.counter = s.ring.counter ∧
    se = { (s.channelsStrobed i).sense with
      channels := (s.channelsStrobed i).sense.channels.map (fun c => c.enterEdges s.senseLive s.clock.time) } := by
  obtain ⟨r, se, h, locked, counter⟩ := channelsStrobed_eq s i
  obtain ⟨u, hu⟩ : ∃ u, u = s.channelsStrobed i := ⟨_, rfl⟩
  obtain ⟨v, hv⟩ : ∃ v : State, v = { u with sense := { u.sense with
    channels := u.sense.channels.map (fun c => c.enterEdges s.senseLive s.clock.time) } } := ⟨_, rfl⟩
  obtain ⟨g, hg⟩ : ∃ g : Vector PulseTrack 16 → Vector PulseTrack 16, g = fun pulses => pulses.mapIdx (fun k t =>
    t.enter ((vget v.sense.channels k SenseChannel.init).entering) v.clock.frame) := ⟨_, rfl⟩
  have e : s.strobeSense i = { v with benches := v.benches.map (fun x => x.takeEdges g) } := by
    rw [hv, hu, hg] at *
    rfl
  rw [← hu] at h ⊢
  refine ⟨r, v.benches.map (fun x => x.takeEdges g), v.sense, ?_, fun b => ?_, locked, counter, by rw [hv]⟩
  · rw [e, hv, h]
  · have same : v.benches = s.benches := by rw [hv, h]
    rw [map_getElem, takeEdges_beat, same]
    rfl

/-! ### The audio ports -/

theorem portEvents_eq (x : TenantId) (slip : Option Slip) (faded : Bool) :
    ∃ ts, s.portEvents x slip faded = { s with tenants := ts } := by
  unfold State.portEvents
  cases slip with
  | none =>
    dsimp only
    split
    · exact ⟨_, State.raise_eq ..⟩
    · exact ⟨s.tenants, rfl⟩
  | some slip =>
    cases slip <;>
    · dsimp only
      split
      · exact ⟨_, (State.raise_eq ..).trans (by rw [State.raise_eq])⟩
      · exact ⟨_, State.raise_eq ..⟩

theorem sapStrobe_eq (frame : Nat) (frames : Vector (List Word) 8) (p : SapId) :
    ∃ ts a, s.sapStrobe frame frames p = { s with tenants := ts, audio := a } := by
  rw [State.sapStrobe]
  split
  · split
    · exact ⟨s.tenants, _, rfl⟩
    · exact ⟨s.tenants, s.audio, rfl⟩
  · dsimp only
    obtain ⟨ts, h⟩ := portEvents_eq (s.modSap p _) _ _ _
    exact ⟨ts, _, h⟩

theorem audioStrobe_eq (frame : Nat) (frames : Vector (List Word) 8) :
    ∃ ts a, s.audioStrobe frame frames = { s with tenants := ts, audio := a } := by
  have all (l : List SapId) (u : State) : ∃ ts a, l.foldl (fun s p => s.sapStrobe frame frames p) u = { u with tenants := ts, audio := a } := by
    induction l generalizing u with
    | nil => exact ⟨_, _, rfl⟩
    | cons p rest ih =>
      obtain ⟨ts, a, h⟩ := sapStrobe_eq u frame frames p
      obtain ⟨ts', a', h'⟩ := ih (u.sapStrobe frame frames p)
      exact ⟨ts', a', by rw [List.foldl_cons, h', h]⟩
  rw [State.audioStrobe]
  split
  · exact all _ s
  · exact ⟨_, _, rfl⟩

/-! ### The benches at a strobe -/

theorem strobe_beat {x y : Bench} (h : x.beat = y.beat) (frame cycles added : Nat) :
    (x.strobe frame cycles added).beat = (y.strobe frame cycles added).beat := by
  simp only [Bench.beat, Prod.mk.injEq] at h
  obtain ⟨state, seq, coefs, acked, glideOk, shake⟩ := h
  have active : x.active = y.active := by rw [Bench.active, Bench.active, state]
  rw [Bench.strobe, Bench.strobe, active, state, coefs, seq]
  split
  · rw [Bench.beat, Bench.beat, acked, glideOk, shake]
  · rw [Bench.beat, Bench.beat, acked, glideOk, shake]

theorem judgeReleases_beat (b : BenchId) : (s.judgeReleases.bench b).beat = (s.bench b).beat := by
  refine foldl_keeps (f := fun s : State => (s.bench b).beat) (fun s c => ?_) s _
  rw [State.judgeBench]
  split
  · by_cases e : b = c
    · subst e
      rw [State.modBench_bench_self]
      rfl
    · rw [State.modBench_bench_of_ne _ _ e]
  · rfl

/-- A bench at a strobe: its handshake judged, then its frame's cycles and its glides. -/
theorem afterStrobe_beat (b : BenchId) : (((s.afterStrobe i).judgeReleases).bench b).beat =
    (((s.bench b).judge s.clock.frame (decide (s.clock.stepped = .afterNext) || vget i.benchAck b.val true)
      (decide (s.clock.stepped = .afterNext) || vget i.glideAck b.val true)).strobe s.strobeFrame s.benchCycles s.addedCycles).beat := by
  obtain ⟨u, hu⟩ : ∃ u, u = s.unitsStrobed i := ⟨_, rfl⟩
  have through := unitsStrobed_through s i
  rw [← hu] at through
  obtain ⟨v, hv⟩ : ∃ v, v = u.strobeBenches s.addedCycles := ⟨_, rfl⟩
  obtain ⟨r, bs, se, sense, beats, -⟩ := strobeSense_eq v i
  obtain ⟨ts, a, audio⟩ := audioStrobe_eq (v.strobeSense i) u.clock.frame i.audio
  have e : (s.afterStrobe i).bench b = bs[b] := by
    rw [State.afterStrobe, State.audioStrobed, State.senseStrobed, ← hu, ← hv, audio, sense]
    rfl
  have judged : (u.bench b).beat = ((s.judged i).bench b).beat := by
    have h := congrArg (fun t => t.2.2.2.1[b]) through
    have get (w : State) : w.through.2.2.2.1[b] = (w.bench b).beat := map_getElem ..
    rw [get, get] at h
    exact h
  have clock : u.clock = s.clock.strobe := congrArg (fun t => t.2.1.1) through
  have frame : u.clock.frame = s.strobeFrame := by rw [clock]; rfl
  have cycles : u.benchCycles = s.benchCycles := by rw [State.benchCycles, State.benchCycles, State.economy, State.economy, clock]; rfl
  have vb : v.bench b = (u.bench b).strobe s.strobeFrame s.benchCycles s.addedCycles := by
    rw [hv, ← frame, ← cycles]
    exact map_getElem ..
  have sb : (s.judged i).bench b = (s.bench b).judge s.clock.frame (decide (s.clock.stepped = .afterNext) || vget i.benchAck b.val true)
      (decide (s.clock.stepped = .afterNext) || vget i.glideAck b.val true) := by
    have shape (g : Nat → Bench → Bench) : (s.benches.mapIdx g)[b] = g b.val s.benches[b] := by
      rw [Fin.getElem_fin, Fin.getElem_fin, Vector.getElem_mapIdx]
    exact shape _
  rw [judgeReleases_beat, e, beats, vb, strobe_beat judged, sb]

end

end Sys2Proof.Machine
end

section
/-! SUPPORT. Notices, commits, flips and glides. -/
namespace Sys2Proof.Machine

/-! ### Glides -/

/-- A glide's next step, by its law. -/
theorem step_of_nextIs {g : Glide} {law : Byte} {v : Int} (kind : law.toNat / 64 = 1 ∨ law.toNat / 64 = 2) (h : g.nextIs law v) :
    g.step law = if v = g.target then none else some { g with j := g.j + 1, value := v } := by
  obtain ⟨lin, pole⟩ := h
  have value : v = if law.toNat / 64 = 1 then g.v0 + roundEven ((g.target - g.v0) * ((g.j + 1 : Nat) : Int)) (law.toNat % 16)
      else g.value + (if roundEven (g.target - g.value) (law.toNat % 16) = 0 then
        (if 0 < g.target - g.value then 1 else if g.target - g.value < 0 then -1 else 0)
        else roundEven (g.target - g.value) (law.toNat % 16)) := by
    rcases kind with one | two
    · rw [if_pos one, lin one]
      push_cast
      rfl
    · rw [if_neg (by omega)]
      obtain ⟨moves, up, down, stays⟩ := pole two _ _ rfl rfl
      by_cases still : roundEven (g.target - g.value) (law.toNat % 16) = 0
      · rw [if_pos still]
        rcases Int.lt_trichotomy (g.target - g.value) 0 with neg | zero | pos
        · rw [if_neg (by omega), if_pos neg, down still neg]
          rfl
        · rw [if_neg (by omega), if_neg (by omega), Int.add_zero, stays zero]
        · rw [if_pos pos, up still pos]
      · rw [if_neg still, moves still]
  rw [Glide.step]
  dsimp only
  rw [← value]

theorem step_eq (g : Glide) (law : Byte) : ∃ v, g.step law = if v = g.target then none else some { g with j := g.j + 1, value := v } := ⟨_, rfl⟩

theorem step_ix {g h : Glide} {law : Byte} (e : g.step law = some h) : h.ix = g.ix := by
  obtain ⟨v, hv⟩ := step_eq g law
  rw [hv] at e
  by_cases k : v = g.target
  · rw [if_pos k] at e
    cases e
  · rw [if_neg k] at e
    rw [← Option.some.inj e]

/-- The last step of a LIN glide is at its target. -/
theorem nextIs_last {g : Glide} {law : Byte} {v : Int} (lin : law.toNat / 64 = 1) (last : g.j + 1 = 2 ^ (law.toNat % 16)) (h : g.nextIs law v) :
    v = g.target := by
  have count : ((g.j : Int) + 1) = ((2 ^ (law.toNat % 16) : Nat) : Int) := by
    rw [← last]
    push_cast
    rfl
  rw [h.1 lin, count, roundEven_mul]
  omega

/-- A filter behind a map that keeps what it filters by. -/
theorem filterMap_filter {α β : Type} {f : α → Option β} {p : β → Bool} {q : α → Bool} (h : ∀ a b, f a = some b → p b = q a) (l : List α) :
    (l.filterMap f).filter p = (l.filter q).filterMap f := by
  induction l with
  | nil => rfl
  | cons a rest ih =>
    cases e : f a with
    | none =>
      rw [List.filterMap_cons_none e, ih]
      by_cases k : q a = true
      · rw [List.filter_cons_of_pos k, List.filterMap_cons_none e]
      · rw [List.filter_cons_of_neg k]
    | some b =>
      have same := h a b e
      rw [List.filterMap_cons_some e]
      by_cases k : q a = true
      · rw [List.filter_cons_of_pos (same.trans k), List.filter_cons_of_pos k, List.filterMap_cons_some e, ih]
      · rw [List.filter_cons_of_neg (by rw [same]; exact k), List.filter_cons_of_neg k, ih]

/-- The words of a memory at one address. -/
theorem Sparse.filter_at {α : Type} [DecidableEq α] {d : α} {lo : Nat} {m : Sparse α} (h : Sparse.wfFrom d lo m = true) (a : Nat) {p : α → Bool}
    (off : p d = false) : ((m.filter (fun x => p x.2)).map (·.1)).filter (fun k => decide (k = a)) =
      if p (Sparse.read d m a) = true then [a] else [] := by
  induction m generalizing lo with
  | nil => rw [Sparse.read, off]; rfl
  | cons x rest ih =>
    obtain ⟨k, v⟩ := x
    rw [Sparse.wfFrom, Bool.and_eq_true, Bool.and_eq_true] at h
    obtain ⟨-, later⟩ := h
    have tail := ih later
    rw [Sparse.read]
    by_cases here : k = a
    · subst here
      have none : Sparse.read d rest k = d := Sparse.read_below later (Nat.lt_succ_self k)
      rw [none, off, if_neg Bool.false_ne_true] at tail
      rw [if_pos rfl]
      by_cases on : p v = true
      · rw [List.filter_cons, if_pos on, List.map_cons, List.filter_cons, if_pos (decide_eq_true rfl), tail, if_pos on]
      · rw [List.filter_cons, if_neg on, tail, if_neg on]
    · have skip : ((((k, v) :: rest).filter (fun x => p x.2)).map (·.1)).filter (fun k => decide (k = a)) =
          ((rest.filter (fun x => p x.2)).map (·.1)).filter (fun k => decide (k = a)) := by
        by_cases on : p v = true
        · rw [List.filter_cons, if_pos on, List.map_cons, List.filter_cons, if_neg (by simp [here])]
        · rw [List.filter_cons, if_neg on]
      rw [skip, tail, if_neg here]
      by_cases before : a < k
      · rw [if_pos before, Sparse.read_below later (Nat.lt_succ_of_lt before)]
      · rw [if_neg before]

section
variable (c : Coefs)

/-- The gliding indexes equal to one index. -/
theorem gliding_at (h : Sparse.wf 0 c.laws = true) (ix : Nat) :
    c.gliding.filter (fun k => decide (k = ix)) = if lawGlides (Sparse.read 0 c.laws ix) = true then [ix] else [] :=
  Sparse.filter_at h ix (by decide)

/-- The glides of one index after a step. -/
theorem tick_at {g : Glide} (h : c.glides.filter (fun h => decide (h.ix = g.ix)) = [g]) :
    c.tick.glides.filter (fun h => decide (h.ix = g.ix)) = (g.step (Sparse.read 0 c.laws g.ix)).toList := by
  have e := filterMap_filter (f := fun g => g.step (Sparse.read 0 c.laws g.ix)) (p := fun h => decide (h.ix = g.ix))
    (q := fun h => decide (h.ix = g.ix)) (fun a b e => by rw [step_ix e]) c.glides
  rw [h] at e
  refine e.trans ?_
  cases e : g.step (Sparse.read 0 c.laws g.ix) with
  | none => exact List.filterMap_cons_none e
  | some h => exact List.filterMap_cons_some e

/-- The glide of an index whose target is to change. -/
def Coefs.glideTo (c : Coefs) (ix : Nat) : Glide :=
  ⟨ix, (Sparse.read 0 c.inForce ix).toInt, (Sparse.read 0 c.shadow ix).toInt, 0, (Sparse.read 0 c.inForce ix).toInt⟩

/-- The glide that a flip starts on one index, at its first step. -/
def Coefs.newGlide (c : Coefs) (ix : Nat) : Option Glide :=
  if (c.glideTo ix).v0 = (c.glideTo ix).target then none else (c.glideTo ix).step (Sparse.read 0 c.laws ix)

theorem newGlides_eq : c.newGlides = c.gliding.filterMap c.newGlide := rfl

theorem newGlide_ix {ix : Nat} {g : Glide} (h : c.newGlide ix = some g) : g.ix = ix := by
  rw [Coefs.newGlide] at h
  by_cases same : (c.glideTo ix).v0 = (c.glideTo ix).target
  · rw [if_pos same] at h
    cases h
  · rw [if_neg same] at h
    exact step_ix h

theorem newGlides_at (h : Sparse.wf 0 c.laws = true) (ix : Nat) : c.newGlides.filter (fun g => decide (g.ix = ix)) =
    if lawGlides (Sparse.read 0 c.laws ix) = true then (c.newGlide ix).toList else [] := by
  rw [newGlides_eq, filterMap_filter (q := fun k => decide (k = ix)) (fun a b e => by rw [newGlide_ix c e]), gliding_at c h]
  split
  · cases e : c.newGlide ix with
    | none => exact List.filterMap_cons_none e
    | some g => exact List.filterMap_cons_some e
  · rfl

/-- The value in force of an index: that of its glide, else its target. -/
theorem inForce_read (h : Sparse.wf 0 c.active = true) (ix : Nat) : Sparse.read 0 c.inForce ix =
    match (c.glides.filter (fun g => decide (g.ix = ix))).getLast? with
    | none => Sparse.read 0 c.active ix
    | some g => BitVec.ofInt 32 g.value := by
  have all (l : List Glide) : Sparse.wf 0 (l.foldl (fun m g => Sparse.write 0 m g.ix (BitVec.ofInt 32 g.value)) c.active) = true ∧
      Sparse.read 0 (l.foldl (fun m g => Sparse.write 0 m g.ix (BitVec.ofInt 32 g.value)) c.active) ix =
        match (l.filter (fun g => decide (g.ix = ix))).getLast? with
        | none => Sparse.read 0 c.active ix
        | some g => BitVec.ofInt 32 g.value := by
    induction l using List.reverseRecOn with
    | nil => exact ⟨h, rfl⟩
    | append_singleton l g ih =>
      obtain ⟨wf, read⟩ := ih
      rw [List.foldl_append, List.filter_append]
      refine ⟨Sparse.write_wf _ wf, ?_⟩
      rw [List.foldl_cons, List.foldl_nil, Sparse.read_write _ _ wf]
      by_cases e : g.ix = ix
      · rw [List.filter_cons, if_pos (decide_eq_true e), if_pos e.symm, List.filter_nil, List.getLast?_concat]
      · rw [List.filter_cons, if_neg (Ne.symm e), if_neg (by simp [e]), List.filter_nil, List.append_nil, read]
  exact (all c.glides).2

/-- A flip puts the shadow bank in force, and both banks are equal after it. -/
theorem flip_banks (running : Bool) : (c.flip running).active = c.shadow ∧ (c.flip running).shadow = c.shadow := by
  have both (k : Bool) (m : Sparse Word) : (if k then m else m) = m := by cases k <;> rfl
  exact ⟨both _ _, both _ _⟩

end

/-! ### A fold over distinct benches -/

theorem foldl_bench_nodup {g : State → BenchId → State} {F : Bench → Bench} {k : State → Prop} (hk : ∀ s b, k s → k (g s b))
    (h : ∀ s b c, k s → (g s b).bench c = if c = b then F (s.bench c) else s.bench c) (bs : List BenchId) (once : bs.Nodup) (s : State)
    (hs : k s) (c : BenchId) : (bs.foldl g s).bench c = if c ∈ bs then F (s.bench c) else s.bench c := by
  induction bs generalizing s with
  | nil => rfl
  | cons b rest ih =>
    obtain ⟨fresh, once⟩ := List.nodup_cons.mp once
    rw [List.foldl_cons, ih once _ (hk s b hs), h s b c hs]
    by_cases e : c = b
    · subst e
      rw [if_neg fresh, if_pos rfl, if_pos List.mem_cons_self]
    · simp only [if_neg e, List.mem_cons, or_iff_right e]

theorem owned_nodup (s : State) (x : TenantId) : (s.owned x).Nodup := (List.nodup_finRange 8).filter _

/-- A bench at its flip strobe. -/
def Bench.flipDue (x : Bench) (frame : Nat) : Bench := if x.coefs.flipsAt frame then x.flip frame else x

section
variable (s : State) (x : TenantId)

/-- The benches of a tenant at its flip. -/
theorem commitFlip_bench (run : s.running = true) (b : BenchId) :
    (s.commitFlip x).bench b = if s.owns x b = true then (s.bench b).flipDue s.clock.frame else s.bench b := by
  rw [State.commitFlip, if_pos run, foldl_bench_nodup (F := fun y => y.flipDue s.clock.frame) (k := fun u => u.clock = s.clock) ?_ ?_ _
    (owned_nodup s x) s rfl]
  · simp only [mem_owned]
  · intro u b h
    split <;> exact h
  · intro u b c h
    rw [h]
    by_cases e : c = b
    · subst e
      rw [if_pos rfl, Bench.flipDue]
      split
      · rw [State.modBench_bench_self]
      · rfl
    · rw [if_neg e]
      split
      · rw [State.modBench_bench_of_ne _ _ e]
      · rfl

theorem commitFlip_eq : ∃ bs, s.commitFlip x = { s with benches := bs } := by
  have all (l : List BenchId) (u : State) : ∃ bs, l.foldl (fun s b =>
      if (s.bench b).coefs.flipsAt s.clock.frame then s.modBench b (fun x => x.flip s.clock.frame) else s) u = { u with benches := bs } := by
    induction l generalizing u with
    | nil => exact ⟨_, rfl⟩
    | cons b rest ih =>
      rw [List.foldl_cons]
      split
      · obtain ⟨bs, h⟩ := ih (u.modBench b (fun x => x.flip u.clock.frame))
        exact ⟨bs, h⟩
      · exact ih u
  rw [State.commitFlip]
  split
  · exact all _ s
  · exact ⟨_, rfl⟩

/-- A bench whose commit is over. -/
def Bench.committed (y : Bench) : Bench := { y with coefs := { y.coefs with commit := none } }

/-- The benches of a tenant whose commits end at a frame. -/
def State.ending (s : State) (x : TenantId) : List BenchId := (s.owned x).filter (fun b => (s.bench b).coefs.endsAt s.clock.frame)

theorem mem_ending (b : BenchId) : b ∈ s.ending x ↔ s.owns x b = true ∧ (s.bench b).coefs.endsAt s.clock.frame = true := by
  rw [State.ending, List.mem_filter, mem_owned]

theorem commitDone_eq : s.commitDone x = if (s.ending x).isEmpty then s
    else ((s.ending x).foldl (fun s b => s.modBench b Bench.committed) s).raise x 5 := rfl

theorem ended_bench (b : BenchId) : ((s.ending x).foldl (fun s b => s.modBench b Bench.committed) s).bench b =
    if s.owns x b = true ∧ (s.bench b).coefs.endsAt s.clock.frame = true then (s.bench b).committed else s.bench b := by
  have once : (s.ending x).Nodup := (owned_nodup s x).filter _
  rw [foldl_bench_nodup (F := Bench.committed) (k := fun _ => True) (fun _ _ h => h) ?_ _ once s trivial]
  · simp only [mem_ending]
  · intro u b c _
    by_cases e : c = b
    · subst e
      rw [if_pos rfl, State.modBench_bench_self]
    · rw [if_neg e, State.modBench_bench_of_ne _ _ e]

theorem ended_eq (l : List BenchId) : ∃ bs, l.foldl (fun s b => s.modBench b Bench.committed) s = { s with benches := bs } := by
  induction l generalizing s with
  | nil => exact ⟨_, rfl⟩
  | cons b rest ih =>
    obtain ⟨bs, h⟩ := ih (s.modBench b Bench.committed)
    exact ⟨bs, h⟩

end

end Sys2Proof.Machine
end

section
/-! SUPPORT. Notices and commits, put together. -/
namespace Sys2Proof.Machine

section
variable {s : State} {c : Channel} {id : Nat} (found : s.channel id = some c)
include found

theorem noticeVisible_eq (h : c.full = true ∧ c.visible = false ∧ s.writesDone c.sender c.waitFor = true) :
    s.noticeVisible id = s.modChannel id (fun c => { c with visible := true, timer := if c.residual then 0 else c.timeout.toNat }) := by
  rw [State.noticeVisible, found]
  exact if_pos h

theorem noticeVisible_waits (h : s.writesDone c.sender c.waitFor = false) : s.noticeVisible id = s := by
  rw [State.noticeVisible, found]
  exact if_neg fun k => by rw [h] at k; cases k.2.2

theorem ackVisible_eq {a : Half × Nat} (ack : c.ack = some a) : s.ackVisible id = if s.writesDone c.receiver a.2 then
    s.modChannel id (fun c => { c with done := true, code := a.1, ack := none }) else s := by
  rw [State.ackVisible, found]
  dsimp only
  rw [ack]

theorem mbxTimeout_eq : s.mbxTimeout id =
    if c.full = true ∧ c.visible = true ∧ c.residual = false ∧ c.timeout ≠ 0 ∧ c.timer = 0 ∧ c.timedOut = false then
      (s.modChannel id (fun c => { c with timedOut := true })).raiseChannel c 7
    else s := by
  rw [State.mbxTimeout, found]

end

/-- A bench's coefficients after its flip. -/
theorem flipDue_coefs {x : Bench} {frame n : Nat} (commit : x.coefs.commit = some ⟨n, false⟩) (due : n + 2 ≤ frame) :
    ∃ view, (x.flipDue frame).coefs = { x.coefs.flip x.active with view := view } := by
  have flips : x.coefs.flipsAt frame = true := by
    rw [Coefs.flipsAt, commit]
    exact decide_eq_true due
  rw [Bench.flipDue, if_pos flips, Bench.flip]
  dsimp only
  split <;> exact ⟨_, rfl⟩

theorem strobe_coefs {x : Bench} {frame : Nat} (up : x.state ≠ .fenced) (noFlip : x.coefs.flipsAt frame = false) (cycles added : Nat) :
    (x.strobe frame cycles added).coefs = x.coefs.tick := by
  have ticks : (if x.state = .fenced ∨ x.coefs.flipsAt frame = true then x.coefs else x.coefs.tick) = x.coefs.tick :=
    if_neg (by rw [noFlip]; simp [up])
  rw [Bench.strobe, ticks]
  split <;> rfl

theorem beat_coefs (x : Bench) : x.beat.2.2.1 = x.coefs := rfl

/-- The coefficients of a bench at a strobe: its glides take a step. -/
theorem afterStrobe_coefs (s : State) (i : StrobeInputs) (b : BenchId) (up : (s.bench b).state ≠ .fenced)
    (noFlip : (s.bench b).coefs.flipsAt s.strobeFrame = false) : (((s.afterStrobe i).judgeReleases).bench b).coefs = (s.bench b).coefs.tick := by
  rw [← beat_coefs, afterStrobe_beat, beat_coefs, strobe_coefs]
  · rfl
  · exact up
  · exact noFlip

theorem toList_of_step {g : Glide} {law : Byte} {v : Int} (kind : law.toNat / 64 = 1 ∨ law.toNat / 64 = 2) (h : g.nextIs law v) :
    (g.step law).toList = if v = g.target then [] else [{ g with j := g.j + 1, value := v }] := by
  rw [step_of_nextIs kind h]
  split <;> rfl

/-- Settles O50: notices and acknowledgements by their writes, the flip and its glides, a glide's step at a strobe, the end of a commit. -/
theorem noticesAndFlips : Obligations.NoticesAndFlips := by
  refine ⟨fun id s c found => ⟨fun full hidden done => congrArg Host.Outcome.next (noticeVisible_eq found ⟨full, hidden, done⟩),
      fun waits => congrArg Host.Outcome.next (noticeVisible_waits found waits), fun code bound ack done => ?_, fun code bound ack waits => ?_,
      fun full visible residual timeout timer once x sender => ?_, fun not => ?_⟩,
    fun x s run => ?_, fun i s b g law v run goes up noFlip alone hl kind next => ?_, fun g law v lin last next => nextIs_last lin last next,
    fun x s none => ?_, fun x s some => ?_⟩
  · refine congrArg Host.Outcome.next ?_
    rw [ackVisible_eq found ack, if_pos done]
  · refine congrArg Host.Outcome.next ?_
    rw [ackVisible_eq found ack, if_neg (by rw [waits]; decide)]
  · refine congrArg Host.Outcome.next ?_
    rw [mbxTimeout_eq found, if_pos ⟨full, visible, residual, timeout, timer, once⟩, State.raiseChannel]
    have same : (s.modChannel id.toNat (fun c => { c with timedOut := true })).endpointTenant c.sender = s.endpointTenant c.sender := rfl
    rw [same, sender]
  · refine congrArg Host.Outcome.next ?_
    rw [mbxTimeout_eq found, if_neg]
    rintro ⟨-, -, -, -, timer, once⟩
    rcases not with h | h
    · exact h timer
    · rw [once] at h
      cases h
  · obtain ⟨bs, e⟩ := commitFlip_eq s x
    have bench := commitFlip_bench s x run
    refine ⟨s.commitFlip x, rfl, by rw [e], fun b h => ?_, fun b n own commit due => ?_⟩
    · rw [bench]
      rcases h with h | h
      · exact if_neg (by rw [h]; decide)
      · have stays : (s.bench b).flipDue s.clock.frame = s.bench b := by
          rw [Bench.flipDue]
          exact if_neg (by rw [h]; decide)
        rw [stays, ite_self]
    · obtain ⟨view, coefs⟩ := flipDue_coefs commit due
      rw [bench, if_pos own, coefs]
      obtain ⟨active, shadow⟩ := flip_banks (s.bench b).coefs (s.bench b).active
      refine ⟨active, shadow, ?_, rfl, fun first => if_pos first, fun first wf ix law v0 tg hl h0 ht => ?_⟩
      · exact congrArg (fun o => o.map (fun p : PendingCommit => { p with flipped := true })) commit
      · have glides : ({ (s.bench b).coefs.flip (s.bench b).active with view := view } : Coefs).glides = (s.bench b).coefs.newGlides :=
          if_neg (by rw [first]; decide)
        rw [glides, newGlides_at _ wf, ← hl, Coefs.newGlide, Coefs.glideTo, ← h0, ← ht, ← hl]
        refine ⟨fun still => ?_, fun k kind moves v next => ?_⟩
        · by_cases on : lawGlides law = true
          · rw [if_pos on]
            have same : v0 = tg := by
              rw [lawGlides, Bool.and_eq_true, Bool.or_eq_true, decide_eq_true_eq, decide_eq_true_eq, decide_eq_true_eq] at on
              obtain ⟨kinds, k⟩ := on
              rcases still with h | h | h
              · exact absurd h k
              · omega
              · exact h
            rw [if_pos same]
            rfl
          · rw [if_neg on]
        · have on : lawGlides law = true := by
            rw [lawGlides, Bool.and_eq_true, Bool.or_eq_true, decide_eq_true_eq, decide_eq_true_eq, decide_eq_true_eq]
            exact ⟨kind, k⟩
          rw [if_pos on, if_neg moves, toList_of_step kind next]
  · refine ⟨_, congrArg Host.Outcome.next (frameStrobe_eq i run goes), ?_⟩
    rw [afterStrobe_coefs s i b up noFlip]
    have tick := tick_at (s.bench b).coefs alone
    rw [← hl, toList_of_step kind next] at tick
    refine ⟨rfl, tick, fun wf target => ?_⟩
    refine (inForce_read (c := (s.bench b).coefs.tick) wf g.ix).trans ?_
    rw [tick]
    by_cases reached : v = g.target
    · rw [if_pos reached]
      refine Eq.trans ?_ (congrArg (BitVec.ofInt 32) (target.trans reached.symm))
      exact (BitVec.ofInt_toInt).symm
    · rw [if_neg reached]
      rfl
  · refine congrArg Host.Outcome.next ?_
    have empty : s.ending x = [] := List.eq_nil_iff_forall_not_mem.mpr fun b h => by
      obtain ⟨own, ends⟩ := (mem_ending s x b).mp h
      rw [none b own] at ends
      cases ends
    rw [commitDone_eq, empty]
    rfl
  · obtain ⟨b, hb⟩ := some
    obtain ⟨bs, e⟩ := ended_eq s (s.ending x)
    refine ⟨_, congrArg Host.Outcome.next ((commitDone_eq s x).trans (if_neg fun h => ?_)), by rw [e], fun b => ended_bench s x b⟩
    rw [List.isEmpty_iff] at h
    have mem := (mem_ending s x b).mpr hb
    rw [h] at mem
    cases mem

end Sys2Proof.Machine
end

section
/-! SUPPORT. A master port that stops at a strobe. -/
namespace Sys2Proof.Machine

/-- A port that no image names at a strobe: it stops where a master is to end. -/
def AudioPort.unnamedStrobe (x : AudioPort) (master : Bool) : AudioPort := if x.ending = true ∧ master = true then x.stopHere else x

theorem unnamedStrobe_twice (x : AudioPort) (master : Bool) :
    (x.unnamedStrobe master).unnamedStrobe master = x.unnamedStrobe master := by
  by_cases h : x.ending = true ∧ master = true
  · rw [AudioPort.unnamedStrobe, AudioPort.unnamedStrobe, if_pos h]
    exact if_neg fun k => nomatch k.1
  · rw [AudioPort.unnamedStrobe, AudioPort.unnamedStrobe, if_neg h, if_neg h]

theorem unnamedStrobe_entry {x : AudioPort} (master : Bool) (h : x.entry = none) : (x.unnamedStrobe master).entry = none := by
  rw [AudioPort.unnamedStrobe]
  split <;> exact h

section
variable {s : State} (frame : Nat) (frames : Vector (List Word) 8)

theorem sapStrobe_unnamed {p : SapId} (h : (s.sap p).entry = none) :
    s.sapStrobe frame frames p = s.modSap p (fun x => x.unnamedStrobe (roleMaster (s.portRole p))) := by
  rw [State.sapStrobe, h]
  dsimp only
  have shape : s.modSap p (fun x => x.unnamedStrobe (roleMaster (s.portRole p))) =
      { s with audio := s.audio.set p (if (s.sap p).ending = true ∧ roleMaster (s.portRole p) = true then (s.sap p).stopHere else s.sap p) } := rfl
  rw [shape]
  split
  · rfl
  · have same : s.audio.set p (s.sap p) = s.audio := Vector.set_getElem_self ..
    rw [same]

/-- With no port named, a strobe stops the masters that are to end and does no more to the ports. -/
theorem audioStrobe_unnamed (none : ∀ p, (s.sap p).entry = none) (p : SapId) (l : List SapId) :
    (l.foldl (fun s p => s.sapStrobe frame frames p) s).sap p =
      if p ∈ l then (s.sap p).unnamedStrobe (roleMaster (s.portRole p)) else s.sap p := by
  induction l generalizing s with
  | nil => rfl
  | cons q rest ih =>
    have role : (s.modSap q (fun x => x.unnamedStrobe (roleMaster (s.portRole q)))).portRole p = s.portRole p := portRole_congr rfl p
    rw [List.foldl_cons, sapStrobe_unnamed frame frames (none q), ih, role, modSap_sap]
    · by_cases e : p = q
      · subst e
        rw [if_pos rfl, unnamedStrobe_twice, ite_self, if_pos List.mem_cons_self]
      · have mem : (p ∈ q :: rest) = (p ∈ rest) := propext ⟨fun h => (List.mem_cons.mp h).resolve_left e, List.mem_cons_of_mem q⟩
        simp only [if_neg e, mem]
    · intro r
      rw [modSap_sap]
      split
      · exact unnamedStrobe_entry _ (none r)
      · exact none r

omit frame frames in
theorem judgeReleases_sap (p : SapId) : s.judgeReleases.sap p = s.sap p := by
  have e : s.judgeReleases.audio = s.audio := by rw [judgeReleases_eq]
  rw [State.sap, State.sap, e]

theorem sap_of_audio {s u : State} (h : u.audio = s.audio) (p : SapId) : u.sap p = s.sap p := by rw [State.sap, State.sap, h]

theorem audioLive_congr {s u : State} (power : u.power = s.power) (wedged : u.faults.wedged = s.faults.wedged) :
    u.audioLive = s.audioLive := by
  rw [State.audioLive, State.audioLive, State.running, State.running, State.isWedged, State.isWedged, power, wedged]

variable (s)

/-- The audio ports as a strobe finds them when their turn comes. -/
theorem senseStrobed_audio (i : StrobeInputs) : (s.senseStrobed i).audio = s.audio ∧ (s.senseStrobed i).straps = s.straps ∧
    (s.senseStrobed i).power = s.power ∧ (s.senseStrobed i).faults.wedged = s.faults.wedged := by
  have through := unitsStrobed_through s i
  obtain ⟨u, hu⟩ : ∃ u, u = s.unitsStrobed i := ⟨_, rfl⟩
  rw [← hu] at through
  have audio : u.audio = s.audio := congrArg (fun t => t.2.1.2.2.1) through
  have straps : u.straps = s.straps := congrArg (fun t => t.1.1) through
  have power : u.power = s.power := congrArg (fun t => t.1.2.1) through
  have wedged : u.faults.wedged = s.faults.wedged := congrArg (fun t => t.2.2.1.2.1) through
  obtain ⟨v, hv⟩ : ∃ v, v = u.strobeBenches s.addedCycles := ⟨_, rfl⟩
  have kept : v.audio = u.audio ∧ v.straps = u.straps ∧ v.power = u.power ∧ v.faults = u.faults := by
    rw [hv]
    exact ⟨rfl, rfl, rfl, rfl⟩
  obtain ⟨vAudio, vStraps, vPower, vFaults⟩ := kept
  obtain ⟨r, bs, se, sense, -⟩ := strobeSense_eq v i
  rw [State.senseStrobed, ← hu, ← hv, sense]
  exact ⟨vAudio.trans audio, vStraps.trans straps, vPower.trans power, (congrArg Faults.wedged vFaults).trans wedged⟩

theorem frameStrobe_sap (i : StrobeInputs) (run : s.running = true) (goes : s.clock.stepped ≠ .stopped) (p : SapId) :
    (s.frameStrobe i).sap p = ((s.senseStrobed i).audioStrobe (s.unitsStrobed i).clock.frame i.audio).sap p := by
  have shape (a : State) (cs : List Channel) : ({ a with channels := cs } : State).sap p = a.sap p := rfl
  rw [frameStrobe_eq i run goes, judgeReleases_sap, State.afterStrobe, shape, State.audioStrobed]

/-- A port at a strobe of a part none of whose ports is named. -/
theorem frameStrobe_unnamed (i : StrobeInputs) (live : s.audioLive = true) (goes : s.clock.stepped ≠ .stopped)
    (none : ∀ p, (s.sap p).entry = none) (p : SapId) :
    (s.frameStrobe i).sap p = (s.sap p).unnamedStrobe (roleMaster (s.portRole p)) := by
  have run : s.running = true := by
    rw [State.audioLive, Bool.and_eq_true] at live
    exact live.1
  obtain ⟨audio, straps, power, wedged⟩ := senseStrobed_audio s i
  have sap := sap_of_audio audio
  rw [frameStrobe_sap s i run goes, State.audioStrobe, if_pos ((audioLive_congr power wedged).trans live),
    audioStrobe_unnamed _ _ (fun q => (congrArg AudioPort.entry (sap q)).trans (none q)), if_pos (List.mem_finRange p), sap,
    portRole_congr straps]

end

/-- A part in OPERATING whose port 4, a master output that no image names any more, stops at its next frame edge. -/
def State.portEnding : State :=
  { State.reset with
    power := { State.reset.power with state := .operating }
    audio := State.reset.audio.set 4 { AudioPort.init with ending := true } }

/-- A strobe that every unit acknowledges, with nothing sampled or received. -/
def StrobeInputs.quiet : StrobeInputs :=
  { benchAck := Vector.replicate 8 true, glideAck := Vector.replicate 8 true, sharedAck := Vector.replicate 9 true
    samples := Vector.replicate 16 0, audio := Vector.replicate 8 [] }

/-- Its slots go back to the reset state, which carries two samples of 0. -/
theorem portEnding_strobe : (((State.portEnding.frameStrobe StrobeInputs.quiet).sap 4).slots[(0 : Fin 16)]).content = [0, 0] := by
  rw [frameStrobe_unnamed _ _ (by decide) (by decide) (by decide)]
  decide

/-- Refutes O13: a master port that no image names any more stops, at a strobe, with slots that carry two samples of 0 (R338), where the
statement's clause on it has slots that carry no sample at all. -/
theorem not_frameStrobes : ¬ Obligations.FrameStrobes := by
  rintro ⟨-, -, -, stops, -⟩
  obtain ⟨t, run, -, empty⟩ := stops StrobeInputs.quiet State.portEnding 4 (by decide) (by decide) (by decide) (by decide) (by decide)
  have stopped : State.portEnding.frameStrobe StrobeInputs.quiet = t := Host.Outcome.next.inj run
  have content := portEnding_strobe
  rw [stopped, empty 0] at content
  cases content

end Sys2Proof.Machine
end

section
/-! SUPPORT. A follower output port that stops at its load. -/
namespace Sys2Proof.Machine

/-- A part in OPERATING in arrangement 1, whose port 4, a follower output that no image names any more, stops at its next load. -/
def State.outputEnding : State :=
  { State.portEnding with straps := { State.reset.straps with codes := State.reset.straps.codes.set 6 1 } }

theorem followerOutputLoad_ending {s : State} {p : SapId} (role : s.portRole p = 4) (ending : (s.sap p).ending = true) (cycle : Nat) :
    (s.followerOutputLoad p cycle).sap p = (s.sap p).stopHere := by
  rw [State.followerOutputLoad, if_pos ⟨ending, role⟩, modSap_sap, if_pos rfl]

/-- Refutes O51: a follower output that no image names any more stops, at its load, with slots that carry two samples of 0 (R338), where
the statement's clause on it has slots that carry no sample at all. -/
theorem not_audioPortCommands : ¬ Obligations.AudioPortCommands := by
  rintro ⟨stops, -⟩
  obtain ⟨t, run, -, -, -, empty⟩ := stops 4 0 State.outputEnding (by decide) (by decide)
  have stopped : State.outputEnding.followerOutputLoad 4 0 = t := Host.Outcome.next.inj run
  have content := empty 0
  rw [← stopped, followerOutputLoad_ending (by decide) (by decide)] at content
  exact absurd content (by decide)

end Sys2Proof.Machine
end

section
/-! SUPPORT. Sense channels: changes to one, trips and excitation. -/
namespace Sys2Proof.Machine

section
variable (s : State)

@[simp] theorem modChan_chan (c ch : SenseId) (f : SenseChannel → SenseChannel) :
    (s.modChan c f).chan ch = if ch = c then f (s.chan ch) else s.chan ch := by
  rw [State.chan, State.modChan, vmod_getElem]
  simp only [Fin.val_inj]
  rfl

theorem chan_of_channels {s t : State} (h : t.sense.channels = s.sense.channels) (c : SenseId) : t.chan c = s.chan c := by
  rw [State.chan, State.chan, h]

theorem raiseChan_eq (ch : SenseId) (n : Nat) : ∃ ts, s.raiseChan ch n = { s with tenants := ts } := by
  rw [State.raiseChan]
  split
  · exact ⟨_, State.raise_eq ..⟩
  · exact ⟨_, rfl⟩

theorem raiseChan_of_cfg {ch : SenseId} {x : TenantId} {d : SenseDecl} (cfg : (s.chan ch).cfg = some (x, d)) (n : Nat) :
    s.raiseChan ch n = s.raise x n := by
  rw [State.raiseChan, cfg]

/-! ### Trips -/

/-- A channel in TRIPPED. -/
def SenseChannel.tripped (c : SenseChannel) : SenseChannel := { c with state := .tripped, sample := 0 }

/-- A trip puts the channel in TRIPPED, raises its tenant's event, and beyond that changes counts and the log. -/
theorem trip_eq (ch : SenseId) (how mv ua : Nat) : ∃ se w, s.trip ch how mv ua =
    { (s.modChan ch SenseChannel.tripped).raiseChan ch 22 with sense := se, wb := w } ∧
    se.channels = (s.modChan ch SenseChannel.tripped).sense.channels ∧ se.trips = s.sense.trips + 1 := by
  obtain ⟨ts, raised⟩ := raiseChan_eq (s.modChan ch SenseChannel.tripped) ch 22
  obtain ⟨u, hu⟩ : ∃ u, u = (s.modChan ch SenseChannel.tripped).raiseChan ch 22 := ⟨_, rfl⟩
  have sense : u.sense = (s.modChan ch SenseChannel.tripped).sense := by rw [hu, raised]
  have trips : u.sense.trips = s.sense.trips := by rw [sense]; rfl
  have step : ∃ p, s.trip ch how mv ua = if u.sense.tripAt.all (fun f => decide (f + 60 * u.ff ≤ u.clock.frame)) then
      if u.logTakes then { u.logPart 0x12 p with sense := { (u.logPart 0x12 p).sense with
        tripAt := some u.clock.frame, tripMap := 0, tripNotLogged := 0, trips := u.sense.trips + 1 } }
      else { u.logPart 0x12 p with sense := { (u.logPart 0x12 p).sense with
        tripMap := u.sense.tripMap ||| (1#16 <<< ch.val), tripNotLogged := (u.logPart 0x12 p).sense.tripNotLogged + 1,
        trips := u.sense.trips + 1 } }
      else { u with sense := { u.sense with
        tripMap := u.sense.tripMap ||| (1#16 <<< ch.val), tripNotLogged := u.sense.tripNotLogged + 1, trips := u.sense.trips + 1 } } := by
    rw [hu]
    exact ⟨_, rfl⟩
  obtain ⟨p, step⟩ := step
  rw [step, ← hu, ← sense, ← trips]
  split
  · rw [State.logPart_eq]
    split <;> exact ⟨_, _, rfl, rfl, rfl⟩
  · exact ⟨_, _, rfl, rfl, rfl⟩

theorem raise_event {s : State} {x : TenantId} (present : s.present x = true) (free : (s.tenant x).held = false) (n : Nat) :
    ((s.raise x n).tenant x).events = (s.tenant x).events ||| (1#32 <<< n) := by
  rw [State.raise, if_pos ⟨present, free⟩, State.modTenant_tenant_self]

/-- What a trip does, for a state that differs from the untripped one in its channel alone. -/
theorem trip_spec (ch : SenseId) (how mv ua : Nat) : ∃ t, s.trip ch how mv ua = t ∧ t.chan ch = (s.chan ch).tripped ∧
    (∀ c, c ≠ ch → t.chan c = s.chan c) ∧ t = { s with sense := t.sense, tenants := t.tenants, wb := t.wb } ∧
    t.sense.trips = s.sense.trips + 1 ∧ ∀ x d, (s.chan ch).cfg = some (x, d) → s.present x = true → (s.tenant x).held = false →
      (t.tenant x).events.getLsbD 22 = true := by
  obtain ⟨se, w, e, channels, trips⟩ := trip_eq s ch how mv ua
  obtain ⟨ts, raised⟩ := raiseChan_eq (s.modChan ch SenseChannel.tripped) ch 22
  have chan (c : SenseId) : ({ (s.modChan ch SenseChannel.tripped).raiseChan ch 22 with sense := se, wb := w } : State).chan c =
      if c = ch then (s.chan c).tripped else s.chan c := (congrArg (·[c]) channels).trans (modChan_chan s ch c SenseChannel.tripped)
  refine ⟨_, e, (chan ch).trans (if_pos rfl), fun c h => (chan c).trans (if_neg h), ?_, trips, fun x d cfg present free => ?_⟩
  · rw [raised]
    rfl
  · have mine : ((s.modChan ch SenseChannel.tripped).chan ch).cfg = some (x, d) := by
      rw [modChan_chan, if_pos rfl]
      exact cfg
    rw [raiseChan_of_cfg _ mine]
    exact events_raise (s := s.modChan ch SenseChannel.tripped) ((present_congr rfl x).trans present) free 22 (by decide)

/-! ### The thresholds of the part -/

theorem trip_ranges (k : Nat) : (currentTrip k).1 ≤ (currentTrip k).2 ∧ (powerTrip k).1 ≤ (powerTrip k).2 := by
  match k with
  | 0 => decide
  | 1 => decide
  | 2 => decide
  | _ + 3 => exact ⟨(by decide : 50 ≤ 100), (by decide : 300000 ≤ 320000)⟩

/-- A value taken into a range lies in it. -/
theorem clamp_mem {lo hi : Nat} (h : lo ≤ hi) (v : Nat) : lo ≤ max lo (min hi v) ∧ max lo (min hi v) ≤ hi := by omega

theorem meterTrip_mem (k : Nat) (ch : SenseId) : meterNominal k * 9 / 10 ≤ meterTrip k ch ∧ meterTrip k ch ≤ meterNominal k :=
  clamp_mem (by omega) _

theorem limiterCurrent_mem (k : Nat) (ch : SenseId) (i : Nat) :
    (currentTrip k).1 ≤ limiterCurrent k ch i ∧ limiterCurrent k ch i ≤ (currentTrip k).2 := clamp_mem (trip_ranges k).1 _

theorem limiterPower_mem (k : Nat) (ch : SenseId) (i : Nat) :
    (powerTrip k).1 ≤ limiterPower k ch i ∧ limiterPower k ch i ≤ (powerTrip k).2 := clamp_mem (trip_ranges k).2 _

/-- Whether a limiter's own thresholds are exceeded. -/
def limiterExceeded (k : Nat) (ch : SenseId) (ua1 ua2 mv : Nat) : Prop :=
  limiterCurrent k ch 1 < ua1 ∨ limiterCurrent k ch 2 < ua2 ∨ limiterPower k ch 1 < mv * ua1 ∨ limiterPower k ch 2 < mv * ua2

theorem limiterExceeded_surely {k : Nat} (ch : SenseId) {ua1 ua2 mv : Nat} (h : (currentTrip k).2 < ua1 ∨ (currentTrip k).2 < ua2 ∨
    (powerTrip k).2 < mv * ua1 ∨ (powerTrip k).2 < mv * ua2) : limiterExceeded k ch ua1 ua2 mv := by
  rcases h with h | h | h | h
  · exact .inl ((limiterCurrent_mem k ch 1).2.trans_lt h)
  · exact .inr (.inl ((limiterCurrent_mem k ch 2).2.trans_lt h))
  · exact .inr (.inr (.inl ((limiterPower_mem k ch 1).2.trans_lt h)))
  · exact .inr (.inr (.inr ((limiterPower_mem k ch 2).2.trans_lt h)))

theorem limiterExceeded_never {k : Nat} (ch : SenseId) {ua1 ua2 mv : Nat} (h : ua1 ≤ (currentTrip k).1 ∧ ua2 ≤ (currentTrip k).1 ∧
    mv * ua1 ≤ (powerTrip k).1 ∧ mv * ua2 ≤ (powerTrip k).1) : ¬limiterExceeded k ch ua1 ua2 mv := by
  obtain ⟨one, two, power1, power2⟩ := h
  rintro (h | h | h | h)
  · exact absurd (one.trans (limiterCurrent_mem k ch 1).1) h.not_ge
  · exact absurd (two.trans (limiterCurrent_mem k ch 2).1) h.not_ge
  · exact absurd (power1.trans (limiterPower_mem k ch 1).1) h.not_ge
  · exact absurd (power2.trans (limiterPower_mem k ch 2).1) h.not_ge

theorem limiterTrip_eq (live : s.senseLive = true) (ch : SenseId) (ua1 ua2 mv : Nat) :
    ((s.chan ch).excited = true → limiterExceeded s.energyClass ch ua1 ua2 mv →
      ∃ how ua, s.limiterTrip ch ua1 ua2 mv = s.trip ch how mv ua) ∧
    (¬limiterExceeded s.energyClass ch ua1 ua2 mv → s.limiterTrip ch ua1 ua2 mv = s) := by
  have any : (decide (limiterCurrent s.energyClass ch 1 < ua1) || decide (limiterCurrent s.energyClass ch 2 < ua2) ||
      (decide (limiterPower s.energyClass ch 1 < mv * ua1) || decide (limiterPower s.energyClass ch 2 < mv * ua2))) = true ↔
      limiterExceeded s.energyClass ch ua1 ua2 mv := by
    simp only [Bool.or_eq_true, decide_eq_true_eq, limiterExceeded, or_assoc]
  rw [State.limiterTrip]
  exact ⟨fun on h => ⟨_, _, if_pos ⟨live, on, any.mpr h⟩⟩, fun h => if_neg fun k => h (any.mp k.2.2)⟩

end

/-- SETTLE entered where excitation is there. -/
theorem toSettle_whole (c : SenseChannel) (frame : Nat) :
    c.toSettle false frame = { c with state := .settle, entered := frame, sample := 0, seeded := false } := by
  rw [SenseChannel.toSettle, if_neg fun h => Bool.false_ne_true h.1]

/-- Settles O52: each trip is the one of `trip_spec`, its thresholds lie in the ranges of Table SNS-4, and excitation goes and comes back
channel by channel. -/
theorem senseExcitation : Obligations.SenseExcitation := by
  rintro ch s k rfl live
  refine ⟨fun ua1 ua2 mv on sure => ?_, fun ua1 ua2 mv never => ?_, fun nj mv ua => ?_, (meterTrip_mem _ ch).1, (meterTrip_mem _ ch).2,
    fun ms tripped => ⟨fun early => ?_, fun late => ?_⟩, fun mv us => ⟨fun h => ?_, fun low long => ?_⟩,
    fun low high ms lo hi long there => ?_⟩
  · obtain ⟨how, ua, e⟩ := (limiterTrip_eq s live ch ua1 ua2 mv).1 on (limiterExceeded_surely ch sure)
    obtain ⟨t, trip, spec⟩ := trip_spec s ch how mv ua
    exact ⟨t, congrArg Host.Outcome.next (e.trans trip), spec⟩
  · exact congrArg Host.Outcome.next ((limiterTrip_eq s live ch ua1 ua2 mv).2 (limiterExceeded_never ch never))
  · obtain ⟨u, hu⟩ : ∃ u, u = s.modChan ch (fun c => { c with energy := BitVec.ofNat 32 nj }) := ⟨_, rfl⟩
    have mine : u.chan ch = { s.chan ch with energy := BitVec.ofNat 32 nj } := by rw [hu, modChan_chan, if_pos rfl]
    have other (c : SenseId) (h : c ≠ ch) : u.chan c = s.chan c := by rw [hu, modChan_chan, if_neg h]
    have frame : u = { s with sense := u.sense } := by rw [hu]; rfl
    have trips : u.sense.trips = s.sense.trips := by rw [hu]; rfl
    have excited : (u.chan ch).excited = (s.chan ch).excited := by rw [mine]; rfl
    have measured : s.meterWindowEnd ch nj mv ua =
        if (s.chan ch).excited = true ∧ meterTrip s.energyClass ch < nj then u.trip ch 1 mv ua else u := by
      have e : s.meterWindowEnd ch nj mv ua = if (u.chan ch).excited = true ∧ meterTrip u.energyClass ch < nj then u.trip ch 1 mv ua else u := by
        rw [hu]
        exact if_pos live
      have same : u.energyClass = s.energyClass := by rw [hu]; rfl
      rw [e, excited, same]
    by_cases h : (s.chan ch).excited = true ∧ meterTrip s.energyClass ch < nj
    · obtain ⟨t, trip, chan, others, keeps, counted, raised⟩ := trip_spec u ch 1 mv ua
      refine ⟨t, congrArg Host.Outcome.next ((measured.trans (if_pos h)).trans trip), fun c n => (others c n).trans (other c n), ?_, ?_, ?_,
        fun _ x d cfg present free => raised x d ?_ ?_ ?_, fun not => ?_⟩
      · rw [keeps, frame]
      · rw [chan, mine, if_pos h]
        rfl
      · rw [counted, trips, if_pos h]
      · rw [mine]
        exact cfg
      · rw [frame]
        exact (present_congr rfl x).trans present
      · rw [frame]
        exact free
      · rcases not with off | within
        · rw [h.1] at off
          cases off
        · exact absurd h.2 within.not_gt
    · refine ⟨u, congrArg Host.Outcome.next (measured.trans (if_neg h)), other, ?_, ?_, ?_, fun k => absurd k h, fun _ => ?_⟩
      · rw [frame]
      · rw [mine, if_neg h]
      · rw [trips, if_neg h]
      · rw [frame]
        exact ⟨rfl, rfl⟩
  · exact congrArg Host.Outcome.next (if_neg fun h => absurd h.2.2 early.not_ge)
  · refine congrArg Host.Outcome.next ((if_pos ⟨live, tripped, late⟩).trans ?_)
    simp only [SenseChannel.toSettle, State.excAbsent, Bool.or_eq_true]
  · refine congrArg Host.Outcome.next (if_neg ?_)
    rintro ⟨-, low, long⟩
    omega
  · refine ⟨_, congrArg Host.Outcome.next (if_pos ⟨live, low, long⟩), rfl, fun c => map_getElem ..⟩
  · refine ⟨_, congrArg Host.Outcome.next (if_pos ⟨live, lo, hi, long, there⟩), rfl, fun c => ?_⟩
    refine (map_getElem ..).trans ?_
    rw [toSettle_whole]
    rfl

end Sys2Proof.Machine
end

section
/-! SUPPORT. Sense channels: diagnosis and pulses. -/
namespace Sys2Proof.Machine

section
variable (s : State)

/-! ### The diagnostic entries -/

theorem countDiag_channels (cs : List DiagChange) (x : Sense) : (cs.foldl Sense.countDiag x).channels = x.channels := by
  induction cs generalizing x with
  | nil => rfl
  | cons c rest ih => exact ih _

theorem writeDiag_eq (c : DiagChange) : ∃ p, s.writeDiag c = { s.logPart 0xc1 p with
    sense := if s.logTakes then s.sense.diagDone s.clock.frame s.sense.diagMap s.sense.diagCount else s.sense } := by
  refine ⟨s.diagPayload s.sense.diagMap s.sense.diagCount c, ?_⟩
  rw [State.writeDiag, State.logPart_eq]
  split <;> rfl

/-- A change recorded leaves the channels. -/
theorem recordDiag_channels (c : DiagChange) : (s.recordDiag c).sense.channels = s.sense.channels := by
  obtain ⟨u, hu⟩ : ∃ u : State, u = { s with sense := s.sense.countDiag c } := ⟨_, rfl⟩
  have same : u.sense.channels = s.sense.channels := by rw [hu]; rfl
  have step : s.recordDiag c = if u.sense.diagAt.all (fun f => decide (f + 10 * u.ff ≤ u.clock.frame)) then u.writeDiag c
      else if u.sense.diagAt = some u.clock.frame ∧ u.wb.systemQ.any u.diagQueued = true then u.amendDiag c
      else { u with sense := { u.sense with diagHeld := some c } } := by
    rw [hu]
    rfl
  rw [step, ← same]
  split
  · obtain ⟨p, e⟩ := writeDiag_eq u c
    rw [e]
    split <;> rfl
  · split <;> rfl

theorem recordDiag_eq (c : DiagChange) : ∃ w se, s.recordDiag c = { s with wb := w, sense := se } ∧ se.channels = s.sense.channels := by
  obtain ⟨w, se, e, -⟩ := recordDiags_eq s [c]
  refine ⟨w, se, e, ?_⟩
  have channels := recordDiag_channels s c
  rw [State.recordDiag, e] at channels
  exact channels

/-- A change of a channel, recorded: what the change leaves, and what it makes of the channels. -/
theorem recordDiag_modChan (ch : SenseId) (f : SenseChannel → SenseChannel) (c : DiagChange) :
    ∃ t, (s.modChan ch f).recordDiag c = t ∧ t = { s with sense := t.sense, wb := t.wb } ∧ t.chan ch = f (s.chan ch) ∧
      ∀ k, k ≠ ch → t.chan k = s.chan k := by
  obtain ⟨w, se, e, channels⟩ := recordDiag_eq (s.modChan ch f) c
  have chan (k : SenseId) : ({ s.modChan ch f with wb := w, sense := se } : State).chan k = if k = ch then f (s.chan k) else s.chan k :=
    (congrArg (·[k]) channels).trans (modChan_chan s ch k f)
  exact ⟨_, e, rfl, (chan ch).trans (if_pos rfl), fun k h => (chan k).trans (if_neg h)⟩

/-- A change of a channel with its tenant's event, recorded. -/
theorem declared_spec {ch : SenseId} {x : TenantId} {d : SenseDecl} (cfg : (s.chan ch).cfg = some (x, d)) {f : SenseChannel → SenseChannel}
    (keeps : ∀ c, (f c).cfg = c.cfg) (n : Nat) (c : DiagChange) :
    ∃ t, ((s.modChan ch f).raiseChan ch n).recordDiag c = t ∧ t.chan ch = f (s.chan ch) ∧ (∀ k, k ≠ ch → t.chan k = s.chan k) ∧
      t = { s with sense := t.sense, tenants := t.tenants, wb := t.wb } ∧
      (s.present x = true → (s.tenant x).held = false → (t.tenant x).events = (s.tenant x).events ||| (1#32 <<< n)) := by
  have mine : ((s.modChan ch f).chan ch).cfg = some (x, d) := by rw [modChan_chan, if_pos rfl, keeps, cfg]
  rw [raiseChan_of_cfg _ mine]
  obtain ⟨u, hu⟩ : ∃ u, u = (s.modChan ch f).raise x n := ⟨_, rfl⟩
  obtain ⟨w, se, e, channels⟩ := recordDiag_eq u c
  have frame : u = { s.modChan ch f with tenants := u.tenants } := by rw [hu]; exact State.raise_eq ..
  have sense : u.sense = (s.modChan ch f).sense := by rw [frame]
  have chan (k : SenseId) : ({ u with wb := w, sense := se } : State).chan k = if k = ch then f (s.chan k) else s.chan k :=
    (congrArg (·[k]) (channels.trans (congrArg Sense.channels sense))).trans (modChan_chan s ch k f)
  refine ⟨{ u with wb := w, sense := se }, by rw [← hu, e], (chan ch).trans (if_pos rfl), fun k h => (chan k).trans (if_neg h), ?_,
    fun present free => ?_⟩
  · rw [frame]
    rfl
  · have raised := raise_event (s := s.modChan ch f) ((present_congr rfl x).trans present) (free : ((s.modChan ch f).tenant x).held = false) n
    rw [← hu] at raised
    exact raised

/-! ### Declaring and clearing -/

section
variable {s : State} {ch : SenseId} {x : TenantId} {d : SenseDecl} (live : s.senseLive = true) (cfg : (s.chan ch).cfg = some (x, d))
  (on : (s.chan ch).excited = true)
include live cfg on

theorem diagDeclare_eq {mv ua : Int} {ms : Nat} (o : Bool) (ho : o = openCond s.energyClass ch d mv ua) (cond : o = true ∨ shortCond ch d mv = true)
    (long : 10 ≤ ms) (noOpen : (s.chan ch).openDecl = false) (noShort : (s.chan ch).shortDecl = false) :
    s.diagDeclare ch mv ua ms = ((s.modChan ch (fun c => { c with state := .fault, sample := 0, openDecl := o, shortDecl := !o })).raiseChan ch
      (if o then 23 else 24)).recordDiag { channel := ch, what := if o then 1 else 2, mv := mv, reason := (s.chan ch).pulseFault } := by
  have either : (o || shortCond ch d mv) = true := by rw [Bool.or_eq_true]; exact cond
  have fresh : ¬(if o then (s.chan ch).openDecl else (s.chan ch).shortDecl) = true := by
    rw [noOpen, noShort, ite_self]
    exact Bool.false_ne_true
  rw [State.diagDeclare, cfg]
  dsimp only
  rw [← ho, if_pos ⟨live, on, long, either⟩, if_neg fresh]

theorem diagClear_eq {mv ua : Int} {ms : Nat} (long : 100 ≤ ms) (declared : (s.chan ch).openDecl = true ∨ (s.chan ch).shortDecl = true)
    (gone : (if (s.chan ch).openDecl = true then openCond s.energyClass ch d mv ua else shortCond ch d mv) = false) :
    s.diagClear ch mv ua ms = (s.modChan ch (fun c => if c.state = .fault then { c with
        openDecl := false, shortDecl := false, state := .settle, entered := s.clock.frame, sample := 0, seeded := false }
      else { c with openDecl := false, shortDecl := false })).recordDiag
      { channel := ch, what := if (s.chan ch).openDecl = true then 0x81 else 0x82, mv := mv, reason := (s.chan ch).pulseFault } := by
  have either : ((s.chan ch).openDecl || (s.chan ch).shortDecl) = true := by rw [Bool.or_eq_true]; exact declared
  rw [State.diagClear, cfg]
  dsimp only
  rw [if_pos ⟨live, on, long, either, gone⟩]
  rfl

end

/-- A change of a channel within 10 s of the latest SENSE_DIAG entry. -/
theorem recordDiag_soon {s : State} {f : Nat} (at_ : s.sense.diagAt = some f) (soon : s.clock.frame < f + 10 * s.ff) (c : DiagChange) :
    (f = s.clock.frame → s.wb.systemQ.any s.diagQueued = true →
      (s.recordDiag c).sense.diagHeld = none ∧ (s.recordDiag c).sense.diagMap = 0 ∧
      (s.recordDiag c).wb.systemQ.length = s.wb.systemQ.length ∧
      (s.recordDiag c).sense.diagWritten.1.getLsbD c.channel.val = true) ∧
    (f ≠ s.clock.frame → (s.recordDiag c).wb = s.wb ∧ (s.recordDiag c).sense.diagMap = s.sense.diagMap ||| (1#16 <<< c.channel.val) ∧
      (s.recordDiag c).sense.diagHeld = some c) := by
  obtain ⟨u, hu⟩ : ∃ u : State, u = { s with sense := s.sense.countDiag c } := ⟨_, rfl⟩
  have held : u.sense.diagAt = some f ∧ u.clock.frame = s.clock.frame ∧ u.wb = s.wb ∧ u.sense.diagMap = s.sense.diagMap ||| (1#16 <<< c.channel.val) ∧
      u.wb.systemQ.any u.diagQueued = s.wb.systemQ.any s.diagQueued := by
    rw [hu]
    exact ⟨at_, rfl, rfl, rfl, rfl⟩
  obtain ⟨uAt, frame, wb, map, queued⟩ := held
  have step : s.recordDiag c = if u.sense.diagAt = some u.clock.frame ∧ u.wb.systemQ.any u.diagQueued = true then u.amendDiag c
      else { u with sense := { u.sense with diagHeld := some c } } := by
    have all : ¬u.sense.diagAt.all (fun f => decide (f + 10 * u.ff ≤ u.clock.frame)) = true := by
      have same : u.ff = s.ff := by rw [hu]; rfl
      rw [uAt, frame, same]
      simp [soon]
    have e : s.recordDiag c = if u.sense.diagAt.all (fun f => decide (f + 10 * u.ff ≤ u.clock.frame)) then u.writeDiag c
        else if u.sense.diagAt = some u.clock.frame ∧ u.wb.systemQ.any u.diagQueued = true then u.amendDiag c
        else { u with sense := { u.sense with diagHeld := some c } } := by
      rw [hu]
      rfl
    rw [e, if_neg all]
  rw [step, uAt, frame, queued]
  refine ⟨fun now waits => ?_, fun other => ?_⟩
  · rw [if_pos ⟨congrArg some now, waits⟩]
    refine ⟨rfl, rfl, ?_, ?_⟩
    · rw [← wb]
      exact List.length_map ..
    · have bit : (u.sense.diagWritten.1 ||| u.sense.diagMap).getLsbD c.channel.val = true := by
        rw [map]
        simp
      exact bit
  · rw [if_neg fun h => other (Option.some.inj h.1)]
    exact ⟨wb, map, rfl⟩

/-! ### Pulses -/

theorem clampInt_mem {lo hi : Int} (h : lo ≤ hi) (v : Int) : lo ≤ within lo hi v ∧ within lo hi v ≤ hi := by
  rw [within]
  omega

/-- A comparator's threshold lies within 2 % and 20 mV of its nominal value. -/
theorem comparatorMv_mem (ch : SenseId) {mv : Int} (h : 0 ≤ mv) :
    mv - (mv / 50 + 20) ≤ comparatorMv ch mv ∧ comparatorMv ch mv ≤ mv + (mv / 50 + 20) := by
  have range := clampInt_mem (lo := -(mv / 50 + 20)) (hi := mv / 50 + 20) (by omega) (Config.pulseError ch.val mv)
  rw [comparatorMv]
  omega

theorem comparatorLevel_high {ch : SenseId} {d : SenseDecl} {mv : Int} (h : d.vHi + (d.vHi / 50 + 20) < mv) :
    comparatorLevel ch d mv = some true := by
  have hi : 0 ≤ d.vHi := by rw [SenseDecl.vHi]; omega
  exact if_pos ((comparatorMv_mem ch hi).2.trans_lt h)

theorem comparatorLevel_low {ch : SenseId} {d : SenseDecl} {mv : Int} (h : mv ≤ d.vHi - (d.vHi / 50 + 20)) (k : mv < d.vLo - (d.vLo / 50 + 20)) :
    comparatorLevel ch d mv = some false := by
  have hi : 0 ≤ d.vHi := by rw [SenseDecl.vHi]; omega
  have lo : 0 ≤ d.vLo := by rw [SenseDecl.vLo]; omega
  refine (if_neg (h.trans (comparatorMv_mem ch hi).1).not_gt).trans (if_pos (k.trans_le (comparatorMv_mem ch lo).1))

section
variable {s : State} {ch : SenseId} {x : TenantId} {d : SenseDecl} (cfg : (s.chan ch).cfg = some (x, d))
include cfg

theorem pulseEdge_still {mv : Int} (still : comparatorLevel ch d mv = none ∨ comparatorLevel ch d mv = some (s.chan ch).high)
    (ts ns window : Nat) : s.pulseEdge ch mv ts ns window = s := by
  rw [State.pulseEdge, cfg]
  dsimp only
  rcases still with h | h
  · rw [h]
    rfl
  · have none : ((some (s.chan ch).high).filter (fun l => l != (s.chan ch).high)) = none := by simp
    rw [h, none]

theorem pulseEdge_moves (live : s.senseLive = true) (mode : d.mode = 3) {mv : Int} {rising : Bool} (level : comparatorLevel ch d mv = some rising)
    (moves : (s.chan ch).high ≠ rising) (ts ns window : Nat) : s.pulseEdge ch mv ts ns window = if s.filterNs ≤ ns then
      s.modChan ch (fun c => if rising ≠ d.falling then
        { c with high := rising, edges := c.edges + 1, waiting := c.waiting ++ [(ts - s.comparatorDelay, s.edgeDue ts)] }
        else { c with high := rising })
      else s.modChan ch (fun c => { c with
        high := rising, glitches := c.glitches + 1, burst := (window, if c.burst.1 = window then c.burst.2 + 1 else 1) }) := by
  have takes : ((some rising).filter (fun l => l != (s.chan ch).high)) = some rising := by
    simp [moves.symm]
  rw [State.pulseEdge, cfg]
  dsimp only
  rw [level, takes]
  dsimp only
  rw [if_pos ⟨live, mode⟩]
  rfl

end

end

end Sys2Proof.Machine
end

section
/-! SUPPORT. Diagnosis, settling and pulses, put together. -/
namespace Sys2Proof.Machine

section
variable {s : State} {ch : SenseId} {x : TenantId} {d : SenseDecl} (live : s.senseLive = true) (cfg : (s.chan ch).cfg = some (x, d))

section
include live cfg

theorem settleComplete_eq (settles : (s.chan ch).state = .settle) (noOpen : (s.chan ch).openDecl = false) (noShort : (s.chan ch).shortDecl = false) :
    s.settleComplete ch = if (s.chan ch).entered + (16 + 24 * (d.divisor - 1)) ≤ s.clock.frame ∧ s.align % d.divisor = 0 then
      s.modChan ch (fun c => { c with state := .run, sample := c.offer, deliveredAt := some s.clock.frame }) else s := by
  rw [State.settleComplete, cfg]
  simp only [live, settles, noOpen, noShort, groupDelay, true_and]

theorem pulseFaultDeclare_eq {reason measure : Nat} {mv : Int} (on : (s.chan ch).excited = true) (mode : d.mode = 3)
    (none : (s.chan ch).pulseFault = 0) (holds : pulseReason ch (s.chan ch) d reason measure mv = true) :
    s.pulseFaultDeclare ch reason measure mv = ((s.modChan ch (fun c => { c with pulseFault := reason })).raiseChan ch 25).recordDiag
      { channel := ch, what := 3, mv := mv, reason := reason } := by
  rw [State.pulseFaultDeclare, cfg]
  exact if_pos ⟨live, on, mode, none, holds⟩

end

theorem pulseReason_glitches (c : SenseChannel) : 16 ≤ c.burst.2 ↔ pulseReason ch c d 1 c.burst.1 0 = true := by
  simp [pulseReason]

theorem pulseReason_range {ms : Nat} {mv : Int} (c : SenseChannel) (long : 10 ≤ ms) (out : 12000 < mv ∨ mv < -300) :
    pulseReason ch c d 3 ms mv = true := by
  simp [pulseReason, long, out]

theorem pulseReason_between {ms : Nat} {mv : Int} (c : SenseChannel) (long : 10 ≤ ms) :
    comparatorLevel ch d mv = none ↔ pulseReason ch c d 2 ms mv = true := by
  simp [pulseReason, long]

theorem diagHeldDue_eq {c : DiagChange} {f : Nat} (live : s.senseLive = true) (held : s.sense.diagHeld = some c) (at_ : s.sense.diagAt = some f) :
    s.diagHeldDue = if f + 10 * s.ff ≤ s.clock.frame then s.writeDiag c else s := by
  rw [State.diagHeldDue, held, at_]
  simp only [live, true_and]

end

/-- Settles O53: each declare and clear is a change of its channel, recorded; an edge is judged by the comparator's level and the filter
time; the held change goes to the log once its 10 s are over. -/
theorem senseDiagnosis : Obligations.SenseDiagnosis := by
  intro ch s x d live cfg
  refine ⟨fun mv ua ms o ho cond on long noOpen noShort => ?_, fun mv ua ms long on declared gone => ?_,
      fun settles noOpen noShort => ⟨fun enough starts => ?_, fun early => ?_⟩,
    fun mv ts ns window mode => ⟨comparatorLevel_high, comparatorLevel_low, fun still => ?_, fun rising level moves => ⟨fun short => ?_,
        fun long falls => ?_,
      fun long counts => ?_⟩⟩,
    ⟨pulseReason_glitches _, fun ms mv long out => pulseReason_range _ long out, fun ms mv long => pulseReason_between _ long⟩,
    fun reason measure mv mode on none holds => ?_, fun mv ms on fault long => ?_, fun c f held at_ => ⟨fun due takes => ?_, fun early => ?_⟩⟩
  · obtain ⟨t, e, spec⟩ := declared_spec s cfg (f := fun c => { c with state := .fault, sample := 0, openDecl := o, shortDecl := !o }) (fun _ => rfl)
      (if o then 23 else 24) { channel := ch, what := if o then 1 else 2, mv := mv, reason := (s.chan ch).pulseFault }
    exact ⟨t, congrArg Host.Outcome.next ((diagDeclare_eq live cfg on o ho cond long noOpen noShort).trans e), spec⟩
  · obtain ⟨f, hf⟩ : ∃ f : SenseChannel → SenseChannel, f = fun c => if c.state = .fault then { c with
        openDecl := false, shortDecl := false, state := .settle, entered := s.clock.frame, sample := 0, seeded := false }
      else { c with openDecl := false, shortDecl := false } := ⟨_, rfl⟩
    obtain ⟨c, hc⟩ : ∃ c : DiagChange, c =
      { channel := ch, what := if (s.chan ch).openDecl = true then 0x81 else 0x82, mv := mv, reason := (s.chan ch).pulseFault } := ⟨_, rfl⟩
    have clears := diagClear_eq live cfg on long declared gone
    rw [← hf, ← hc] at clears
    have fields (y : SenseChannel) : (f y).openDecl = false ∧ (f y).shortDecl = false ∧
        (f y).state = if y.state = .fault then .settle else y.state := by
      rw [hf]
      by_cases h : y.state = .fault
      · simp [h]
      · simp [h]
    obtain ⟨t, e, frame, mine, others⟩ := recordDiag_modChan s ch f c
    obtain ⟨noOpen, noShort, state⟩ := fields (s.chan ch)
    refine ⟨t, congrArg Host.Outcome.next (clears.trans e), others, frame, by rw [mine, noOpen], by rw [mine, noShort], by rw [mine, state],
      fun g at_ soon => ?_⟩
    have recorded := recordDiag_soon (s := s.modChan ch f) at_ soon c
    rw [e, hc] at recorded
    obtain ⟨amended, heldBack⟩ := recorded
    refine ⟨amended, fun other => ?_⟩
    obtain ⟨wb, map, held⟩ := heldBack other
    exact ⟨wb, map, _, held, rfl, rfl, rfl⟩
  · exact congrArg Host.Outcome.next ((settleComplete_eq live cfg settles noOpen noShort).trans (if_pos ⟨enough, starts⟩))
  · exact congrArg Host.Outcome.next ((settleComplete_eq live cfg settles noOpen noShort).trans (if_neg fun h => absurd h.1 early.not_ge))
  · exact congrArg Host.Outcome.next (pulseEdge_still cfg still ts ns window)
  · exact congrArg Host.Outcome.next ((pulseEdge_moves cfg live mode level moves ts ns window).trans (if_neg short.not_ge))
  · refine congrArg Host.Outcome.next (((pulseEdge_moves cfg live mode level moves ts ns window).trans (if_pos long)).trans ?_)
    simp only [ne_eq, falls, not_true_eq_false, if_false]
  · refine congrArg Host.Outcome.next (((pulseEdge_moves cfg live mode level moves ts ns window).trans (if_pos long)).trans ?_)
    simp only [if_pos counts, State.comparatorDelay]
  · obtain ⟨t, e, mine, others, frame, events⟩ := declared_spec s cfg (f := fun c => { c with pulseFault := reason }) (fun _ => rfl) 25
      { channel := ch, what := 3, mv := mv, reason := reason }
    exact ⟨t, congrArg Host.Outcome.next ((pulseFaultDeclare_eq live cfg on mode none holds).trans e), mine, others, frame, events⟩
  · obtain ⟨t, e, frame, mine, others⟩ := recordDiag_modChan s ch (fun c => { c with pulseFault := 0 })
      { channel := ch, what := 0x83, mv := mv, reason := 0 }
    exact ⟨t, congrArg Host.Outcome.next ((if_pos ⟨live, on, fault, long⟩).trans e), mine, others, frame⟩
  · obtain ⟨p, e⟩ := writeDiag_eq s c
    refine ⟨_, p, congrArg Host.Outcome.next (((diagHeldDue_eq live held at_).trans (if_pos due)).trans e), ?_⟩
    rw [if_pos takes]
    rfl
  · exact congrArg Host.Outcome.next ((diagHeldDue_eq live held at_).trans (if_neg early.not_ge))

end Sys2Proof.Machine
end

section
/-! SUPPORT. The ring's entries and events, phase steps and TOD. -/
namespace Sys2Proof.Machine

section
variable (s : State)

/-! ### Entries and events of the ring -/

/-- A ring entry changes the log and the entries' counts alone. -/
theorem ringLog_eq (k : Nat) (kind : Byte) (payload : Word → List Byte) :
    ∃ l w, s.ringLog k kind payload = { s with ring := { s.ring with logs := l }, wb := w } := by
  rw [State.ringLog]
  dsimp only
  split
  · split
    · exact ⟨_, _, by rw [State.logPart_eq]; rfl⟩
    · exact ⟨_, _, by rw [State.logPart_eq]; rfl⟩
  · exact ⟨_, s.wb, rfl⟩

/-- An event of the present, unheld tenants. -/
theorem raiseAll_events {x : TenantId} (present : s.present x = true) (free : (s.tenant x).held = false) (n : Nat) :
    ((s.raiseAll n).tenant x).events = (s.tenant x).events ||| (1#32 <<< n) := by
  rw [State.raiseAll_tenant, if_pos ⟨present, free⟩]

theorem raiseAll_ringLog (n k : Nat) (kind : Byte) (payload : Word → List Byte) : ∃ l w, (s.raiseAll n).ringLog k kind payload =
    { s with tenants := (s.raiseAll n).tenants, ring := { s.ring with logs := l }, wb := w } := by
  obtain ⟨l, w, e⟩ := ringLog_eq (s.raiseAll n) k kind payload
  refine ⟨l, w, e.trans ?_⟩
  rw [State.raiseAll_eq]

/-! ### Gaps of the master ports -/

/-- A port that gaps where it is a running master's. -/
def AudioPort.gapped (x : AudioPort) (master : Bool) : AudioPort := if master = true ∧ x.running = true then { x with gap := true } else x

theorem gapped_twice (x : AudioPort) (master : Bool) : (x.gapped master).gapped master = x.gapped master := by
  by_cases h : master = true ∧ x.running = true
  · rw [AudioPort.gapped, AudioPort.gapped, if_pos h]
    exact if_pos h
  · rw [AudioPort.gapped, AudioPort.gapped, if_neg h, if_neg h]

theorem gapAudio_eq : s.gapAudio = { s with audio := s.gapAudio.audio } := by
  refine foldl_audio (fun s p => ?_) s _
  split <;> rfl

theorem gapAudio_sap (p : SapId) : s.gapAudio.sap p = (s.sap p).gapped (roleMaster (s.portRole p)) := by
  have all (l : List SapId) (u : State) : (l.foldl (fun s p =>
      if roleMaster (s.portRole p) = true ∧ (s.sap p).running = true then s.modSap p (fun x => { x with gap := true }) else s) u).sap p =
      if p ∈ l then (u.sap p).gapped (roleMaster (u.portRole p)) else u.sap p := by
    induction l generalizing u with
    | nil => rfl
    | cons q rest ih =>
      obtain ⟨v, hv⟩ : ∃ v, v = if roleMaster (u.portRole q) = true ∧ (u.sap q).running = true then
        u.modSap q (fun x => { x with gap := true }) else u := ⟨_, rfl⟩
      have role : v.portRole p = u.portRole p := portRole_congr (by rw [hv]; split <;> rfl) p
      have sap : v.sap p = if p = q then (u.sap p).gapped (roleMaster (u.portRole p)) else u.sap p := by
        rw [hv, AudioPort.gapped]
        by_cases e : p = q
        · subst e
          rw [if_pos rfl]
          split
          · rw [modSap_sap, if_pos rfl]
          · rfl
        · rw [if_neg e]
          split
          · rw [modSap_sap, if_neg e]
          · rfl
      rw [List.foldl_cons, ← hv, ih, role, sap]
      by_cases e : p = q
      · rw [if_pos e, gapped_twice, ite_self, if_pos (e ▸ List.mem_cons_self)]
      · have mem : (p ∈ q :: rest) = (p ∈ rest) := propext ⟨fun h => (List.mem_cons.mp h).resolve_left e, List.mem_cons_of_mem q⟩
        simp only [if_neg e, mem]
  exact (all _ s).trans (if_pos (List.mem_finRange p))

/-! ### Channels as a map -/

theorem chanMap_getLsbD (p : SenseChannel → Bool) (ch : SenseId) : (BitVec.ofNat 16 (s.chanMap p)).getLsbD ch.val = p (s.chan ch) := by
  have digits : s.chanMap p = (List.finRange 16).foldl (fun a i => a + (p (s.chan i)).toNat * 2 ^ i.val) 0 := by
    refine List.foldl_ext _ _ _ (fun a i _ => ?_)
    cases p (s.chan i) <;> simp
  have small (i : SenseId) : (p (s.chan i)).toNat < 2 := Bool.toNat_lt _
  rw [BitVec.getLsbD_ofNat, digits, testBit_digit (foldl_digits_digit small ch)]
  simp

/-! ### TOD -/

/-- A step of TOD: its fields, its event, and what it leaves. -/
theorem stepTod_spec (m : Nat) (sec : Word) (fos : Half) : ∃ t,
    s.stepTod m sec fos = t ∧ t = { s with ring := t.ring, tenants := t.tenants, wb := t.wb } ∧
    t.ring.todSeconds = sec ∧ t.ring.todFrame = fos ∧ t.ring.todMarked = true ∧ t.ring.mark = s.ring.mark ∧
    t.ring.todEpoch = s.ring.todEpoch + 1 ∧
    ∀ x, s.present x = true → (s.tenant x).held = false → (t.tenant x).events = (s.tenant x).events |||
      (if s.ring.todMarked = true ∧ (sec.toNat < s.ring.todSeconds.toNat ∨ sec = s.ring.todSeconds ∧ fos.toNat < s.ring.todFrame.toNat)
        then 1#32 <<< 17 else 1#32 <<< 18) := by
  obtain ⟨v, hv⟩ : ∃ v : State, v = s.modRing (fun r => { r with
    todSeconds := sec, todFrame := fos, todMarked := true, todEpoch := r.todEpoch + 1 }) := ⟨_, rfl⟩
  obtain ⟨n, hn⟩ : ∃ n, n = if (decide (sec.toNat < s.ring.todSeconds.toNat) || (decide (sec = s.ring.todSeconds) &&
    decide (fos.toNat < s.ring.todFrame.toNat))) && !(!s.ring.todMarked) then 17 else 18 := ⟨_, rfl⟩
  have step : ∃ p, s.stepTod m sec fos = (v.raiseAll n).ringLog 4 0x17 p := by
    rw [hv, hn, State.stepTod]
    exact ⟨_, rfl⟩
  obtain ⟨p, step⟩ := step
  obtain ⟨l, w, log⟩ := raiseAll_ringLog v n 4 0x17 p
  refine ⟨_, step.trans log, ?_, ?_, ?_, ?_, ?_, ?_, fun x present free => ?_⟩
  · rw [hv]
    rfl
  · rw [hv]
    rfl
  · rw [hv]
    rfl
  · rw [hv]
    rfl
  · rw [hv]
    rfl
  · rw [hv]
    rfl
  · have vPresent : v.present x = true := by
      rw [hv]
      exact (present_congr rfl x).trans present
    have vTenant : v.tenant x = s.tenant x := by rw [hv]; rfl
    have raised := raiseAll_events v vPresent (by rw [vTenant]; exact free) n
    have which : 1#32 <<< n = if s.ring.todMarked = true ∧
        (sec.toNat < s.ring.todSeconds.toNat ∨ sec = s.ring.todSeconds ∧ fos.toNat < s.ring.todFrame.toNat) then 1#32 <<< 17 else 1#32 <<< 18 := by
      rw [hn, apply_ite (1#32 <<< ·)]
      simp only [Bool.not_not, Bool.and_eq_true, Bool.or_eq_true, decide_eq_true_eq, and_comm]
    rw [vTenant, which] at raised
    exact raised

/-- The part once the mark that is due is taken. -/
def State.markTaken (s : State) : State := if s.isMember then s else s.modRing (fun r => { r with mark := none })

theorem markTaken_eq : s.markTaken = { s with ring := { s.ring with mark := if s.isMember = true then s.ring.mark else none } } := by
  rw [State.markTaken]
  split <;> rfl

variable {s}

theorem todMarkApply_eq (run : s.running = true) (strobed : s.clock.strobed = true) {k : TodMark} (due : s.todDue = some k) :
    s.todMarkApply = if s.ring.todMarked = true ∧ s.ring.todSeconds = k.seconds ∧ s.ring.todFrame = k.frame then s.markTaken
      else s.markTaken.stepTod k.m k.seconds k.frame := by
  rw [State.todMarkApply, if_pos ⟨run, strobed⟩, due]
  rfl

theorem todMarkApply_spec (run : s.running = true) (strobed : s.clock.strobed = true) {k : TodMark} (due : s.todDue = some k) :
    ∃ t, s.todMarkApply = t ∧ t = { s with ring := t.ring, tenants := t.tenants, wb := t.wb } ∧
      t.ring.todSeconds = k.seconds ∧ t.ring.todFrame = k.frame ∧ t.ring.todMarked = true ∧
      t.ring.mark = (if s.isMember = true then s.ring.mark else none) ∧
      t.ring.todEpoch = (if s.ring.todMarked = true ∧ s.ring.todSeconds = k.seconds ∧ s.ring.todFrame = k.frame
        then s.ring.todEpoch else s.ring.todEpoch + 1) ∧
      ∀ x, s.present x = true → (s.tenant x).held = false → (t.tenant x).events = (s.tenant x).events |||
        (if s.ring.todMarked = true ∧ s.ring.todSeconds = k.seconds ∧ s.ring.todFrame = k.frame then 0#32
         else if s.ring.todMarked = true ∧ (k.seconds.toNat < s.ring.todSeconds.toNat ∨
           k.seconds = s.ring.todSeconds ∧ k.frame.toNat < s.ring.todFrame.toNat) then 1#32 <<< 17
         else 1#32 <<< 18) := by
  rw [todMarkApply_eq run strobed due, markTaken_eq]
  by_cases same : s.ring.todMarked = true ∧ s.ring.todSeconds = k.seconds ∧ s.ring.todFrame = k.frame
  · simp only [if_pos same]
    obtain ⟨marked, seconds, frame⟩ := same
    exact ⟨_, rfl, rfl, seconds, frame, marked, rfl, rfl, fun x _ _ => (BitVec.or_zero).symm⟩
  · simp only [if_neg same]
    obtain ⟨u, hu⟩ : ∃ u : State, u = { s with ring := { s.ring with mark := if s.isMember = true then s.ring.mark else none } } := ⟨_, rfl⟩
    obtain ⟨t, e, frame, seconds, fos, marked, mark, epoch, events⟩ := stepTod_spec u k.m k.seconds k.frame
    rw [hu] at e frame mark epoch events
    exact ⟨t, e, frame, seconds, fos, marked, mark, epoch, fun x present free => events x ((present_congr rfl x).trans present) free⟩

end

end Sys2Proof.Machine
end

section
/-! SUPPORT. Lanes, phase steps and TOD, put together. -/
namespace Sys2Proof.Machine

section
variable {s : State}

/-- What a part hears on a link of a ring that it is on. -/
theorem laneDown_eq (on : s.isStandalone = false) (up : s.power.state ≠ .por) (l : HeardLink) (silent errors : Nat) :
    s.laneDown l silent errors =
      { s with ring := s.ring.modLink l.link (fun g => g && !(decide (8 ≤ silent) || decide (16 ≤ errors))) (fun v => v || l.otherDown) } :=
  if_pos ⟨on, up⟩

theorem laneDown_lost (on : s.isStandalone = false) (up : s.power.state ≠ .por) (l : HeardLink) {silent errors : Nat}
    (lost : 8 ≤ silent ∨ 16 ≤ errors) : s.laneDown l silent errors =
      { s with ring := s.ring.modLink l.link (fun _ => false) (fun v => v || l.otherDown) } := by
  have bad : (decide (8 ≤ silent) || decide (16 ≤ errors)) = true := by rw [Bool.or_eq_true, decide_eq_true_eq, decide_eq_true_eq]; exact lost
  rw [laneDown_eq on up, bad]
  simp only [Bool.not_true, Bool.and_false]

theorem laneDown_whole (on : s.isStandalone = false) (up : s.power.state ≠ .por) (l : HeardLink) {silent errors : Nat}
    (some : silent < 8) (few : errors < 16) : s.laneDown l silent errors =
      { s with ring := s.ring.modLink l.link (fun g => g) (fun v => v || l.otherDown) } := by
  have good : (decide (8 ≤ silent) || decide (16 ≤ errors)) = false := by
    rw [Bool.or_eq_false_iff, decide_eq_false_iff_not, decide_eq_false_iff_not]
    exact ⟨some.not_ge, few.not_ge⟩
  rw [laneDown_eq on up, good]
  simp only [Bool.not_false, Bool.and_true]

theorem laneUp_eq (on : s.isStandalone = false) (up : s.power.state ≠ .por) (l : HeardLink) {laps idle : Nat} (seen : 2 ≤ laps ∨ 1024 ≤ idle) :
    s.laneUp l laps idle = { s with ring := s.ring.modLink l.link (fun _ => true) (fun v => v && l.otherDown) } := if_pos ⟨on, up, seen⟩

theorem phaseStep_eq (live : s.ringLive = true) (stray : 2 ≤ s.ring.strayLaps) {cycles : Nat} (less : cycles < 7680) :
    s.phaseStep cycles = ({ s with
      clock := { s.clock with added := s.clock.added + cycles }
      ring := { s.ring with
        strayLaps := 0, strobeError := 0, skipDelivery := BitVec.ofNat 16 (s.chanMap (fun c => decide (c.state = .run))) } } : State).gapAudio :=
  if_pos ⟨live, stray, less⟩

end

/-- Settles O54: what each end hears of its links, the frame lengthened with its ports' gaps and misses, and the TOD that is due, with the
step where it differs. -/
theorem ringLanesAndTime : Obligations.RingLanesAndTime := by
  refine ⟨fun silent errors laps idle k287 s on up => ⟨fun lost => ⟨?_, ?_⟩, fun some few => ⟨fun l => ?_, ?_, ?_⟩, fun seen => ⟨?_, ?_⟩,
      fun few short l => ?_⟩,
    fun s => ⟨fun cycles live stray less => ?_, fun cycles few => ?_, fun run strobed => ⟨fun none => ?_, fun k due => ?_⟩⟩⟩
  · exact congrArg Host.Outcome.next (laneDown_lost on up ⟨.up, k287⟩ lost)
  · exact congrArg Host.Outcome.next (laneDown_lost on up ⟨.down, k287⟩ lost)
  · refine congrArg Host.Outcome.next ((laneDown_whole on up ⟨l, false⟩ some few).trans ?_)
    simp only [Bool.or_false]
    cases l <;> rfl
  · refine congrArg Host.Outcome.next ((laneDown_whole on up ⟨.up, true⟩ some few).trans ?_)
    simp only [Bool.or_true]
    rfl
  · refine congrArg Host.Outcome.next ((laneDown_whole on up ⟨.down, true⟩ some few).trans ?_)
    simp only [Bool.or_true]
    rfl
  · exact congrArg Host.Outcome.next (laneUp_eq on up ⟨.up, k287⟩ seen)
  · exact congrArg Host.Outcome.next (laneUp_eq on up ⟨.down, k287⟩ seen)
  · refine congrArg Host.Outcome.next (if_neg ?_)
    rintro ⟨-, -, h⟩
    omega
  · obtain ⟨u, hu⟩ : ∃ u : State, u = { s with
      clock := { s.clock with added := s.clock.added + cycles }
      ring := { s.ring with strayLaps := 0, strobeError := 0,
                            skipDelivery := BitVec.ofNat 16 (s.chanMap (fun c => decide (c.state = .run))) } } := ⟨_, rfl⟩
    have step := phaseStep_eq live stray less
    rw [← hu] at step
    refine ⟨u.gapAudio, congrArg Host.Outcome.next step, ?_, fun ch => ?_, fun p => ?_⟩
    · rw [gapAudio_eq, hu]
    · have ring : u.gapAudio.ring = u.ring := by rw [gapAudio_eq]
      rw [ring, hu]
      exact chanMap_getLsbD s _ ch
    · have role : u.portRole p = s.portRole p := portRole_congr (by rw [hu]) p
      have sap : u.sap p = s.sap p := sap_of_audio (by rw [hu]) p
      rw [gapAudio_sap, role, sap, AudioPort.gapped]
  · refine congrArg Host.Outcome.next (if_neg ?_)
    rintro ⟨-, h, -⟩
    omega
  · refine congrArg Host.Outcome.next ?_
    rw [State.todMarkApply, if_pos ⟨run, strobed⟩, none]
  · obtain ⟨t, e, spec⟩ := todMarkApply_spec run strobed due
    exact ⟨t, congrArg Host.Outcome.next e, spec⟩

end Sys2Proof.Machine
end

section
/-! SUPPORT. Roll call, assignment and fold. -/
namespace Sys2Proof.Machine

/-! ### Roll call -/

section
variable {s : State}

theorem rollcallStart_due (idleSeen : Bool) (ms : Nat) (h : s.ring.retry = true ∧ 1000 ≤ ms ∧ (idleSeen = true ∨ s.foldEnabled = true) ∨
    s.ring.retry = false ∧ (idleSeen = true ∨ s.foldEnabled = true ∧ 500 ≤ ms)) :
    (if s.ring.retry then decide (1000 ≤ ms) && (idleSeen || s.foldEnabled) else idleSeen || (s.foldEnabled && decide (500 ≤ ms))) = true := by
  rcases h with ⟨retry, long, seen⟩ | ⟨first, seen⟩
  · rw [if_pos retry]
    simp [long, seen]
  · rw [if_neg (by rw [first]; decide)]
    simpa using seen

theorem awaitsRoll_of (h : s.ring.roll = .idle ∨ s.ring.roll = .run ∧ s.ring.locked = false ∧ s.ring.retry = true) : s.awaitsRoll = true := by
  rcases h with idle | ⟨run, lost, retry⟩
  · rw [State.awaitsRoll, idle]
    rfl
  · rw [State.awaitsRoll, run, lost, retry]
    rfl

theorem findMaster_none (table : List Word) : ((table.drop 1).find? (fun (w : Word) => w.getLsbD 30)).isSome = true ↔
    ∃ w ∈ table.drop 1, w.getLsbD 30 = true := by
  rw [List.find?_isSome]

section
variable (live : s.ringLive = true) (master : s.isMaster = true) (collects : s.ring.roll = .collect)
include live master collects

theorem collectionLap_alone (fresh : s.ring.conflict = false) {table : List Word} (alone : ∀ w ∈ table.drop 1, w.getLsbD 30 = false)
    (rotation : Nat) :
    s.collectionLap table rotation false = if s.rotationLimit < rotation then
      ({ s with ring := { s.ring with rotation := rotation, roll := .idle, retry := true } } : State).ringLog 0 0x13
        (rollcallPayload 4 table.length 0xff rotation)
      else if s.ring.collected = some table then { s with ring := { s.ring with rotation := rotation, roll := .assign } }
      else { s with ring := { s.ring with rotation := rotation, collected := some table } } := by
  have none : ¬((table.drop 1).find? (fun (w : Word) => w.getLsbD 30)).isSome = true := fun h => by
    obtain ⟨w, mem, bit⟩ := (findMaster_none table).mp h
    rw [alone w mem] at bit
    cases bit
  rw [State.collectionLap, if_pos ⟨live, master, collects⟩]
  refine (if_neg ?_).trans ?_
  · rintro (h | h | h)
    · cases h
    · exact none h
    · exact absurd (fresh.symm.trans h) (by decide)
  · rfl

theorem collectionLap_conflict (fresh : s.ring.conflict = false) {table : List Word} (rotation : Nat) (foreign : Bool)
    (other : foreign = true ∨ (∃ w ∈ table.drop 1, w.getLsbD 30 = true)) : ∃ id, s.collectionLap table rotation foreign =
    ({ s with ring := { s.ring with rotation := rotation, conflict := true, events := s.ring.events ||| (1#32 <<< 16) } } : State).ringLog 0 0x13
      (rollcallPayload 2 table.length id rotation) := by
  have conflicts : foreign = true ∨ ((table.drop 1).find? (fun (w : Word) => w.getLsbD 30)).isSome = true ∨ s.ring.conflict = true :=
    other.imp_right fun h => .inl ((findMaster_none table).mpr h)
  have first : ¬s.ring.conflict = true := by rw [fresh]; decide
  refine ⟨(((table.drop 1).find? (fun (w : Word) => w.getLsbD 30)).map entryId).getD 0xff, ?_⟩
  rw [State.collectionLap, if_pos ⟨live, master, collects⟩]
  exact (if_pos conflicts).trans (if_neg first)

end

/-! ### Assignment -/

/-- The part's own place, taken from an assignment. -/
theorem takeAssignment_eq (table : List Word) : s.takeAssignment table = { s with ring := { s.ring with
    table := table, beta := ((s.assigned table).map entryBeta).getD s.ring.beta
    refused := (s.assigned table).any entryListens && !entryListens s.ownEntry } } := rfl

theorem logFold_eq (s : State) (folded : Bool) (x : Nat) (rotation : Word) : ∃ l w, s.logFold folded x rotation =
    { s with ring := { s.ring with events := s.ring.events ||| (1#32 <<< 15), logs := l }, wb := w } := by
  obtain ⟨l, w, e⟩ := ringLog_eq (s.ringEvent 15) 2 0x15 (fun _ =>
    [BitVec.ofNat 8 ((if folded then 1 else 0) + (if folded && s.farArm x then 2 else 0)), BitVec.ofNat 8 x] ++
      beBytes 4 rotation.toNat ++ beBytes 8 s.foldCounter)
  exact ⟨l, w, e⟩

/-- What an entry in the log, with an event, leaves of the ring. -/
def Ring.placed (r : Ring) : RollPhase × List Word × Bool × Option FoldEnd × Nat × Bool :=
  (r.roll, r.table, r.folded, r.turning, r.beta, r.refused)

theorem ringLog_placed (s : State) (k : Nat) (kind : Byte) (payload : Word → List Byte) :
    (s.ringLog k kind payload).ring.placed = s.ring.placed ∧
    s.ringLog k kind payload = { s with ring := (s.ringLog k kind payload).ring, wb := (s.ringLog k kind payload).wb } := by
  obtain ⟨l, w, e⟩ := ringLog_eq s k kind payload
  rw [e]
  exact ⟨rfl, rfl⟩

theorem ringEvent_placed (s : State) (n : Nat) : (s.ringEvent n).ring.placed = s.ring.placed ∧
    s.ringEvent n = { s with ring := (s.ringEvent n).ring, wb := s.wb } := ⟨rfl, rfl⟩

theorem logFold_placed (s : State) (folded : Bool) (x : Nat) (rotation : Word) : (s.logFold folded x rotation).ring.placed = s.ring.placed ∧
    s.logFold folded x rotation = { s with ring := (s.logFold folded x rotation).ring, wb := (s.logFold folded x rotation).wb } := by
  obtain ⟨l, w, e⟩ := logFold_eq s folded x rotation
  rw [e]
  exact ⟨rfl, rfl⟩

/-- What changes the ring and the log alone and keeps the ring's map. -/
def State.Logs (s t : State) : Prop := t.ring.placed = s.ring.placed ∧ t = { s with ring := t.ring, wb := t.wb }

theorem State.Logs.trans {s t u : State} (h : s.Logs t) (g : t.Logs u) : s.Logs u := by
  obtain ⟨placed, frame⟩ := h
  obtain ⟨placed', frame'⟩ := g
  refine ⟨placed'.trans placed, ?_⟩
  rw [frame', frame]

theorem State.Logs.refl (s : State) : s.Logs s := ⟨rfl, rfl⟩

theorem eventLogged (s : State) (n k : Nat) (kind : Byte) (payload : Word → List Byte) : s.Logs ((s.ringEvent n).ringLog k kind payload) :=
  State.Logs.trans (ringEvent_placed s n) (ringLog_placed (s.ringEvent n) k kind payload)

theorem assignmentLap_master (live : s.ringLive = true) (master : s.isMaster = true) (assigns : s.ring.roll = .assign) {c : List Word}
    (collected : s.ring.collected = some c) (table : List Word) : ∃ x, ({ s.takeAssignment (assignment c) with
      ring := { (s.takeAssignment (assignment c)).ring with roll := .run, folded := s.ring.startedFolded, fold := x } } : State).Logs
        (s.assignmentLap table) := by
  refine ⟨BitVec.ofNat 8 (if s.ring.startedFolded then lastId c else 0), ?_⟩
  obtain ⟨u, hu⟩ : ∃ u : State, u = { s.takeAssignment (assignment c) with
      ring := { (s.takeAssignment (assignment c)).ring with
        roll := .run, folded := s.ring.startedFolded, fold := BitVec.ofNat 8 (if s.ring.startedFolded then lastId c else 0) } } := ⟨_, rfl⟩
  obtain ⟨v, hv⟩ : ∃ v : State, v = if s.ring.folded = s.ring.startedFolded then u
    else u.logFold s.ring.startedFolded (if s.ring.startedFolded then lastId c else 0) (BitVec.ofNat 32 s.ring.rotation) := ⟨_, rfl⟩
  have step : s.assignmentLap table = match firstRefused c (refuseOverlaps [] c) with
      | some id => (v.ringEvent 16).ringLog 0 0x13 (rollcallPayload 3 c.length id s.ring.rotation)
      | none => v.ringLog 0 0x13 (rollcallPayload (if s.ring.startedFolded then 1 else 0) c.length 0xff s.ring.rotation) := by
    rw [State.assignmentLap, if_neg (by rw [live]; decide), if_pos master, assigns, collected, hv, hu]
    rfl
  have folded : u.Logs v := by
    rw [hv]
    split
    · exact .refl u
    · exact logFold_placed ..
  rw [← hu, step]
  split
  · exact folded.trans (eventLogged ..)
  · exact folded.trans (ringLog_placed ..)

theorem assignmentLap_member (live : s.ringLive = true) (member : s.isMaster = false) (table : List Word) :
    (s.takeAssignment table).Logs (s.assignmentLap table) := by
  rw [State.assignmentLap, if_neg (by rw [live]; decide), if_neg (by rw [member]; decide)]
  dsimp only
  split
  · exact eventLogged ..
  · exact .refl _

/-- The listen-only bit of the part's own entry: CODE_C 7. -/
theorem ownEntry_listens (s : State) : entryListens s.ownEntry = decide (s.code 2 = 7#4) := by
  have seven : s.code 2 = 7#4 ↔ (s.code 2).toNat = 7 := by
    rw [← BitVec.toNat_inj]
    rfl
  have flag (b : Bool) (i : Nat) : (if b then 2 ^ i else 0) = b.toNat * 2 ^ i := by cases b <;> simp
  have fold := Bool.toNat_lt s.foldEnabled
  have value : (2 ^ 31 + (if s.isMaster then 2 ^ 30 else 0) + s.ringId * 2 ^ 24 + (s.code 4).toNat / 4 * 2 ^ 22 +
      (if (s.code 2).toNat = 7 then 2 ^ 21 else 0) + (if s.foldEnabled then 2 ^ 20 else 0) +
      (if (s.code 2).toNat = 2 ∨ (s.code 2).toNat = 3 ∨ (s.code 2).toNat = 5 ∨ (s.code 2).toNat = 6 then 2 ^ 19 else 0)) / 2 ^ 21 % 2 =
      (decide ((s.code 2).toNat = 7)).toNat := by
    rw [flag, flag]
    by_cases h : (s.code 2).toNat = 7
    · rw [if_pos h, if_neg (by omega), decide_eq_true h]
      simp only [Bool.toNat_true]
      omega
    · rw [if_neg h, decide_eq_false h]
      simp only [Bool.toNat_false]
      split <;> omega
  rw [entryListens, State.ownEntry, BitVec.getLsbD_ofNat, testBit_digit value]
  simp [seven]

/-! ### Fold -/

theorem masterFold_ended (s : State) (x y rotation : Nat) (long : s.rotationLimit < rotation ∨ s.foldEnabled = false) :
    ∃ t, s.masterFold x y rotation = t ∧ t.ring.roll = .idle ∧ t.ring.retry = true ∧ t = { s with ring := t.ring, wb := t.wb } := by
  rw [State.masterFold]
  by_cases off : s.foldEnabled = false
  · rw [if_pos off]
    exact ⟨_, rfl, rfl, rfl, rfl⟩
  · rw [if_neg off, if_pos (long.resolve_right off)]
    obtain ⟨l, w, e⟩ := ringLog_eq
        ((s.modRing (fun r => { r with rotation := rotation })).modRing (fun r => { r with roll := .idle, retry := true })) 0 0x13
      (rollcallPayload 4 s.ring.table.length 0xff rotation)
    exact ⟨_, e, rfl, rfl, rfl⟩

theorem entryId_lt (w : Word) : entryId w < 64 := (w.extractLsb' 24 6).isLt

theorem mem_between (r : Ring) (x y k : Nat) : k ∈ r.between x y ↔ x < k ∧ k < r.table.length ∧ (k < y ∨ y = 0) := by
  simp only [Ring.between, List.mem_filter, List.mem_range, Bool.and_eq_true, Bool.or_eq_true, decide_eq_true_eq]
  exact and_left_comm

/-- The master of a folded ring: what its entries and events leave. -/
theorem masterFold_spec (s : State) (x y rotation : Nat) (short : rotation ≤ s.rotationLimit) (on : s.foldEnabled = true) :
    ∃ t, s.masterFold x y rotation = t ∧ t.ring.folded = true ∧ t.ring.fold.toNat = s.ring.idAt x ∧ t.ring.roll = s.ring.roll ∧
      t.ring.turning = (if x = 0 then some .near else none) ∧ t.ring.cutOff = s.ring.between x y ∧ t = { s with ring := t.ring, wb := t.wb } := by
  obtain ⟨v, hv⟩ : ∃ v : State, v = { s with ring := { s.ring with
    rotation := rotation, folded := true, fold := BitVec.ofNat 8 (s.ring.idAt x), turning := if x = 0 then some FoldEnd.near else none
    cutOff := s.ring.between x y } } := ⟨_, rfl⟩
  obtain ⟨w, hw⟩ : ∃ w : State, w = if (if x = 0 then some FoldEnd.near else none).isSome = true ∧ s.ring.turning = none then v.ringEvent 15 else v :=
    ⟨_, rfl⟩
  have step : s.masterFold x y rotation = if s.ring.folded then w else w.logFold true (s.ring.idAt x) (BitVec.ofNat 32 rotation) := by
    rw [State.masterFold, if_neg (by rw [on]; decide), if_neg short.not_gt, hw, hv]
    rfl
  have event : ∃ ev, w = { v with ring := { v.ring with events := ev } } := by
    by_cases h : (if x = 0 then some FoldEnd.near else none).isSome = true ∧ s.ring.turning = none
    · exact ⟨_, hw.trans (if_pos h)⟩
    · exact ⟨_, hw.trans (if_neg h)⟩
  obtain ⟨ev, event⟩ := event
  have all : ∃ ev l b, s.masterFold x y rotation = { v with ring := { v.ring with events := ev, logs := l }, wb := b } := by
    rw [step]
    split
    · exact ⟨_, _, _, event⟩
    · obtain ⟨l, b, e⟩ := logFold_eq w true (s.ring.idAt x) (BitVec.ofNat 32 rotation)
      rw [e, event]
      exact ⟨_, _, _, rfl⟩
  obtain ⟨ev', l, b, e⟩ := all
  have id : (BitVec.ofNat 8 (s.ring.idAt x)).toNat = s.ring.idAt x := by
    rw [BitVec.toNat_ofNat]
    exact Nat.mod_eq_of_lt ((entryId_lt _).trans (by decide))
  rw [hv] at e
  exact ⟨_, e, rfl, id, rfl, rfl, rfl, rfl⟩

/-- A member at a fold: where it turns, and has not turned, it turns. -/
theorem foldRing_member (live : s.ringLive = true) (member : s.isMaster = false) (x y rotation : Nat) (idle : Option RingLink) :
    (s.turnsAt idle = none → s.foldRing x y rotation idle = s) ∧
    (∀ e, s.turnsAt idle = some e → s.ring.turning = none → s.foldRing x y rotation idle = { s with ring := { s.ring with
      turning := some e, refLink := if e = .far ∧ s.ring.locked = true then some .down else s.ring.refLink
      events := s.ring.events ||| (1#32 <<< 15) } }) := by
  rw [State.foldRing, if_neg (by rw [live]; decide), if_neg (by rw [member]; decide)]
  refine ⟨fun none => by rw [none], fun e turns fresh => ?_⟩
  rw [turns]
  exact if_neg (by rw [fresh]; exact nofun)

theorem brokenAt_eq (s : State) (l : RingLink) (idle : Option RingLink) :
    (s.brokenAt l idle = true ↔ s.ring.linkWhole l = false ∨ idle = some l) ∧
    (s.brokenAt l idle = false ↔ s.ring.linkWhole l = true ∧ idle ≠ some l) := by
  rw [State.brokenAt]
  cases s.ring.linkWhole l <;> simp

theorem turnsAt_eq (on : s.foldEnabled = true) (idle : Option RingLink) : s.turnsAt idle =
    if s.brokenAt .down idle = true then (if s.brokenAt .up idle = true then none else some .near)
    else if s.brokenAt .up idle = true then some .far else none := by
  rw [State.turnsAt, if_neg (by rw [on]; decide)]
  cases s.brokenAt .down idle <;> cases s.brokenAt .up idle <;> rfl

end

end Sys2Proof.Machine
end

section
/-! SUPPORT. Roll call, put together. -/
namespace Sys2Proof.Machine

section
variable {s : State}

theorem assigned_member (member : s.isMaster = false) (table : List Word) {k : Nat} {w : Word} (position : s.ring.position = some k)
    (entry : table[k - 36]? = some w) : s.assigned table = some w := by
  rw [State.assigned, if_neg (by rw [member]; decide), position]
  exact entry

theorem placed_fields {s t : State} (h : t.ring.placed = s.ring.placed) : t.ring.roll = s.ring.roll ∧ t.ring.table = s.ring.table ∧
    t.ring.folded = s.ring.folded ∧ t.ring.turning = s.ring.turning ∧ t.ring.beta = s.ring.beta ∧ t.ring.refused = s.ring.refused := by
  simpa only [Ring.placed, Prod.mk.injEq] using h

theorem refused_iff (w : Word) : (entryListens w && !entryListens s.ownEntry) = true ↔ s.code 2 ≠ 7#4 ∧ w.getLsbD 21 = true := by
  rw [ownEntry_listens, entryListens]
  simp [and_comm]

end

/-- Settles O55: the master's roll call and what ends it, a member's map, and the turns of a break. -/
theorem ringRollCall : Obligations.RingRollCall := by
  intro s live
  refine ⟨fun idleSeen ms master waits due => ?_, fun table rotation master collects fresh => ⟨fun alone short => ?_, fun alone long => ?_,
      fun foreign other => ?_⟩,
    fun table c master assigns collected => ?_, fun table member => ?_,
    fun x y rotation idle master run => ⟨fun short on => ?_, fun ends => ?_⟩,
    fun x y rotation idle member => ⟨fun off => ?_, fun on fresh => ⟨fun down up other => ?_, fun up down other => ?_,
        fun up down none => ?_, fun up down => ?_⟩⟩⟩
  · exact congrArg Host.Outcome.next (if_pos ⟨live, master, awaitsRoll_of waits, rollcallStart_due idleSeen ms due⟩)
  · refine congrArg Host.Outcome.next (((collectionLap_alone live master collects fresh alone rotation).trans (if_neg short.not_gt)).trans ?_)
    split <;> rfl
  · obtain ⟨l, w, e⟩ := ringLog_eq ({ s with ring := { s.ring with rotation := rotation, roll := .idle, retry := true } } : State) 0 0x13
      (rollcallPayload 4 table.length 0xff rotation)
    exact ⟨_, congrArg Host.Outcome.next (((collectionLap_alone live master collects fresh alone rotation).trans (if_pos long)).trans e), rfl, rfl, rfl⟩
  · obtain ⟨id, step⟩ := collectionLap_conflict live master collects fresh rotation foreign other
    obtain ⟨l, w, e⟩ := ringLog_eq
        ({ s with ring := { s.ring with rotation := rotation, conflict := true, events := s.ring.events ||| (1#32 <<< 16) } } : State) 0 0x13
      (rollcallPayload 2 table.length id rotation)
    have bit : (s.ring.events ||| (1#32 <<< 16)).getLsbD 16 = true := by simp
    exact ⟨_, congrArg Host.Outcome.next (step.trans e), rfl, bit, collects, rfl⟩
  · obtain ⟨x, placed, frame⟩ := assignmentLap_master live master assigns collected table
    obtain ⟨roll, map, folded, -⟩ := placed_fields placed
    exact ⟨_, rfl, roll, map, folded, frame⟩
  · obtain ⟨placed, frame⟩ := assignmentLap_member live member table
    obtain ⟨-, map, -, turning, beta, refused⟩ := placed_fields placed
    refine ⟨_, rfl, map, turning, frame, fun k w position entry => ?_⟩
    have own := assigned_member member table position entry
    rw [takeAssignment_eq, own] at beta refused
    refine ⟨beta, ?_⟩
    rw [refused]
    exact refused_iff w
  · obtain ⟨t, e, folded, fold, roll, turning, cut, frame⟩ := masterFold_spec s x.toNat y.toNat rotation short on
    have step : s.foldRing x.toNat y.toNat rotation idle = s.masterFold x.toNat y.toNat rotation := by
      rw [State.foldRing, if_neg (by rw [live]; decide), if_pos master, if_pos run]
    have zero (v : BitVec 6) : v.toNat = 0 ↔ v = 0 := by rw [← BitVec.toNat_inj]; rfl
    refine ⟨t, congrArg Host.Outcome.next (step.trans e), folded, fold, roll.trans run, ?_, fun k => ?_, frame⟩
    · rw [turning]
      simp only [zero]
    · rw [cut, mem_between, zero]
  · obtain ⟨t, e, spec⟩ := masterFold_ended s x.toNat y.toNat rotation ends
    have step : s.foldRing x.toNat y.toNat rotation idle = s.masterFold x.toNat y.toNat rotation := by
      rw [State.foldRing, if_neg (by rw [live]; decide), if_pos master, if_pos run]
    exact ⟨t, congrArg Host.Outcome.next (step.trans e), spec⟩
  · refine congrArg Host.Outcome.next ((foldRing_member live member x.toNat y.toNat rotation idle).1 ?_)
    rw [State.turnsAt, if_pos off]
  · have turns : s.turnsAt idle = some .near := by
      have whole := (brokenAt_eq s .up idle).2.mpr ⟨up, other⟩
      rw [turnsAt_eq on, if_pos ((brokenAt_eq s .down idle).1.mpr down), if_neg (by rw [whole]; decide)]
    refine congrArg Host.Outcome.next (((foldRing_member live member x.toNat y.toNat rotation idle).2 _ turns fresh).trans ?_)
    rw [if_neg fun h => nomatch h.1]
  · have turns : s.turnsAt idle = some .far := by
      have whole := (brokenAt_eq s .down idle).2.mpr ⟨down, other⟩
      rw [turnsAt_eq on, if_neg (by rw [whole]; decide), if_pos ((brokenAt_eq s .up idle).1.mpr up)]
    refine congrArg Host.Outcome.next (((foldRing_member live member x.toNat y.toNat rotation idle).2 _ turns fresh).trans ?_)
    simp only [true_and]
  · have wholeUp := (brokenAt_eq s .up idle).2.mpr ⟨up, by rw [none]; exact nofun⟩
    have wholeDown := (brokenAt_eq s .down idle).2.mpr ⟨down, by rw [none]; exact nofun⟩
    refine congrArg Host.Outcome.next ((foldRing_member live member x.toNat y.toNat rotation idle).1 ?_)
    rw [turnsAt_eq on, if_neg (by rw [wholeDown]; decide), if_neg (by rw [wholeUp]; decide)]
  · refine congrArg Host.Outcome.next ((foldRing_member live member x.toNat y.toNat rotation idle).1 ?_)
    rw [turnsAt_eq on, if_pos ((brokenAt_eq s .down idle).1.mpr (.inl down)), if_pos ((brokenAt_eq s .up idle).1.mpr (.inl up))]

end Sys2Proof.Machine
end

section
/-! SUPPORT. The message slots at a home visit. -/
namespace Sys2Proof.Machine

/-- What of the ring the message slots leave: its laps, lock, status and map. -/
def Ring.marks (r : Ring) : (Option FoldEnd × Bool × Nat × Nat × Byte) × (Int × Nat × Nat × Bool) × List Word × Bool × RollPhase :=
  ((r.turning, r.visited, r.validLaps, r.missedLaps, r.status), (r.strobeError, r.strayLaps, r.header, r.locked), r.table, r.refused, r.roll)

/-- What the message slots of a home visit leave: the ring's marks, the cells, the straps and the pit's words. -/
def State.lapped (s : State) : ((Option FoldEnd × Bool × Nat × Nat × Byte) × (Int × Nat × Nat × Bool) × List Word × Bool × RollPhase) ×
    Vector CellBuffer 128 × Straps × Sparse (Option (BitVec 39)) :=
  (s.ring.marks, s.ring.cells, s.straps, s.pit.mem)

section
variable (s : State)

theorem lapped_of_through {s t : State} (ring : t.ring = s.ring) (through : t.through = s.through) : t.lapped = s.lapped := by
  have straps : t.straps = s.straps := congrArg (fun z => z.1.1) through
  have mem : t.pit.mem = s.pit.mem := congrArg (fun z => z.2.2.2.2.2) through
  rw [State.lapped, State.lapped, ring, straps, mem]

theorem modRing_lapped {f : Ring → Ring} (marks : ∀ r, (f r).marks = r.marks) (cells : ∀ r, (f r).cells = r.cells) :
    (s.modRing f).lapped = s.lapped := by
  have e : (s.modRing f).lapped = ((f s.ring).marks, (f s.ring).cells, s.straps, s.pit.mem) := rfl
  rw [e, marks, cells]
  rfl

theorem failRwr_ring (b : BenchId) (tag : BitVec 12) (addr : Nat) (code : Byte) : (s.failRwr b tag addr code).ring = s.ring := by
  rw [State.failRwr]
  split
  · rw [raiseOwner_eq_tenants]
    rfl
  · split <;> rfl

theorem endMessage_lapped (m : SentMessage) (reply : Option Byte) : (s.endMessage m reply).lapped = s.lapped :=
  lapped_of_through (endMessage_ring s m reply) (endMessage_through s m reply)

theorem takeLateFail_lapped (m : MessageSlot) : (s.takeLateFail m).lapped = s.lapped := by
  rw [State.takeLateFail]
  exact lapped_of_through (failRwr_ring ..) (failRwr_through ..)

theorem latchWrite_lapped (i : Nat) (w : LatchedWrite) : (s.latchWrite i w).lapped = s.lapped := by
  rw [State.latchWrite]
  split
  · rw [State.queueLateFail]
    split <;> rfl
  · rfl

theorem judgeWrite_lapped (i : Nat) (m : MessageSlot) : (s.judgeWrite i m).2.lapped = s.lapped := by
  rw [State.judgeWrite]
  split
  · rfl
  · split
    · rfl
    · exact latchWrite_lapped ..

theorem judgeSlot_lapped (i : Nat) (m : MessageSlot) : (s.judgeSlot i m).2.lapped = s.lapped := by
  rw [State.judgeSlot]
  split
  · split
    · exact judgeWrite_lapped ..
    · exact takeLateFail_lapped ..
  · rfl

theorem takeReply_lapped (i : Nat) (sent : SentMessage) (m : MessageSlot) : (s.takeReply i sent m).2.lapped = s.lapped := by
  obtain ⟨u, hu⟩ : ∃ u, u = s.modRing (fun r => { r with slots := vmod r.slots i (fun _ => none) }) := ⟨_, rfl⟩
  have freed : u.lapped = s.lapped := by rw [hu]; rfl
  rw [State.takeReply, ← hu, ← freed]
  split
  · exact endMessage_lapped ..
  · split <;> exact endMessage_lapped ..

theorem nextMessage_lapped {s t : State} {n : MessageSlot} {m : SentMessage} (h : s.nextMessage = some (n, m, t)) :
    t.lapped = s.lapped ∧ t.ring.slots = s.ring.slots := by
  rw [State.nextMessage] at h
  split at h
  · cases h
    exact ⟨rfl, rfl⟩
  · split at h
    · cases h
    · cases h
      exact ⟨rfl, rfl⟩

/-! ### What a slot's turn changes of the slots in flight -/

theorem judgeSlot_slots (i : Nat) (m : MessageSlot) : (s.judgeSlot i m).2.ring.slots = s.ring.slots := by
  have latch (w : LatchedWrite) : (s.latchWrite i w).ring.slots = s.ring.slots := by
    rw [State.latchWrite]
    split
    · rw [State.queueLateFail]
      split <;> rfl
    · rfl
  have write : (s.judgeWrite i m).2.ring.slots = s.ring.slots := by
    rw [State.judgeWrite]
    split
    · rfl
    · split
      · rfl
      · exact latch _
  have fail : (s.takeLateFail m).ring.slots = s.ring.slots := by
    rw [State.takeLateFail, failRwr_ring]
  rw [State.judgeSlot]
  split
  · split
    · exact write
    · exact fail
  · rfl

theorem takeReply_slots (i : Nat) (sent : SentMessage) (m : MessageSlot) :
    (s.takeReply i sent m).2.ring.slots = vmod s.ring.slots i (fun _ => none) := by
  obtain ⟨u, hu⟩ : ∃ u, u = s.modRing (fun r => { r with slots := vmod r.slots i (fun _ => none) }) := ⟨_, rfl⟩
  have freed : u.ring.slots = vmod s.ring.slots i (fun _ => none) := by rw [hu]; rfl
  rw [State.takeReply, ← hu, ← freed]
  split
  · exact congrArg Ring.slots (endMessage_ring ..)
  · split <;> exact congrArg Ring.slots (endMessage_ring ..)

/-- One slot at a home visit: what it leaves, and the other slots in flight. -/
theorem visitSlot_keeps (i : Nat) (m : MessageSlot) (inserted : Bool) : (s.visitSlot i m inserted).2.2.lapped = s.lapped ∧
    ∀ k, k ≠ i → vget (s.visitSlot i m inserted).2.2.ring.slots k none = vget s.ring.slots k none := by
  obtain ⟨a, ha⟩ : ∃ a, a = s.judgeSlot i m := ⟨_, rfl⟩
  have lapped : a.2.lapped = s.lapped := by rw [ha]; exact judgeSlot_lapped ..
  have slots : a.2.ring.slots = s.ring.slots := by rw [ha]; exact judgeSlot_slots ..
  rw [State.visitSlot, ← ha, ← lapped, ← slots]
  dsimp only
  split
  · next sent _ =>
    refine ⟨takeReply_lapped .., fun k h => ?_⟩
    dsimp only
    rw [takeReply_slots, vget_vmod_of_ne _ _ _ h.symm]
  · split
    · split
      · exact ⟨rfl, fun _ _ => rfl⟩
      · next n sent u h =>
        obtain ⟨keeps, same⟩ := nextMessage_lapped h
        refine ⟨keeps, fun k h => ?_⟩
        have filled : (u.modRing (fun r => { r with slots := vmod r.slots i (fun _ => some sent) })).ring.slots =
          vmod u.ring.slots i (fun _ => some sent) := rfl
        dsimp only
        rw [filled, same, vget_vmod_of_ne _ _ _ h.symm]
    · exact ⟨rfl, fun _ _ => rfl⟩

theorem visitSlots_lapped (ms : List MessageSlot) (i : Nat) (inserted : Bool) : (s.visitSlots i inserted ms).2.lapped = s.lapped := by
  induction ms generalizing s i inserted with
  | nil => rfl
  | cons m rest ih =>
    rw [State.visitSlots]
    exact (ih ..).trans (visitSlot_keeps s i m inserted).1

/-- A slot with a WRITE to this part, whole and without a reply. -/
def State.addresses (s : State) (m : MessageSlot) : Prop :=
  m.clean = true ∧ m.kind = 1 ∧ m.addressee = s.ringId ∧ m.replied = false ∧ m.w3.extractLsb' 0 8 = m.crc

theorem visitSlot_replies {i : Nat} {m : MessageSlot} (writes : s.addresses m) (free : vget s.ring.slots i none = none) (inserted : Bool) :
    ∃ code, (s.visitSlot i m inserted).1 = m.reply code := by
  obtain ⟨clean, kind, addressee, replied, crc⟩ := writes
  have judged : s.judgeSlot i m = (m.reply (s.judgeWrite i m).1, (s.judgeWrite i m).2) := by
    rw [State.judgeSlot, if_pos ⟨clean, .inl kind, addressee, replied, crc⟩, if_pos kind]
  have still : vget (s.judgeWrite i m).2.ring.slots i none = none := by
    have slots := judgeSlot_slots s i m
    rw [judged] at slots
    rw [slots]
    exact free
  refine ⟨(s.judgeWrite i m).1, ?_⟩
  rw [State.visitSlot, judged]
  dsimp only
  rw [still]
  dsimp only
  have busy : ¬((m.reply (s.judgeWrite i m).1).clean = true ∧ (m.reply (s.judgeWrite i m).1).kind = 0 ∧ inserted = false) := fun h => by
    have same : (m.reply (s.judgeWrite i m).1).kind = m.kind := rfl
    rw [same, kind] at h
    exact absurd h.2.1 (by decide)
  rw [if_neg busy]

theorem ringId_congr {s t : State} (h : t.straps = s.straps) : t.ringId = s.ringId := by
  rw [State.ringId, State.ringId, code_congr h, code_congr h]

/-- Each WRITE to this part in a slot that it has nothing in flight in gets its reply. -/
theorem visitSlots_replies (ms : List MessageSlot) (n j : Nat) (inserted : Bool) {m : MessageSlot} (at_ : ms[j]? = some m) (writes : s.addresses m)
    (free : vget s.ring.slots (n + j) none = none) : ∃ code, (s.visitSlots n inserted ms).1[j]? = some (m.reply code) := by
  induction ms generalizing s n j inserted with
  | nil => cases at_
  | cons a rest ih =>
    obtain ⟨lapped, others⟩ := visitSlot_keeps s n a inserted
    rw [State.visitSlots]
    cases j with
    | zero =>
      cases at_
      obtain ⟨code, e⟩ := visitSlot_replies s writes free inserted
      exact ⟨code, congrArg some e⟩
    | succ j =>
      have straps : (s.visitSlot n a inserted).2.2.straps = s.straps := congrArg (fun z => z.2.2.1) lapped
      refine ih (s.visitSlot n a inserted).2.2 (n + 1) j _ at_ ?_ ?_
      · rw [State.addresses, ringId_congr straps]
        exact writes
      · have shift : n + 1 + j = n + (j + 1) := by omega
        rw [shift, others _ (by omega)]
        exact free

theorem visitMessages_lapped (l : Lap) : (s.visitMessages l).2.lapped = s.lapped := visitSlots_lapped ..

theorem visitMessages_replies (l : Lap) (i : Fin 8) {m : MessageSlot} (at_ : l.slots[i] = m) (writes : s.addresses m)
    (free : s.ring.slots[i] = none) : ∃ code, (s.visitMessages l).1[i] = m.reply code := by
  have listed : l.slots.toList[i.val]? = some m := by
    rw [Vector.getElem?_toList, ← at_]
    simp
  have none : vget s.ring.slots (0 + i.val) none = none := by
    rw [Nat.zero_add, vget, dif_pos i.isLt]
    exact free
  obtain ⟨code, e⟩ := visitSlots_replies s l.slots.toList 0 i.val false listed writes none
  refine ⟨code, ?_⟩
  have get : (s.visitMessages l).1[i] = (s.visitSlots 0 false l.slots.toList).1.getD i.val MessageSlot.freed := by
    rw [State.visitMessages]
    simp
  rw [get, List.getD_eq_getElem?_getD, e]
  rfl

end

end Sys2Proof.Machine
end

section
/-! SUPPORT. Home visits. -/
namespace Sys2Proof.Machine

/-! ### The cells of a RUN lap -/

section
variable (s : State)

/-- A cell's buffer after the positions of a lap: those of its own alone count. -/
theorem readAll_getElem (sent : Vector CellArrival 92) (l : List (Nat × Nat)) (bs : Vector CellBuffer 128) (c : Fin 128) :
    (l.foldl (fun bs p => if 36 ≤ p.2 then vmod bs p.1 (fun c => c.take (vget sent (p.2 - 36) .error)) else bs) bs)[c] =
      (l.filter (fun p => decide (p.1 = c.val))).foldl (fun x p => if 36 ≤ p.2 then x.take (vget sent (p.2 - 36) .error) else x) bs[c] := by
  induction l generalizing bs with
  | nil => rfl
  | cons p rest ih =>
    rw [List.foldl_cons, ih, List.filter_cons]
    by_cases mine : p.1 = c.val
    · rw [if_pos (decide_eq_true mine), List.foldl_cons]
      split
      · rw [vmod_getElem, if_pos mine.symm]
      · rfl
    · rw [if_neg (c := decide (p.1 = c.val) = true) (by simpa using mine)]
      split
      · rw [vmod_getElem, if_neg fun h => mine h.symm]
      · rfl

/-- The entries of a map that meet one of two conditions, both of which the only one of them meets. -/
theorem filter_of_only {α : Type} {l : List α} {x : α} (p q : α → Bool) (only : l.filter (fun y => p y || q y) = [x]) (hp : p x = true) :
    l.filter p = [x] := by
  have sub : l.filter p = (l.filter (fun y => p y || q y)).filter p := by
    rw [List.filter_filter]
    refine List.filter_congr fun y _ => ?_
    cases p y <;> rfl
  rw [sub, only, List.filter_cons, if_pos hp]
  rfl

variable {s}

/-- The position of another part's cell goes into that cell's buffer. -/
theorem readCells_at (plain : s.isMaster = false) (cells : Vector CellArrival 92) (c : Fin 128) (i : Fin 92) (other : s.writesCell c.val = false)
    (only : (physicalMap s.ring.table).filter (fun p => decide (p.1 = c.val) || decide (p.2 = 36 + i.val)) = [(c.val, 36 + i.val)]) :
    (s.readCells (s.sentCells cells))[c] = (s.ring.cells[c]).take cells[i] := by
  have byCell := filter_of_only (fun p : Nat × Nat => decide (p.1 = c.val)) (fun p => decide (p.2 = 36 + i.val)) only (decide_eq_true rfl)
  have byPosition : (physicalMap s.ring.table).filter (fun p : Nat × Nat => decide (p.2 = 36 + i.val)) = [(c.val, 36 + i.val)] := by
    refine filter_of_only (fun p : Nat × Nat => decide (p.2 = 36 + i.val)) (fun p => decide (p.1 = c.val)) ?_ (decide_eq_true rfl)
    simp only [Bool.or_comm] at only ⊢
    exact only
  have found : (physicalMap s.ring.table).find? (fun p => decide (p.2 = 36 + i.val)) = some (c.val, 36 + i.val) := by
    rw [← List.head?_filter, byPosition]
    rfl
  have relayed : vget (s.sentCells cells) (36 + i.val - 36) .error = cells[i] := by
    rw [Nat.add_sub_cancel_left, vget, dif_pos i.isLt, State.sentCells, Vector.getElem_mapIdx, found]
    dsimp only
    rw [other, plain]
    rfl
  rw [State.readCells, readAll_getElem, byCell, List.foldl_cons, List.foldl_nil, if_pos (Nat.le_add_right 36 i.val), relayed]

variable (s)

/-! ### A member's lap -/

/-- The lap that goes out has its messages handled. -/
def State.Answers (s t : State) (l : Lap) : Prop :=
  ∀ (i : Fin 8) (m : MessageSlot), l.slots[i] = m → s.addresses m → s.ring.slots[i] = none →
    ∃ (out : Lap) (code : Byte), t.ring.sent = some out ∧ out.slots[i] = m.reply code

theorem visitMessages_answers (l : Lap) {t : State} {out : Lap} (sent : t.ring.sent = some out) (slots : out.slots = (s.visitMessages l).1) :
    s.Answers t l := fun i m at_ writes free => by
  obtain ⟨code, e⟩ := visitMessages_replies s l i at_ writes free
  exact ⟨out, code, sent, by rw [slots, e]⟩

theorem visitCells_eq (l : Lap) : s.visitCells l = (s.sentCells l.cells,
    { s with ring := { s.ring with cells := if s.ring.locked then s.readCells (s.sentCells l.cells) else s.ring.cells } }) := by
  rw [State.visitCells]
  cases h : s.ring.locked <;> rfl

theorem lapped_fields {s t : State} (h : t.lapped = s.lapped) : t.ring.marks = s.ring.marks ∧ t.ring.cells = s.ring.cells ∧
    t.straps = s.straps ∧ t.pit.mem = s.pit.mem := by
  simpa only [State.lapped, Prod.mk.injEq] using h

theorem marks_fields {r q : Ring} (h : q.marks = r.marks) : (q.turning = r.turning ∧ q.visited = r.visited ∧ q.validLaps = r.validLaps ∧
    q.missedLaps = r.missedLaps ∧ q.status = r.status) ∧ (q.strobeError = r.strobeError ∧ q.strayLaps = r.strayLaps ∧ q.header = r.header ∧
    q.locked = r.locked) ∧ q.table = r.table ∧ q.refused = r.refused ∧ q.roll = r.roll := by
  simpa only [Ring.marks, Prod.mk.injEq] using h

/-- What a home visit leaves of a lap: the messages answered, the marks kept, and without ring lock the cells. -/
structure State.Visits (s t : State) (l : Lap) : Prop where
  answers : s.Answers t l
  marks : t.ring.marks = s.ring.marks
  straps : t.straps = s.straps
  mem : t.pit.mem = s.pit.mem
  unlocked : s.ring.locked = false → t.ring.cells = s.ring.cells

/-- A lap's cells read into their buffers. -/
def State.Reads (s t : State) (l : Lap) : Prop :=
  ∀ (c : Fin 128) (i : Fin 92), s.writesCell c.val = false →
    (physicalMap s.ring.table).filter (fun p => decide (p.1 = c.val) || decide (p.2 = 36 + i.val)) = [(c.val, 36 + i.val)] →
    t.ring.cells[c] = (s.ring.cells[c]).take l.cells[i]

theorem memberLap_visits (l : Lap) (collects : Bool) : s.Visits (s.memberLap l collects) l := by
  obtain ⟨m, hm⟩ : ∃ m, m = s.visitMessages l := ⟨_, rfl⟩
  obtain ⟨marks, cells, straps, mem⟩ := lapped_fields (visitMessages_lapped s l)
  rw [← hm] at marks cells straps mem
  have locked : m.2.ring.locked = s.ring.locked := (marks_fields marks).2.1.2.2.2
  rw [State.memberLap, ← hm]
  dsimp only
  split
  · exact ⟨visitMessages_answers s l rfl (by rw [← hm]), marks, straps, mem, fun _ => cells⟩
  · split
    · rw [visitCells_eq]
      refine ⟨visitMessages_answers s l rfl (by rw [← hm]), marks, straps, mem, fun free => ?_⟩
      have kept : (if m.2.ring.locked then m.2.readCells (m.2.sentCells l.cells) else m.2.ring.cells) = m.2.ring.cells :=
        if_neg (by rw [locked, free]; decide)
      exact kept.trans cells
    · exact ⟨visitMessages_answers s l rfl (by rw [← hm]), marks, straps, mem, fun _ => cells⟩

theorem writesCell_congr {s t : State} (straps : t.straps = s.straps) (refused : t.ring.refused = s.ring.refused) (c : Nat) :
    t.writesCell c = s.writesCell c := by
  have count : t.cellCount = s.cellCount := by rw [State.cellCount, State.cellCount, code_congr straps]
  have base : t.cellBase = s.cellBase := by rw [State.cellBase, State.cellBase, count, ringId_congr straps]
  rw [State.writesCell, State.writesCell, refused, State.ownsCell, State.ownsCell, isMaster_congr straps, code_congr straps, base, count]

theorem memberLap_reads (plain : s.isMaster = false) (lock : s.ring.locked = true) (run : s.ring.status.getLsbD 7 = true) (l : Lap) :
    s.Reads (s.memberLap l false) l := fun c i other only => by
  obtain ⟨m, hm⟩ : ∃ m, m = s.visitMessages l := ⟨_, rfl⟩
  obtain ⟨marks, cells, straps, mem⟩ := lapped_fields (visitMessages_lapped s l)
  rw [← hm] at marks cells straps mem
  obtain ⟨-, ⟨-, -, -, locked⟩, table, refused, -⟩ := marks_fields marks
  have bit : statusBit s.ring.status 7 = true := run
  have read : (s.memberLap l false).ring.cells = m.2.readCells (m.2.sentCells l.cells) := by
    rw [State.memberLap, ← hm, if_neg Bool.false_ne_true, if_pos bit, visitCells_eq]
    exact if_pos (locked.trans lock)
  have writes : m.2.writesCell c.val = false := (writesCell_congr straps refused _).trans other
  rw [read, readCells_at ((isMaster_congr straps).trans plain) l.cells c i writes (by rw [table]; exact only), cells]

/-! ### The header -/

/-- What a header leaves for the lap behind it: the slots in flight too. -/
def State.headed (s : State) := (s.lapped, s.ring.slots)

theorem seeFold_headed (f : Byte) : (s.seeFold f).headed = s.headed := by
  obtain ⟨v, hv⟩ : ∃ v : State, v = { s with ring := { s.ring with fold := f, folded := f.getLsbD 7 }, freeIdx := s.freeIdx + 1 } := ⟨_, rfl⟩
  have step : s.seeFold f = if s.ring.folded = f.getLsbD 7 then { s with ring := { s.ring with fold := f, folded := f.getLsbD 7 } }
      else v.logFold (f.getLsbD 7) (f.toNat % 64) (Config.openWord s.freeIdx) := by
    rw [hv]
    rfl
  rw [step]
  split
  · rfl
  · obtain ⟨l, w, e⟩ := logFold_eq v (f.getLsbD 7) (f.toNat % 64) (Config.openWord s.freeIdx)
    rw [e, hv]
    rfl

theorem takeRingStart_headed : s.takeRingStart.headed = s.headed := by
  rw [State.takeRingStart]
  split
  · split
    · rfl
    · split
      · next f _ _ =>
        obtain ⟨a, e⟩ : ∃ a, (s.modRing (fun r => { r with startFrame := some f })).startPorts (s.clock.frame + (f - s.ring.counter)) =
          { s.modRing (fun r => { r with startFrame := some f }) with audio := a } := ⟨_, startPorts_eq ..⟩
        rw [e]
        rfl
      · rfl
  · rfl

theorem seeConflict_sent : s.seeConflict.lapped = s.lapped ∧ s.seeConflict.ring.sent = s.ring.sent := by
  have conflict (heard id rotation : Nat) : (s.rollConflict heard id rotation).lapped = s.lapped ∧
      (s.rollConflict heard id rotation).ring.sent = s.ring.sent := by
    rw [State.rollConflict]
    split
    · exact ⟨rfl, rfl⟩
    · obtain ⟨l, w, e⟩ := ringLog_eq ((s.modRing (fun r => { r with conflict := true })).ringEvent 16) 0 0x13 (rollcallPayload 2 heard id rotation)
      rw [e]
      exact ⟨rfl, rfl⟩
  rw [State.seeConflict]
  split
  · exact conflict ..
  · exact ⟨rfl, rfl⟩

/-- A member once it has taken a valid header. -/
def State.header (s : State) (l : Lap) (err : Int) : State :=
  ((s.modRing (fun r => (r.takeHeader l).judgeStrobe err)).seeFold (l.h3.extractLsb' 0 8)).takeRingStart

theorem header_headed (l : Lap) (err : Int) :
    (s.header l err).headed = (s.modRing (fun r => (r.takeHeader l).judgeStrobe err)).headed := by
  rw [State.header, takeRingStart_headed, seeFold_headed]

theorem header_fields (l : Lap) (err : Int) : (s.header l err).ring.marks = ((s.ring.takeHeader l).judgeStrobe err).marks ∧
    (s.header l err).ring.cells = s.ring.cells ∧ (s.header l err).straps = s.straps ∧ (s.header l err).pit.mem = s.pit.mem ∧
    (s.header l err).ring.slots = s.ring.slots := by
  have h := header_headed s l err
  simp only [State.headed, State.lapped, Prod.mk.injEq] at h
  obtain ⟨⟨marks, cells, straps, mem⟩, slots⟩ := h
  exact ⟨marks, cells, straps, mem, slots⟩

/-- A member's visit with a valid header. -/
theorem memberVisit_spec (l : Lap) (err : Int) : s.Answers (s.memberVisit l err) l ∧
    (s.memberVisit l err).ring.marks = ((s.ring.takeHeader l).judgeStrobe err).marks ∧ (s.memberVisit l err).pit.mem = s.pit.mem ∧
    (s.ring.locked = false → (s.memberVisit l err).ring.cells = s.ring.cells) ∧
    (s.isMaster = false → s.ring.locked = true → (l.h3.extractLsb' 8 8).getLsbD 7 = true → (l.h3.extractLsb' 8 8).getLsbD 4 = false →
      s.Reads (s.memberVisit l err) l) := by
  obtain ⟨u, hu⟩ : ∃ u, u = s.header l err := ⟨_, rfl⟩
  obtain ⟨marks, cells, straps, mem, slots⟩ := header_fields s l err
  rw [← hu] at marks cells straps mem slots
  obtain ⟨⟨-, -, -, -, status⟩, ⟨-, -, -, locked⟩, table, refused, -⟩ := marks_fields marks
  obtain ⟨b, hb⟩ : ∃ b, b = (statusBit u.ring.status 4 && decide ((u.ring.status.extractLsb' 0 2) = 1#2)) := ⟨_, rfl⟩
  have step : s.memberVisit l err = (u.memberLap l b).seeConflict := by rw [hb, hu]; rfl
  obtain ⟨seen, sent⟩ := seeConflict_sent (u.memberLap l b)
  obtain ⟨seenMarks, seenCells, seenStraps, seenMem⟩ := lapped_fields seen
  have visits := memberLap_visits u l b
  rw [step]
  refine ⟨fun i m at_ writes free => ?_, seenMarks.trans (visits.marks.trans marks), seenMem.trans (visits.mem.trans mem), fun free => ?_,
    fun plain lock run quiet c i other only => ?_⟩
  · rw [sent]
    refine visits.answers i m at_ ?_ (by rw [slots]; exact free)
    rw [State.addresses, ringId_congr straps]
    exact writes
  · rw [seenCells, visits.unlocked (locked.trans free), cells]
  · have still : b = false := by
      rw [hb, status]
      have bit : statusBit ((s.ring.takeHeader l).judgeStrobe err).status 4 = false := quiet
      rw [bit]
      rfl
    have writes : u.writesCell c.val = s.writesCell c.val := writesCell_congr straps refused _
    have map : u.ring.table = s.ring.table := table
    rw [still] at seenCells ⊢
    have read := memberLap_reads u ((isMaster_congr straps).trans plain) (locked.trans lock)
        (by rw [status]; exact run) l c i (by rw [writes]; exact other)
      (by rw [map]; exact only)
    rw [seenCells, read, cells]

/-! ### The master's lap -/

theorem sendLap_visits (n : Nat) (l : Lap) : s.Visits (s.sendLap n l) l := by
  obtain ⟨m, hm⟩ : ∃ m, m = s.visitMessages l := ⟨_, rfl⟩
  obtain ⟨marks, cells, straps, mem⟩ := lapped_fields (visitMessages_lapped s l)
  rw [← hm] at marks cells straps mem
  have locked : m.2.ring.locked = s.ring.locked := (marks_fields marks).2.1.2.2.2
  rw [State.sendLap, ← hm]
  split
  · rw [visitCells_eq]
    refine ⟨visitMessages_answers s l rfl (by rw [← hm]; rfl), marks, straps, mem, fun free => ?_⟩
    have kept : (if m.2.ring.locked then m.2.readCells (m.2.sentCells l.cells) else m.2.ring.cells) = m.2.ring.cells :=
      if_neg (by rw [locked, free]; decide)
    exact kept.trans cells
  · exact ⟨visitMessages_answers s l rfl (by rw [← hm]; rfl), marks, straps, mem, fun _ => cells⟩

end

end Sys2Proof.Machine
end

section
/-! SUPPORT. A lap on a link, and ring lock. -/
namespace Sys2Proof.Machine

/-- A ring that a lap without a valid header has visited. -/
def Ring.visitMissed (r : Ring) : Ring := ({ r with visited := true } : Ring).missHeader

section
variable (s : State)

/-! ### A lap on a link -/

/-- An end of a break turns no more at most. -/
theorem unturn_eq (link : RingLink) (l : Lap) : ∃ e, s.unturn link l = { s with ring := { s.ring with turning := e } } := by
  rw [State.unturn]
  split <;> exact ⟨_, rfl⟩

theorem unturn_cases (link : RingLink) (l : Lap) : s.unturn link l =
    if s.isMember = true ∧ link = .up ∧ validHeader l = true ∧ l.h3.getLsbD 12 = true ∧
        (s.ring.status.getLsbD 4 = false ∨ s.ring.validLaps = 0) ∧
        (s.ring.turning = some .near ∧ s.ring.linkWhole .down = true ∨ s.ring.turning = some .far ∧ s.ring.linkWhole .up = true)
      then { s with ring := { s.ring with turning := none } } else s := by
  have roll : s.ring.newRoll link l = true ↔ link = .up ∧ validHeader l = true ∧ l.h3.getLsbD 12 = true ∧
      (s.ring.status.getLsbD 4 = false ∨ s.ring.validLaps = 0) := by
    simp only [Ring.newRoll, statusBit, Bool.and_eq_true, Bool.or_eq_true, Bool.not_eq_true', decide_eq_true_eq, and_assoc]
  have ends : s.unturns link l = true ↔ s.ring.newRoll link l = true ∧
      (s.ring.turning = some .near ∧ s.ring.linkWhole .down = true ∨ s.ring.turning = some .far ∧ s.ring.linkWhole .up = true) := by
    rw [State.unturns, Bool.and_eq_true]
    refine and_congr_right fun _ => ?_
    cases s.ring.turning with
    | none => simp
    | some e => cases e <;> simp
  rw [State.unturn]
  refine if_congr ?_ rfl rfl
  rw [ends, roll]
  simp only [and_assoc]

/-- Without the first lap of a new roll call nothing turns back. -/
theorem unturn_stays (link : RingLink) {l : Lap} (h : validHeader l = false ∨ l.h3.getLsbD 12 = false) : s.unturn link l = s := by
  rw [unturn_cases, if_neg]
  rintro ⟨-, -, valid, roll, -⟩
  rcases h with h | h
  · rw [h] at valid
    cases valid
  · rw [h] at roll
    cases roll

variable {s}

section
variable {link : RingLink} {chars : LapChars} {l : Lap} {err : Int}

theorem lapArrives_away (away : link ≠ s.homeLink) :
    s.lapArrives link chars l err = { s with ring := { s.ring with relayed := some (s.clock.frame, chars) } } := if_neg away

variable (home : link = s.homeLink)
include home

theorem lapArrives_member (plain : s.isMaster = false) (valid : validHeader l = true) :
    s.lapArrives link chars l err = (s.modRing (fun r => { r with visited := true })).memberVisit l err := by
  rw [State.lapArrives, if_pos home]
  exact (if_neg fun h => absurd (plain.symm.trans h) (by decide)).trans (if_pos valid)

theorem lapArrives_missed (plain : s.isMaster = false) (invalid : validHeader l = false) :
    s.lapArrives link chars l err = (s.modRing Ring.visitMissed).memberLap l false := by
  rw [State.lapArrives, if_pos home]
  exact (if_neg fun h => absurd (plain.symm.trans h) (by decide)).trans (if_neg (by rw [invalid]; decide))

theorem lapArrives_master (master : s.isMaster = true) :
    s.lapArrives link chars l err = (s.modRing (fun r => { r with visited := true }.judgeReturn l err)).sendLap (s.clock.frame + 1) l := by
  rw [State.lapArrives, if_pos home]
  exact if_pos master

/-- A lap at its home visit: its messages answered, the turning kept. -/
theorem lapArrives_answers : s.Answers (s.lapArrives link chars l err) l ∧ (s.lapArrives link chars l err).ring.turning = s.ring.turning := by
  cases master : s.isMaster with
  | true =>
    rw [lapArrives_master home master]
    have visits := sendLap_visits (s.modRing (fun r => { r with visited := true }.judgeReturn l err)) (s.clock.frame + 1) l
    exact ⟨visits.answers, (marks_fields visits.marks).1.1⟩
  | false =>
    cases valid : validHeader l with
    | true =>
      rw [lapArrives_member home master valid]
      obtain ⟨answers, marks, -⟩ := memberVisit_spec (s.modRing (fun r => { r with visited := true })) l err
      exact ⟨answers, (marks_fields marks).1.1⟩
    | false =>
      rw [lapArrives_missed home master valid]
      have visits := memberLap_visits (s.modRing Ring.visitMissed) l false
      exact ⟨visits.answers, (marks_fields visits.marks).1.1⟩

/-- A lap whose header is not valid. -/
theorem lapArrives_invalid (invalid : validHeader l = false) : ∃ t, s.lapArrives link chars l err = t ∧ t.ring.visited = true ∧
    t.ring.validLaps = 0 ∧ t.ring.missedLaps = s.ring.missedLaps + 1 ∧ t.ring.locked = s.ring.locked ∧
    t.ring.strayLaps = (if s.isMaster = true ∧ 40 < err.natAbs then s.ring.strayLaps + 1 else 0) ∧
    (s.ring.locked = false → t.ring.cells = s.ring.cells) := by
  cases master : s.isMaster with
  | true =>
    rw [lapArrives_master home master]
    have visits := sendLap_visits (s.modRing (fun r => { r with visited := true }.judgeReturn l err)) (s.clock.frame + 1) l
    obtain ⟨⟨-, visited, validLaps, missed, -⟩, ⟨-, stray, -, locked⟩, -⟩ := marks_fields visits.marks
    have none : ¬validHeader l = true := by rw [invalid]; decide
    refine ⟨_, rfl, visited, validLaps.trans (if_neg none), missed.trans (if_neg none), locked, stray.trans ?_, visits.unlocked⟩
    simp only [true_and]
    rfl
  | false =>
    rw [lapArrives_missed home master invalid]
    have visits := memberLap_visits (s.modRing Ring.visitMissed) l false
    obtain ⟨⟨-, visited, validLaps, missed, -⟩, ⟨-, stray, -, locked⟩, -⟩ := marks_fields visits.marks
    exact ⟨_, rfl, visited, validLaps, missed, locked, stray.trans (if_neg fun h => nomatch h.1).symm, visits.unlocked⟩

/-- A member's RUN lap with ring lock: the cells of the others are read. -/
theorem lapArrives_reads (plain : s.isMaster = false) (lock : s.ring.locked = true)
    (run : validHeader l = true ∧ l.h3.getLsbD 15 = true ∧ l.h3.getLsbD 12 = false ∨ validHeader l = false ∧ s.ring.status.getLsbD 7 = true) :
    s.Reads (s.lapArrives link chars l err) l := by
  rcases run with ⟨valid, runs, quiet⟩ | ⟨invalid, runs⟩
  · rw [lapArrives_member home plain valid]
    obtain ⟨-, -, -, -, reads⟩ := memberVisit_spec (s.modRing (fun r => { r with visited := true })) l err
    refine reads plain lock ?_ ?_
    · rw [BitVec.getLsbD_extractLsb', runs]
      rfl
    · rw [BitVec.getLsbD_extractLsb', quiet]
      rfl
  · rw [lapArrives_missed home plain invalid]
    exact memberLap_reads (s.modRing Ring.visitMissed) plain lock runs l

end

theorem headerCounter_low (r : Ring) (h1 : Word) : r.headerCounter h1 % 2 ^ 32 = h1.toNat := by
  rw [Ring.headerCounter, Nat.mul_add_mod_of_lt]
  exact h1.isLt

/-! ### Ring lock gained -/

theorem lockBenches_eq (s : State) (l : List BenchId) : ∃ bs, l.foldl State.lockBench s = { s with benches := bs } := by
  induction l generalizing s with
  | nil => exact ⟨_, rfl⟩
  | cons b rest ih =>
    have one : ∃ bs, s.lockBench b = { s with benches := bs } := by
      rw [State.lockBench]
      split <;> exact ⟨_, rfl⟩
    obtain ⟨bs, e⟩ := one
    obtain ⟨bs', e'⟩ := ih (s.lockBench b)
    exact ⟨bs', by rw [List.foldl_cons, e', e]⟩

/-- A member's conditions of ring lock. -/
theorem canLock_iff (live : s.ringLive = true) (plain : s.isMaster = false) (free : s.ring.locked = false) : s.canLock = true ↔
    s.clock.locked = true ∧ s.clock.holdover = false ∧ 4 ≤ s.ring.validLaps ∧ s.ring.status.getLsbD 7 = true ∧ s.ring.strobeError.natAbs ≤ 40 := by
  rw [State.canLock, live, free, if_neg (by rw [plain]; decide)]
  simp only [statusBit, Bool.not_false, Bool.true_and, Bool.and_eq_true, Bool.not_eq_true', decide_eq_true_eq, and_assoc]

theorem ringLockGain_spec (member : s.isMember = true) (plain : s.isMaster = false) (can : s.canLock = true) :
    ∃ t, s.ringLockGain = t ∧ t.ring.locked = true ∧ t.ring.lockedAt = s.ring.counter ∧ t.ring.refLink = some s.homeLink ∧
      t.ring.epoch = (if s.ring.everLocked = true ∧ s.ring.counter < s.ring.lastCounter then s.ring.epoch + 1 else s.ring.epoch) ∧
      t.ring.cells = s.ring.cells ∧
      ∀ x, s.present x = true → (s.tenant x).held = false → (t.tenant x).events = (s.tenant x).events ||| (1#32 <<< 13) := by
  obtain ⟨back, hb⟩ : ∃ back, back = (s.ring.everLocked && decide (s.ring.counter < s.ring.lastCounter)) := ⟨_, rfl⟩
  obtain ⟨v, hv⟩ : ∃ v : State, v = { s with ring := { s.ring with
    locked := true, everLocked := true, lockedAt := s.ring.counter, startFrame := none, refLink := some s.homeLink
    epoch := if back then s.ring.epoch + 1 else s.ring.epoch } } := ⟨_, rfl⟩
  obtain ⟨bs, benches⟩ := lockBenches_eq (v.raiseAll 13) (List.finRange 8)
  obtain ⟨u, hu⟩ : ∃ u, u = (List.finRange 8).foldl State.lockBench (v.raiseAll 13) := ⟨_, rfl⟩
  have step : ∃ p, s.ringLockGain = if back then u.ringLog 3 0x16 p else u := by
    rw [State.ringLockGain, if_pos can, hu, hv, hb]
    simp only [plain, member, Bool.false_eq_true, ↓reduceIte]
    exact ⟨_, rfl⟩
  obtain ⟨p, step⟩ := step
  have uRing : u.ring = v.ring := by
    have r := raiseAll_ring v 13
    rw [hu, benches]
    exact r
  have uTenants : u.tenants = (v.raiseAll 13).tenants := by rw [hu, benches]
  have all : ∃ l w, s.ringLockGain = { u with ring := { u.ring with logs := l }, wb := w } := by
    rw [step]
    split
    · exact ringLog_eq u 3 0x16 p
    · exact ⟨u.ring.logs, u.wb, rfl⟩
  obtain ⟨l, w, e⟩ := all
  refine ⟨_, e, ?_, ?_, ?_, ?_, ?_, fun x present free => ?_⟩
  · rw [uRing, hv]
  · rw [uRing, hv]
  · rw [uRing, hv]
  · rw [uRing, hv, hb]
    simp only [Bool.and_eq_true, decide_eq_true_eq]
  · rw [uRing, hv]
  · have vPresent : v.present x = true := by
      rw [hv]
      exact (present_congr rfl x).trans present
    have vTenant : v.tenant x = s.tenant x := by rw [hv]; rfl
    have raised := raiseAll_events v vPresent (by rw [vTenant]; exact free) 13
    rw [vTenant] at raised
    rw [← raised]
    exact congrArg (fun ts : Vector Tenant 4 => (ts[x]).events) uTenants

end

end Sys2Proof.Machine
end

section
/-! SUPPORT. Ring loss, and the home visits put together. -/
namespace Sys2Proof.Machine

section
variable (s : State)

/-! ### Ring lock lost -/

theorem failInFlight_ring : s.failInFlight.ring = { s.ring with slots := s.ring.slots.map (·.map SentMessage.atLoss) } := by
  refine (foldl_keeps (f := State.ring) (fun s m => ?_) _ _).trans rfl
  split
  · exact endMessage_ring ..
  · rfl

theorem failQueued_ring (b : BenchId) : (s.failQueued b).ring = { s.ring with rwrQ := vmod s.ring.rwrQ b.val (fun _ => []) } :=
  foldl_keeps (f := State.ring) (fun s _ => endMessage_ring s _ _) _ _

/-- Every queued request of some benches failed. -/
theorem failAllQueued_ring (l : List BenchId) : ∃ q, (l.foldl State.failQueued s).ring = { s.ring with rwrQ := q } ∧
    ∀ b : BenchId, b ∈ l ∨ vget s.ring.rwrQ b.val [] = [] → vget q b.val [] = [] := by
  induction l generalizing s with
  | nil => exact ⟨_, rfl, fun b h => h.resolve_left (List.not_mem_nil)⟩
  | cons c rest ih =>
    obtain ⟨q, e, empty⟩ := ih (s.failQueued c)
    rw [failQueued_ring] at e empty
    refine ⟨q, e, fun b h => empty b ?_⟩
    by_cases same : c = b
    · subst same
      exact .inr (vget_vmod_self ..)
    · refine h.imp (fun mem => (List.mem_cons.mp mem).resolve_left fun k => same k.symm) fun was => ?_
      refine Eq.trans ?_ was
      exact vget_vmod_of_ne _ _ _ fun k => same (Fin.ext k)

theorem failInFlight_through : s.failInFlight.through = s.through := by
  refine (foldl_keeps (f := State.through) (fun s m => ?_) _ _).trans (modRing_through s (fun _ => rfl) (fun _ => rfl))
  split
  · exact endMessage_through ..
  · rfl

theorem failQueued_through (b : BenchId) : (s.failQueued b).through = s.through :=
  (foldl_keeps (f := State.through) (fun s _ => endMessage_through s _ _) _ _).trans (modRing_through s (fun _ => rfl) (fun _ => rfl))

theorem tenant_held {t : State} (h : t.through = s.through) (x : TenantId) : (t.tenant x).held = (s.tenant x).held := by
  have held := congrArg (fun z => z.2.2.2.2.1[x]) h
  have get (u : State) : u.through.2.2.2.2.1[x] = (u.tenant x).held := map_getElem ..
  rw [get, get] at held
  exact held

variable {s}

/-- A member's loss of ring lock. -/
theorem loseLock_member (plain : s.isMaster = false) : ∃ t, s.loseLock = t ∧ t.ring.locked = false ∧
    (∀ c : Fin 128, t.ring.cells[c].absent = true) ∧ (∀ b : BenchId, vget t.ring.rwrQ b.val [] = []) ∧
    (∀ i : Fin 8, t.ring.slots[i] = (s.ring.slots[i]).map SentMessage.atLoss) ∧ t.ring.lastCounter = s.ring.counter ∧
    (∀ p, (s.sap p).running = false → (t.sap p).startDue = none) ∧
    ∀ x, s.present x = true → (s.tenant x).held = false → (t.tenant x).events.getLsbD 14 = true := by
  obtain ⟨u, hu⟩ : ∃ u, u = s.unlocked := ⟨_, rfl⟩
  have unlocked : u = ({ s with ring := s.ring.unlocked false s.clock.frame } : State).dropStarts := by
    rw [hu, State.unlocked, plain]
    rfl
  obtain ⟨q, ring, empty⟩ := failAllQueued_ring u.failInFlight (List.finRange 8)
  obtain ⟨v, hv⟩ : ∃ v, v = (List.finRange 8).foldl State.failQueued u.failInFlight := ⟨_, rfl⟩
  have through : v.through = u.through := by
    rw [hv, foldl_keeps (f := State.through) failQueued_through, failInFlight_through]
  rw [← hv, failInFlight_ring] at ring
  have lost : s.loseLock = v.raiseAll 14 := by rw [loseLock_eq, hv, hu]
  have straps : v.straps = s.straps := (congrArg (fun z => z.1.1) through).trans (by rw [unlocked]; rfl)
  have audio : v.audio = u.audio := congrArg (fun z => z.2.1.2.2.1) through
  have held (x : TenantId) : (v.tenant x).held = (s.tenant x).held := (tenant_held u through x).trans (by rw [unlocked]; rfl)
  refine ⟨_, lost, ?_, ?_, fun b => ?_, fun i => ?_, ?_, fun p idle => ?_, fun x present free => ?_⟩
  · rw [raiseAll_ring, ring, unlocked]
    rfl
  · rw [raiseAll_ring, ring, unlocked]
    intro c
    have cell : (Vector.replicate 128 (⟨0, 0, true⟩ : CellBuffer))[c] = ⟨0, 0, true⟩ := by rw [Fin.getElem_fin, Vector.getElem_replicate]
    exact congrArg CellBuffer.absent cell
  · rw [raiseAll_ring, ring]
    exact empty b (.inl (List.mem_finRange b))
  · rw [raiseAll_ring, ring, unlocked]
    exact map_getElem ..
  · rw [raiseAll_ring, ring, unlocked]
    rfl
  · have same : (v.raiseAll 14).audio = v.audio := by rw [State.raiseAll_eq]
    have port : u.sap p = if (s.sap p).running then s.sap p else { s.sap p with startDue := none } := by
      rw [unlocked]
      exact map_getElem ..
    rw [sap_of_audio (same.trans audio), port, if_neg (by rw [idle]; decide)]
  · rw [raiseAll_events v ((present_congr straps x).trans present) ((held x).trans free)]
    simp

theorem ringLoss_spec (live : s.ringLive = true) (lock : s.ring.locked = true) (plain : s.isMaster = false) {cause : Nat}
    (holds : s.lossHolds cause = true) : ∃ t, s.ringLoss cause = t ∧ t.ring.locked = false ∧ (∀ c : Fin 128, t.ring.cells[c].absent = true) ∧
    (∀ b : BenchId, vget t.ring.rwrQ b.val [] = []) ∧ (∀ i : Fin 8, t.ring.slots[i] = (s.ring.slots[i]).map SentMessage.atLoss) ∧
    t.ring.lastCounter = s.ring.counter ∧ (∀ p, (s.sap p).running = false → (t.sap p).startDue = none) ∧
    ∀ x, s.present x = true → (s.tenant x).held = false → (t.tenant x).events.getLsbD 14 = true := by
  obtain ⟨u, lost, spec⟩ := loseLock_member plain
  have coded : ∃ n f, u.lossCode cause = (n, { u with freeIdx := f }) := by
    rw [State.lossCode]
    split <;> exact ⟨_, _, rfl⟩
  obtain ⟨n, f, coded⟩ := coded
  obtain ⟨l, w, e⟩ := ringLog_eq ({ u with freeIdx := f } : State) 1 0x14 (ringLossPayload n u.ring.lastCounter)
  have step : s.ringLoss cause = ({ u with freeIdx := f } : State).ringLog 1 0x14 (ringLossPayload n u.ring.lastCounter) := by
    rw [State.ringLoss, if_pos ⟨live, lock, holds⟩, State.dropLock, lost, coded]
  exact ⟨_, step.trans e, spec⟩

/-- The causes of a member's ring loss. -/
theorem lossHolds_member (member : s.isMember = true) (plain : s.isMaster = false) {cause : Nat}
    (h : cause = 0 ∧ 16 ≤ s.ring.missedLaps ∨ cause = 1 ∧ 16 < s.ring.holdoverLaps ∨
      cause = 2 ∧ 0 < s.ring.validLaps ∧ s.ring.status.getLsbD 7 = false ∨ cause = 3 ∧ 0 < s.ring.validLaps ∧ 40 < s.ring.strobeError.natAbs) :
    s.lossHolds cause = true := by
  rcases h with ⟨rfl, missed⟩ | ⟨rfl, laps⟩ | ⟨rfl, valid, stopped⟩ | ⟨rfl, valid, off⟩
  · exact (if_neg (by rw [plain]; decide)).trans (decide_eq_true missed)
  · rw [State.lossHolds, member, decide_eq_true laps]
    rfl
  · refine (if_neg (by rw [plain]; decide)).trans ?_
    rw [decide_eq_true valid, statusBit, stopped]
    rfl
  · have three : s.lossHolds 3 = (s.isMember && decide (0 < s.ring.validLaps) && decide (40 < s.ring.strobeError.natAbs)) := rfl
    rw [three, member, decide_eq_true valid, decide_eq_true off]
    rfl

theorem homeVisit_eq (live : s.ringLive = true) (part : s.isMember = true ∨ s.sendsLaps = true) (link : RingLink) (chars : LapChars) (err : Int) :
    s.homeVisit link chars err = (s.unturn link (decodeLap chars)).lapArrives link chars (decodeLap chars) err := if_pos ⟨live, part⟩

end

/-- Settles O56: a lap at its home visit answers its messages, keeps or reads its cells and counts its header; lock is gained on the
conditions of R379 and lost for the causes of R381. -/
theorem ringLapsAndLock : Obligations.RingLapsAndLock := by
  intro s live
  refine ⟨fun link l => unturn_cases s link l, fun link chars l err hl away part => ?_, fun link chars l err hl home part => ?_,
    fun link chars l err hl home member plain valid => ?_, fun chars l err hl part invalid => ?_, fun chars l err hl member plain lock run => ?_,
    fun member plain free => ⟨fun can => ?_, fun cannot => ?_⟩, fun cause lock => ⟨fun h => ?_, fun member plain few zero => ?_⟩⟩
  · subst hl
    have same : (s.unturn link (decodeLap chars)).clock.frame = s.clock.frame := by
      obtain ⟨e, unturn⟩ := unturn_eq s link (decodeLap chars)
      rw [unturn]
    refine congrArg Host.Outcome.next (((homeVisit_eq live part link chars err).trans (lapArrives_away away)).trans ?_)
    rw [same]
  · subst hl
    obtain ⟨answers, turning⟩ := lapArrives_answers (chars := chars) (l := decodeLap chars) (err := err) home
    refine ⟨_, congrArg Host.Outcome.next (homeVisit_eq live part link chars err), turning,
      fun i m at_ clean kind addressee replied crc free => ?_⟩
    obtain ⟨e, unturn⟩ := unturn_eq s link (decodeLap chars)
    refine answers i m at_ ?_ ?_
    · rw [unturn]
      exact ⟨clean, kind, addressee, replied, crc⟩
    · rw [unturn]
      exact free
  · subst hl
    obtain ⟨e, unturn⟩ := unturn_eq s link (decodeLap chars)
    have visit := homeVisit_eq live (.inl member) link chars err
    rw [unturn] at home visit
    rw [lapArrives_member home plain valid] at visit
    obtain ⟨-, marks, mem, cells, -⟩ := memberVisit_spec (({ s with ring := { s.ring with turning := e } } : State).modRing
      (fun r => { r with visited := true })) (decodeLap chars) err
    obtain ⟨⟨-, visited, validLaps, missed, status⟩, ⟨strobeError, stray, header, locked⟩, -⟩ := marks_fields marks
    refine ⟨_, congrArg Host.Outcome.next visit, visited, validLaps, missed, status, strobeError, stray, ?_, cells, locked, mem⟩
    rw [header]
    exact headerCounter_low _ _
  · subst hl
    have stays := unturn_stays s s.homeLink (l := decodeLap chars) (.inl invalid)
    have visit := homeVisit_eq live part s.homeLink chars err
    rw [stays] at visit
    obtain ⟨t, e, spec⟩ := lapArrives_invalid (chars := chars) (err := err) (s := s) rfl invalid
    exact ⟨t, congrArg Host.Outcome.next (visit.trans e), spec⟩
  · subst hl
    have stays := unturn_stays s s.homeLink (l := decodeLap chars) (run.symm.imp (fun h => h.1) fun h => h.2.2)
    have visit := homeVisit_eq live (.inl member) s.homeLink chars err
    rw [stays] at visit
    have reads := lapArrives_reads (chars := chars) (err := err) (s := s) rfl plain lock run
    refine ⟨_, congrArg Host.Outcome.next visit, fun c i other only => ?_⟩
    rw [reads c i other only]
    refine ⟨fun w value => ?_, fun absent => ?_, fun error => ?_⟩
    · rw [value]
      rfl
    · rw [absent]
      rfl
    · rw [error]
      rfl
  · obtain ⟨t, e, spec⟩ := ringLockGain_spec member plain ((canLock_iff live plain free).mpr can)
    exact ⟨t, congrArg Host.Outcome.next e, spec⟩
  · refine congrArg Host.Outcome.next (if_neg fun h => ?_)
    obtain ⟨clock, -, laps, run, near⟩ := (canLock_iff live plain free).mp h
    rcases cannot with h | h | h | h
    · rw [clock] at h
      cases h
    · omega
    · rw [run] at h
      cases h
    · omega
  · obtain ⟨member, plain, h⟩ := h
    obtain ⟨t, e, spec⟩ := ringLoss_spec live lock plain (lossHolds_member member plain h)
    exact ⟨t, congrArg Host.Outcome.next e, spec⟩
  · refine congrArg Host.Outcome.next (if_neg fun h => ?_)
    obtain ⟨-, -, holds⟩ := h
    rw [zero] at holds
    have missed : decide (16 ≤ s.ring.missedLaps) = true := (if_neg (by rw [plain]; decide)).symm.trans holds
    exact absurd (of_decide_eq_true missed) few.not_ge

end Sys2Proof.Machine
end

section
/-! SUPPORT. The slots of the pit's frame. -/
namespace Sys2Proof.Machine

section
variable (s : State)

/-- The state in which a slot is taken. -/
def State.opened (slot : Nat) : State := { s with pit := { s.pit with nextSlot := slot + 1 } }

/-- The state in which the frame has had an access. -/
def State.servedNow : State := { s with faults := { s.faults with pitServed := true } }

/-- What a slot of an owner does, and whether an access came about. -/
def State.turn (o : Nat) (ecc : EccRead) : State × Bool :=
  if o < 14 ∧ s.ready o = true then (s.serve o ecc, true) else s.serveSpare ecc

theorem inSlot_eq (slot : Nat) : s.inSlot slot = (s.opened slot).servedNow := rfl

theorem opened_ready (slot r : Nat) : (s.opened slot).ready r = s.ready r := rfl

variable {s} {slot : Nat} {ecc : EccRead}

theorem pitSlot_passed (h : s.running = false ∨ s.isWedged 1 = true ∨ s.clock.stepped = .stopped ∨ slot < s.pit.nextSlot) :
    s.pitSlot slot ecc = s := if_pos h

section
variable (open_ : ¬(s.running = false ∨ s.isWedged 1 = true ∨ s.clock.stepped = .stopped ∨ slot < s.pit.nextSlot))
include open_

/-- A slot that comes goes to its owner, or to a spare decision. -/
theorem pitSlot_taken {o : Nat} (owner : slotOwner (s.code 5).toNat slot = o) : s.pitSlot slot ecc =
    if ((s.opened slot).turn o ecc).2 then ((s.opened slot).turn o ecc).1.servedNow else ((s.opened slot).turn o ecc).1 := by
  rw [← owner]
  exact if_neg open_

/-- A slot whose owner has a request ready is its owner's. -/
theorem pitSlot_owned {o : Nat} (owner : slotOwner (s.code 5).toNat slot = o) (lt : o < 14) (ready : s.ready o = true) :
    s.pitSlot slot ecc = ((s.opened slot).serve o ecc).servedNow := by
  have takes : o < 14 ∧ (s.opened slot).ready o = true := ⟨lt, ready⟩
  rw [pitSlot_taken open_ owner, State.turn, if_pos takes, if_pos rfl]

/-- Any other slot is a spare one. -/
theorem pitSlot_spare {o : Nat} (owner : slotOwner (s.code 5).toNat slot = o) (spare : 14 ≤ o ∨ s.ready o = false) :
    s.pitSlot slot ecc = if ((s.opened slot).serveSpare ecc).2 then ((s.opened slot).serveSpare ecc).1.servedNow
      else ((s.opened slot).serveSpare ecc).1 := by
  have passes : ¬(o < 14 ∧ (s.opened slot).ready o = true) := fun h => by
    rw [opened_ready] at h
    rcases spare with k | k
    · exact absurd h.1 k.not_gt
    · rw [k] at h
      exact absurd h.2 (by decide)
  rw [pitSlot_taken open_ owner, State.turn, if_neg passes]

end

/-! ### Spare slots -/

theorem serveSpare_granted {x : TenantId} (grant : s.pit.grant = some x) : s.serveSpare ecc =
    if s.ready (8 + x.val) then (s.serve (8 + x.val) ecc, true) else (s, false) := by
  rw [State.serveSpare, grant]

theorem serveSpare_none (grant : s.pit.grant = none) (winner : s.spareWinner = none) : s.serveSpare ecc = (s, false) := by
  rw [State.serveSpare, grant]
  dsimp only
  rw [winner]

/-- The head frame of the port that a requester is. -/
def State.headOf (s : State) (r : Nat) : Option Nat := (s.tenant (tenantOf (r - 8))).port.jobs.head?.map (·.id)

theorem serveSpare_won (grant : s.pit.grant = none) {r : Nat} (winner : s.spareWinner = some r) {u : State}
    (hu : u = ({ s with pit := { s.pit with pointer := (r + 1) % 14 } } : State).serve r ecc) : s.serveSpare ecc =
    (if (if 8 ≤ r ∧ r < 12 then s.headOf r else none).isSome && decide (u.headOf r = if 8 ≤ r ∧ r < 12 then s.headOf r else none)
      then { u with pit := { u.pit with grant := some (tenantOf (r - 8)) } } else u, true) := by
  rw [State.serveSpare, grant]
  dsimp only
  rw [winner, hu]
  rfl

/-! ### The winner of a spare slot -/

/-- How far behind the pointer a requester comes. -/
def behind (pointer r : Nat) : Nat := (r + 14 - pointer % 14) % 14

theorem behind_at (pointer : Nat) {i : Nat} (h : i < 14) : behind pointer ((pointer + i) % 14) = i := by
  rw [behind]
  omega

/-- The ready requesters in the order of their turns. -/
def State.candidates (s : State) : List Nat := ((List.range 14).map (fun i => (s.pit.pointer + i) % 14)).filter s.ready

theorem mem_candidates (q : Nat) : q ∈ s.candidates ↔ q < 14 ∧ s.ready q = true := by
  rw [State.candidates, List.mem_filter, List.mem_map]
  refine and_congr_left fun _ => ⟨fun ⟨i, _, e⟩ => by omega, fun lt => ⟨behind s.pit.pointer q, ?_, ?_⟩⟩
  · rw [List.mem_range, behind]
    omega
  · rw [behind]
    omega

theorem candidates_ordered : s.candidates.Pairwise (fun a b => behind s.pit.pointer a ≤ behind s.pit.pointer b) := by
  refine List.Pairwise.filter _ (List.pairwise_map.mpr ?_)
  refine List.Pairwise.imp_of_mem (fun {i j} hi hj lt => ?_) List.pairwise_lt_range
  rw [behind_at _ (List.mem_range.mp hi), behind_at _ (List.mem_range.mp hj)]
  exact lt.le

/-- The greatest of some values from a start value on. -/
theorem foldl_max_spec (f : Nat → Nat) (l : List Nat) (m : Nat) : (∀ q ∈ l, f q ≤ l.foldl (fun m r => max m (f r)) m) ∧
    m ≤ l.foldl (fun m r => max m (f r)) m ∧
    (l.foldl (fun m r => max m (f r)) m = m ∨ ∃ q ∈ l, f q = l.foldl (fun m r => max m (f r)) m) := by
  induction l generalizing m with
  | nil => exact ⟨nofun, le_rfl, .inl rfl⟩
  | cons r rest ih =>
    obtain ⟨all, least, some⟩ := ih (max m (f r))
    rw [List.foldl_cons]
    refine ⟨fun q mem => ?_, (le_max_left ..).trans least, ?_⟩
    · rcases List.mem_cons.mp mem with rfl | mem
      · exact (le_max_right ..).trans least
      · exact all q mem
    · rcases some with e | ⟨q, mem, e⟩
      · rcases le_total m (f r) with h | h
        · exact .inr ⟨r, List.mem_cons_self, by rw [e, max_eq_right h]⟩
        · exact .inl (by rw [e, max_eq_left h])
      · exact .inr ⟨q, List.mem_cons_of_mem r mem, e⟩

/-- The highest priority of a ready requester. -/
def State.bestPriority (s : State) : Nat := s.candidates.foldl (fun m r => max m (s.priority r)) 0

theorem spareWinner_eq : s.spareWinner = s.candidates.find? (fun r => decide (s.priority r = s.bestPriority)) := rfl

theorem spareWinner_spec {r : Nat} (h : s.spareWinner = some r) : r < 14 ∧ s.ready r = true ∧ ∀ q, q < 14 → s.ready q = true →
    s.priority q ≤ s.priority r ∧ (s.priority q = s.priority r → behind s.pit.pointer r ≤ behind s.pit.pointer q) := by
  rw [spareWinner_eq, List.find?_eq_some_iff_append] at h
  obtain ⟨best, before, after, split, earlier⟩ := h
  have best : s.priority r = s.bestPriority := of_decide_eq_true best
  have mem : r ∈ s.candidates := by
    rw [split]
    exact List.mem_append_right _ List.mem_cons_self
  obtain ⟨lt, ready⟩ := (mem_candidates r).mp mem
  refine ⟨lt, ready, fun q hq hr => ?_⟩
  have cand := (mem_candidates q).mpr ⟨hq, hr⟩
  refine ⟨best ▸ (foldl_max_spec s.priority s.candidates 0).1 q cand, fun same => ?_⟩
  have ordered := candidates_ordered (s := s)
  rw [split] at cand ordered
  rcases List.mem_append.mp cand with mem | mem
  · have less := earlier q mem
    rw [same, best] at less
    simp at less
  · rcases List.mem_cons.mp mem with e | mem
    · rw [e]
    · exact List.rel_of_pairwise_cons (List.pairwise_append.mp ordered).2.1 mem

theorem spareWinner_none_iff : s.spareWinner = none ↔ ∀ q, q < 14 → s.ready q = false := by
  rw [spareWinner_eq, List.find?_eq_none]
  constructor
  · intro none q hq
    by_contra ready
    have cand := (mem_candidates q).mpr ⟨hq, Bool.eq_true_of_not_eq_false ready⟩
    obtain ⟨all, -, some⟩ := foldl_max_spec s.priority s.candidates 0
    rcases some with e | ⟨r, mem, e⟩
    · have zero : s.priority q = s.bestPriority := le_antisymm (all q cand) (e.le.trans (Nat.zero_le _))
      exact none q cand (decide_eq_true zero)
    · exact none r mem (decide_eq_true e)
  · intro none r mem
    obtain ⟨lt, ready⟩ := (mem_candidates r).mp mem
    rw [none r lt] at ready
    cases ready

end

end Sys2Proof.Machine
end

section
/-! SUPPORT. What an access of a bench does. -/
namespace Sys2Proof.Machine

section
variable {s : State} {b : BenchId}

/-- A change of a bench counts only by what it makes of that bench. -/
theorem modBench_congr {g h : Bench → Bench} (e : g (s.bench b) = h (s.bench b)) : s.modBench b g = s.modBench b h := by
  have e : g s.benches[b] = h s.benches[b] := e
  rw [State.modBench, State.modBench, e]

/-- A change of a bench that keeps its state keeps every right. -/
theorem stillPasses_modBench {f : Bench → Bench} (keeps : (f (s.bench b)).state = (s.bench b).state) (e w bit base length : Nat) :
    (s.modBench b f).stillPasses e w bit base length = s.stillPasses e w bit base length := by
  have states : ((s.modBench b f).bench (benchOf e)).state = (s.bench (benchOf e)).state := by
    by_cases same : benchOf e = b
    · rw [same, State.modBench_bench_self, keeps]
    · rw [State.modBench_bench_of_ne _ _ same]
  have rights : (s.modBench b f).rightless e = s.rightless e := by rw [State.rightless, State.rightless, states]
  rw [State.stillPasses, State.hasRight, rights]
  rfl

theorem raiseFor_modBench (f : Bench → Bench) (t : Option TenantId) (n : Nat) :
    (s.modBench b f).raiseFor t n = (s.raiseFor t n).modBench b f := by
  cases t with
  | none => rfl
  | some x => exact State.raise_modBench s b f x n

theorem pitScrub_modBench (f : Bench → Bench) (a : Nat) (v : Word) : (s.modBench b f).pitScrub a v = (s.pitScrub a v).modBench b f := by
  rw [State.pitScrub, State.pitScrub, apply_ite (fun u : State => u.modBench b f)]
  rfl

/-- What a read gives is a matter of the pit, and a bench's change waits for it or goes ahead of it. -/
theorem pitRead_modBench (f : Bench → Bench) (a : Nat) (ecc : EccRead) (t : Option TenantId) :
    (s.modBench b f).pitRead a ecc t = ((s.pitRead a ecc t).1, (s.pitRead a ecc t).2.modBench b f) := by
  rw [State.pitRead, State.pitRead, State.modBench_pit]
  split
  · rfl
  · cases ecc with
    | clean => rfl
    | silent x => rfl
    | corrected => simp only [raiseFor_modBench, pitScrub_modBench]
    | miscorrected x => simp only [raiseFor_modBench, pitScrub_modBench]
    | uncorrectable => simp only [raiseFor_modBench]

/-! ### Reads of the pit -/

/-- A word read without an error, or unwritten. -/
theorem pitRead_clean {a : Nat} {ecc : EccRead} (h : ecc = .clean ∨ Sparse.read none s.pit.mem a = none) (t : Option TenantId) :
    s.pitRead a ecc t = (some (s.pitWord a), s) := by
  rw [State.pitRead, State.pitWord]
  rcases h with rfl | unwritten
  · cases Sparse.read none s.pit.mem a <;> rfl
  · rw [unwritten]
    rfl

theorem read_written {a : Nat} (h : (Sparse.read none s.pit.mem a).isSome = true) :
    (Sparse.read none s.pit.mem a).map pitData = some (s.pitWord a) := by
  obtain ⟨c, hc⟩ := Option.isSome_iff_exists.mp h
  rw [State.pitWord, hc]
  rfl

/-- The scrub queue of 8 takes a corrected word behind its event. -/
theorem correctedWord_eq (x : TenantId) (a : Nat) (v : Word) : (s.raiseFor (some x) 10).pitScrub a v = s.correctedWord x a v := by
  rw [State.correctedWord, State.pitScrub, State.raiseFor]
  have keeps : (s.raise x 10).pit = s.pit := s.raise_pit x 10
  rw [keeps]
  by_cases room : s.pit.scrub.length < 8
  · rw [if_pos room, if_pos room, State.raise, State.raise]
    exact apply_ite (fun u : State => { u with pit := { s.pit with scrub := s.pit.scrub ++ [(a, v)] } })
      (s.present x = true ∧ (s.tenant x).held = false) (s.modTenant x (fun y => { y with events := y.events ||| (1#32 <<< 10) })) s
  · rw [if_neg room, if_neg room]

theorem pitRead_corrected {a : Nat} (h : (Sparse.read none s.pit.mem a).isSome = true) (x : TenantId) :
    s.pitRead a .corrected (some x) = (some (s.pitWord a), s.correctedWord x a (s.pitWord a)) := by
  rw [State.pitRead, read_written h]
  exact congrArg _ (correctedWord_eq x a _)

theorem pitRead_uncorrectable {a : Nat} (h : (Sparse.read none s.pit.mem a).isSome = true) (x : TenantId) :
    s.pitRead a .uncorrectable (some x) = (none, s.raise x 11) := by
  rw [State.pitRead, read_written h]
  rfl

/-! ### An access of a bench -/

/-- A bench after a read of its own came about: the request gone, and its tag filled. -/
def Bench.collect (q : BenchRequest) (rest : List BenchRequest) (v : Option Word) (x : Bench) : Bench := { x with reads := rest }.fillTag q v

/-- A PRD with no write of its bench ahead of it. -/
theorem servePrd_alone {q : BenchRequest} {rest : List BenchRequest} (ecc : EccRead)
    (clear : ∀ w ∈ (s.bench b).writes, w.precedes q = false) : s.servePrd b q rest ecc =
      if q.revoked = true ∨ s.stillPasses b.val q.window rightRead q.base q.length = false then
        (s.modBench b (Bench.collect q rest none)).raiseOwner b 9
      else (s.pitRead (q.base + q.offset) ecc (s.owner b)).2.modBench b
        (Bench.collect q rest (s.pitRead (q.base + q.offset) ecc (s.owner b)).1) := by
  have ahead : (s.bench b).writes.filter (fun w => w.precedes q) = [] :=
    List.filter_eq_nil_iff.mpr fun w mem => by rw [clear w mem]; decide
  have behind : (s.bench b).writes.filter (fun w => !w.precedes q) = (s.bench b).writes :=
    List.filter_eq_self.mpr fun w mem => by rw [clear w mem]; rfl
  have taken : s.modBench b (fun x => { x with reads := rest, writes := x.writes.filter (fun w => !w.precedes q) }) =
      s.modBench b (fun x => { x with reads := rest }) := modBench_congr (by rw [behind])
  rw [State.servePrd]
  simp only [ahead, taken]
  rw [State.performAll, List.foldl_nil, stillPasses_modBench rfl]
  by_cases fails : q.revoked = true ∨ s.stillPasses b.val q.window rightRead q.base q.length = false
  · have fails' : (!q.revoked && s.stillPasses b.val q.window rightRead q.base q.length) = false ∨ (0 : Byte) ≠ 0 := by
      rcases fails with h | h <;> simp [h]
    rw [if_pos fails, if_pos fails', State.modBench_modBench]
    rfl
  · have passes : ¬((!q.revoked && s.stillPasses b.val q.window rightRead q.base q.length) = false ∨ (0 : Byte) ≠ 0) := by
      simpa using fails
    have owner : (s.modBench b (fun x => { x with reads := rest })).owner b = s.owner b := rfl
    rw [if_neg fails, if_neg passes, List.isEmpty_nil, if_pos rfl, owner, pitRead_modBench]
    dsimp only
    rw [State.modBench_modBench]
    rfl

/-- A PRD behind one write of its bench to its word. -/
theorem servePrd_behind {q w : BenchRequest} {rest more : List BenchRequest} (ecc : EccRead) (writes : (s.bench b).writes = w :: more)
    (first : w.precedes q = true) (clear : ∀ z ∈ more, z.precedes q = false) {t : State}
    (ht : t = s.modBench b (fun x => { x with reads := rest, writes := more })) : s.servePrd b q rest ecc =
      if q.revoked = true ∨ (t.performPwr b w).2.stillPasses b.val q.window rightRead q.base q.length = false ∨ (t.performPwr b w).1 ≠ 0 then
        ((t.performPwr b w).2.modBench b (fun x => x.fillTag q none)).raiseOwner b 9
      else (t.performPwr b w).2.modBench b (fun x => x.fillTag q (some ((t.performPwr b w).2.pitWord (q.base + q.offset)))) := by
  have ahead : (s.bench b).writes.filter (fun w => w.precedes q) = [w] := by
    rw [writes, List.filter_cons, if_pos first, List.filter_eq_nil_iff.mpr fun z mem => by rw [clear z mem]; decide]
  have behind : (s.bench b).writes.filter (fun w => !w.precedes q) = more := by
    rw [writes, List.filter_cons, if_neg (by rw [first]; decide), List.filter_eq_self.mpr fun z mem => by rw [clear z mem]; rfl]
  have taken : s.modBench b (fun x => { x with reads := rest, writes := x.writes.filter (fun w => !w.precedes q) }) = t := by
    rw [ht]
    exact modBench_congr (by rw [behind])
  rw [State.servePrd]
  simp only [ahead, taken]
  rw [State.performAll, List.foldl_cons, List.foldl_nil]
  simp only [Bool.and_eq_false_iff, Bool.not_eq_false', or_assoc]
  rfl

/-- A bench write that passes is stored. -/
theorem performPwr_passes {q : BenchRequest} (h : q.revoked = false ∧ s.stillPasses b.val q.window rightWrite q.base q.length = true) :
    s.performPwr b q = (0, s.wordWritten (q.base + q.offset) q.data) := if_pos h

/-- A bench write that passes no more leaves its failure. -/
theorem performPwr_fails {q : BenchRequest} (fresh : q.stale = false)
    (h : q.revoked = true ∨ s.stillPasses b.val q.window rightWrite q.base q.length = false) : s.performPwr b q =
      (0x1a, (s.modBench b (fun x => x.recordNow 0x1a 1 q.addr s.clock.frame)).raiseOwner b 12) := by
  have fails : ¬(q.revoked = false ∧ s.stillPasses b.val q.window rightWrite q.base q.length = true) := by
    rcases h with h | h <;> simp [h]
  rw [State.performPwr, if_neg fails, State.failPwr, if_neg (by rw [fresh]; decide)]

end

end Sys2Proof.Machine
end

section
/-! SUPPORT. The slots of a bench. -/
namespace Sys2Proof.Machine

section
variable {s : State} {slot : Nat}

theorem opened_stillPasses (slot e w bit base length : Nat) :
    (s.opened slot).stillPasses e w bit base length = s.stillPasses e w bit base length := rfl

theorem servedNow_raise (x : TenantId) (n : Nat) : (s.raise x n).servedNow = s.servedNow.raise x n := by
  have present : s.servedNow.present x = s.present x := rfl
  rw [State.raise, State.raise, present, apply_ite State.servedNow]
  rfl

theorem servedNow_raiseOwner (b : BenchId) (n : Nat) : (s.raiseOwner b n).servedNow = s.servedNow.raiseOwner b n := by
  have owner : s.servedNow.owner b = s.owner b := rfl
  rw [State.raiseOwner, State.raiseOwner, owner]
  split
  · exact servedNow_raise ..
  · rfl

theorem servedNow_modBench (b : BenchId) (f : Bench → Bench) : (s.modBench b f).servedNow = s.servedNow.modBench b f := rfl

theorem servedNow_modPort (x : TenantId) (f : Port → Port) : (s.modPort x f).servedNow = s.servedNow.modPort x f := rfl

theorem servedNow_wordWritten (a : Nat) (v : Word) : (s.wordWritten a v).servedNow = s.servedNow.wordWritten a v := rfl

theorem wordWritten_modBench (b : BenchId) (f : Bench → Bench) (a : Nat) (v : Word) :
    (s.modBench b f).wordWritten a v = (s.wordWritten a v).modBench b f := rfl

theorem servedNow_correctedWord (x : TenantId) (a : Nat) (v : Word) :
    (s.correctedWord x a v).servedNow = s.servedNow.correctedWord x a v := servedNow_raise x 10

variable {ecc : EccRead} {b : BenchId} {q w : BenchRequest} {rest more : List BenchRequest}
  (open_ : ¬(s.running = false ∨ s.isWedged 1 = true ∨ s.clock.stepped = .stopped ∨ slot < s.pit.nextSlot))
  (owner : slotOwner (s.code 5).toNat slot = b.val)
include open_ owner

/-- A slot of a bench that has a read queued serves the oldest. -/
theorem pitSlot_prd (reads : (s.bench b).reads = q :: rest) :
    s.pitSlot slot ecc = ((s.opened slot).servePrd b q rest ecc).servedNow := by
  have ready : s.ready b.val = true := by
    rw [State.ready, if_pos b.isLt, benchOf_val, reads]
    rfl
  have reads' : ((s.opened slot).bench b).reads = q :: rest := reads
  rw [pitSlot_owned open_ owner (by omega) ready, State.serve, if_pos b.isLt, benchOf_val, State.serveBench, reads']

/-- A slot of a bench that has writes alone queued serves the oldest. -/
theorem pitSlot_pwr (reads : (s.bench b).reads = []) (writes : (s.bench b).writes = q :: rest) : s.pitSlot slot ecc =
    (((s.opened slot).modBench b (fun x => { x with writes := rest })).performPwr b q).2.servedNow := by
  have ready : s.ready b.val = true := by
    rw [State.ready, if_pos b.isLt, benchOf_val, reads, writes]
    rfl
  have reads' : ((s.opened slot).bench b).reads = [] := reads
  have writes' : ((s.opened slot).bench b).writes = q :: rest := writes
  rw [pitSlot_owned open_ owner (by omega) ready, State.serve, if_pos b.isLt, benchOf_val, State.serveBench, reads', writes']

section
variable (reads : (s.bench b).reads = q :: rest) (clear : ∀ w ∈ (s.bench b).writes, w.precedes q = false)
include reads clear

theorem pitSlot_prd_fails (h : q.revoked = true ∨ s.stillPasses b.val q.window rightRead q.base q.length = false) :
    s.pitSlot slot ecc = ((s.inSlot slot).modBench b (Bench.collect q rest none)).raiseOwner b 9 := by
  rw [pitSlot_prd open_ owner reads, servePrd_alone (s := s.opened slot) ecc clear, opened_stillPasses,
      if_pos h, servedNow_raiseOwner, servedNow_modBench]
  rfl

theorem pitSlot_prd_reads (h : q.revoked = false) (passes : s.stillPasses b.val q.window rightRead q.base q.length = true) :
    s.pitSlot slot ecc = (((s.opened slot).pitRead (q.base + q.offset) ecc (s.owner b)).2.servedNow).modBench b
      (Bench.collect q rest ((s.opened slot).pitRead (q.base + q.offset) ecc (s.owner b)).1) := by
  have serves : ¬(q.revoked = true ∨ s.stillPasses b.val q.window rightRead q.base q.length = false) := by simp [h, passes]
  rw [pitSlot_prd open_ owner reads, servePrd_alone (s := s.opened slot) ecc clear, opened_stillPasses, if_neg serves, servedNow_modBench]
  rfl

theorem pitSlot_prd_clean (h : q.revoked = false) (passes : s.stillPasses b.val q.window rightRead q.base q.length = true)
    (clean : ecc = .clean ∨ Sparse.read none s.pit.mem (q.base + q.offset) = none) :
    s.pitSlot slot ecc = (s.inSlot slot).modBench b (Bench.collect q rest (some (s.pitWord (q.base + q.offset)))) := by
  have read : (s.opened slot).pitRead (q.base + q.offset) ecc (s.owner b) = (some (s.pitWord (q.base + q.offset)), s.opened slot) :=
    pitRead_clean (s := s.opened slot) clean _
  rw [pitSlot_prd_reads open_ owner reads clear h passes, read]
  rfl

theorem pitSlot_prd_corrected (h : q.revoked = false) (passes : s.stillPasses b.val q.window rightRead q.base q.length = true)
    (written : (Sparse.read none s.pit.mem (q.base + q.offset)).isSome = true) {x : TenantId} (mine : s.owner b = some x)
    (e : ecc = .corrected) : s.pitSlot slot ecc =
      ((s.inSlot slot).correctedWord x (q.base + q.offset) (s.pitWord (q.base + q.offset))).modBench b
        (Bench.collect q rest (some (s.pitWord (q.base + q.offset)))) := by
  have read : (s.opened slot).pitRead (q.base + q.offset) .corrected (some x) =
      (some (s.pitWord (q.base + q.offset)), (s.opened slot).correctedWord x (q.base + q.offset) (s.pitWord (q.base + q.offset))) :=
    pitRead_corrected (s := s.opened slot) written x
  rw [pitSlot_prd_reads open_ owner reads clear h passes, mine, e, read, servedNow_correctedWord]
  rfl

theorem pitSlot_prd_uncorrectable (h : q.revoked = false) (passes : s.stillPasses b.val q.window rightRead q.base q.length = true)
    (written : (Sparse.read none s.pit.mem (q.base + q.offset)).isSome = true) {x : TenantId} (mine : s.owner b = some x)
    (e : ecc = .uncorrectable) : s.pitSlot slot ecc = ((s.inSlot slot).raise x 11).modBench b (Bench.collect q rest none) := by
  have read : (s.opened slot).pitRead (q.base + q.offset) .uncorrectable (some x) = (none, (s.opened slot).raise x 11) :=
    pitRead_uncorrectable (s := s.opened slot) written x
  rw [pitSlot_prd_reads open_ owner reads clear h passes, mine, e, read, servedNow_raise]
  rfl

end

section
variable (reads : (s.bench b).reads = q :: rest) (writes : (s.bench b).writes = w :: more) (first : w.precedes q = true)
  (clear : ∀ z ∈ more, z.precedes q = false)
include reads writes first clear

/-- A write ahead of a read of its word is performed, and the read gives what it wrote. -/
theorem pitSlot_prd_afterWrite (h : w.revoked = false ∧ s.stillPasses b.val w.window rightWrite w.base w.length = true)
    (hq : q.revoked = false) (passes : s.stillPasses b.val q.window rightRead q.base q.length = true)
    (wf : Sparse.wf none s.pit.mem = true) : s.pitSlot slot ecc =
      ((s.inSlot slot).wordWritten (w.base + w.offset) w.data).modBench b
        (fun y => { y with reads := rest, writes := more }.fillTag q (some w.data)) := by
  obtain ⟨t, ht⟩ : ∃ t, t = (s.opened slot).modBench b (fun x => { x with reads := rest, writes := more }) := ⟨_, rfl⟩
  have keeps (e w bit base length : Nat) : t.stillPasses e w bit base length = s.stillPasses e w bit base length := by
    rw [ht, stillPasses_modBench rfl, opened_stillPasses]
  have same : w.base + w.offset = q.base + q.offset := by
    simp only [BenchRequest.precedes, Bool.and_eq_true, decide_eq_true_eq] at first
    exact first.1
  have performed : t.performPwr b w = (0, t.wordWritten (w.base + w.offset) w.data) := performPwr_passes (by rw [keeps]; exact h)
  have still : (t.wordWritten (w.base + w.offset) w.data).stillPasses b.val q.window rightRead q.base q.length = true :=
    (keeps b.val q.window rightRead q.base q.length).trans passes
  have mem : t.pit.mem = s.pit.mem := by
    rw [ht]
    rfl
  have word : (t.wordWritten (w.base + w.offset) w.data).pitWord (q.base + q.offset) = w.data := by
    rw [State.pitWord, State.wordWritten, mem, Sparse.read_write _ _ wf, if_pos same.symm, Option.map_some, pitData_pitCode]
    rfl
  have serves : ¬(q.revoked = true ∨ (t.wordWritten (w.base + w.offset) w.data).stillPasses b.val q.window rightRead q.base q.length = false ∨
      (0 : Byte) ≠ 0) := by simp [hq, still]
  rw [pitSlot_prd open_ owner reads, servePrd_behind (s := s.opened slot) ecc writes first clear ht, performed]
  dsimp only
  rw [if_neg serves, word, servedNow_modBench, servedNow_wordWritten, ht, servedNow_modBench]
  rw [wordWritten_modBench, State.modBench_modBench]
  rfl

/-- A write ahead of a read of its word that fails takes the read along. -/
theorem pitSlot_prd_afterFailure (fresh : w.stale = false)
    (h : w.revoked = true ∨ s.stillPasses b.val w.window rightWrite w.base w.length = false) : s.pitSlot slot ecc =
      (((s.inSlot slot).modBench b (fun y => ({ y with reads := rest, writes := more }.fillTag q none).recordNow
        0x1a 1 w.addr s.clock.frame)).raiseOwner b 12).raiseOwner b 9 := by
  obtain ⟨t, ht⟩ : ∃ t, t = (s.opened slot).modBench b (fun x => { x with reads := rest, writes := more }) := ⟨_, rfl⟩
  have keeps : t.stillPasses b.val w.window rightWrite w.base w.length = s.stillPasses b.val w.window rightWrite w.base w.length := by
    rw [ht, stillPasses_modBench rfl, opened_stillPasses]
  have performed := performPwr_fails (s := t) (b := b) fresh (by rw [keeps]; exact h)
  have frame : t.clock.frame = s.clock.frame := by
    rw [ht]
    rfl
  have fails (p : Prop) : q.revoked = true ∨ p ∨ (0x1a : Byte) ≠ 0 := .inr (.inr (by decide))
  rw [pitSlot_prd open_ owner reads, servePrd_behind (s := s.opened slot) ecc writes first clear ht, performed]
  dsimp only
  rw [if_pos (fails _), servedNow_raiseOwner, servedNow_modBench, servedNow_raiseOwner, servedNow_modBench, ht, servedNow_modBench,
    State.modBench_clock, ← State.raiseOwner_modBench, State.modBench_modBench, State.modBench_modBench]
  rfl

end

section
variable (reads : (s.bench b).reads = []) (writes : (s.bench b).writes = q :: rest)
include reads writes

theorem pitSlot_pwr_stores (h : q.revoked = false ∧ s.stillPasses b.val q.window rightWrite q.base q.length = true) :
    s.pitSlot slot ecc = ((s.inSlot slot).wordWritten (q.base + q.offset) q.data).modBench b (fun x => { x with writes := rest }) := by
  have keeps : ((s.opened slot).modBench b (fun x => { x with writes := rest })).stillPasses b.val q.window rightWrite q.base q.length = true :=
    (stillPasses_modBench rfl ..).trans h.2
  rw [pitSlot_pwr open_ owner reads writes, performPwr_passes ⟨h.1, keeps⟩]
  rfl

theorem pitSlot_pwr_fails (fresh : q.stale = false)
    (h : q.revoked = true ∨ s.stillPasses b.val q.window rightWrite q.base q.length = false) : s.pitSlot slot ecc =
      ((s.inSlot slot).modBench b (fun x => ({ x with writes := rest }).recordNow 0x1a 1 q.addr s.clock.frame)).raiseOwner b 12 := by
  have keeps : ((s.opened slot).modBench b (fun x => { x with writes := rest })).stillPasses b.val q.window rightWrite q.base q.length =
      s.stillPasses b.val q.window rightWrite q.base q.length := stillPasses_modBench rfl ..
  rw [pitSlot_pwr open_ owner reads writes, performPwr_fails fresh (by rw [keeps]; exact h)]
  dsimp only
  rw [servedNow_raiseOwner, State.modBench_modBench]
  rfl

end

end

end Sys2Proof.Machine
end

section
/-! SUPPORT. The slots of a port. -/
namespace Sys2Proof.Machine

section
variable {s u : State} {x : TenantId} {j : PortJob} {rest : List PortJob} {more : List Word} {v : Word} {slot : Nat} {ecc : EccRead}

/-! ### A frame's next word -/

/-- A port's frames, and that it holds no spare grant. -/
def State.Serves (s : State) (x : TenantId) (jobs : List PortJob) : Prop := (s.tenant x).port.jobs = jobs ∧ s.pit.grant = none

theorem serves_raise {jobs : List PortJob} (h : s.Serves x jobs) (y : TenantId) (n : Nat) : (s.raise y n).Serves x jobs := by
  obtain ⟨port, grant⟩ := h
  refine ⟨?_, by rw [State.raise_pit, grant]⟩
  rw [State.raise_tenant, ← port]
  split <;> rfl

theorem serves_wordWritten {jobs : List PortJob} (h : s.Serves x jobs) (a : Nat) (v : Word) : (s.wordWritten a v).Serves x jobs := h

theorem serves_correctedWord {jobs : List PortJob} (h : s.Serves x jobs) (y : TenantId) (a : Nat) (v : Word) :
    (s.correctedWord y a v).Serves x jobs := by
  rw [State.correctedWord]
  refine serves_raise ?_ y 10
  exact h

theorem serves_lateWord {jobs : List PortJob} (h : s.Serves x jobs) (k : PortJob) (c : Byte) : (s.lateWord x k c).Serves x jobs := by
  rw [State.lateWord]
  refine serves_raise ?_ x 12
  refine ⟨?_, h.2⟩
  rw [State.modPort_tenant_self, ← h.1]
  dsimp only
  split <;> rfl

/-- A frame put back after a word, or finished with it. -/
theorem putJob_wordOver (h : s.Serves x (j :: rest)) (fresh : j.stale = false) (w : Word) (c : Byte) :
    s.putJob x { j with left := more, offset := j.offset + 1, merge := none, got := j.got ++ [w], code := c } =
      s.wordOver x j rest more w c := by
  obtain ⟨jobs, grant⟩ := h
  have free : ¬(s.pit.grant = some x) := by rw [grant]; nofun
  rw [State.putJob, State.wordOver]
  dsimp only
  cases more with
  | nil =>
    rw [List.isEmpty_nil, if_pos rfl, State.modPort_pit, if_neg free]
    refine modPort_congr ?_
    rw [if_neg (not_not.mpr rfl), Port.finish, jobs, List.drop_one, List.tail_cons]
    dsimp only
    cases j.kind with
    | read tag => exact if_neg (by rw [fresh]; decide)
    | write => exact (apply_ite (fun n => { (s.tenant x).port with jobs := rest, credits := n }) (j.credit = true) _ _).symm
    | load g => exact (apply_ite (fun n => { (s.tenant x).port with jobs := rest, credits := n }) (j.credit = true) _ _).symm
  | cons z zs =>
    rw [List.isEmpty_cons, if_neg (by decide)]
    refine modPort_congr ?_
    rw [if_pos (List.cons_ne_nil z zs), jobs, List.drop_one, List.tail_cons]

theorem putJob_doneWord (h : s.Serves x (j :: rest)) (fresh : j.stale = false) (left : j.left = v :: more) (w : Word) :
    s.putJob x (j.doneWord w) = s.wordOver x j rest more w j.code := by
  rw [← putJob_wordOver h fresh, PortJob.doneWord, left, List.drop_one, List.tail_cons]

theorem putJob_failWord (h : s.Serves x (j :: rest)) (fresh : j.stale = false) (left : j.left = v :: more) (c : Byte) :
    s.putJob x (j.failWord c) = s.wordOver x j rest more 0 (if j.code = 0 then c else j.code) := by
  rw [← putJob_wordOver h fresh, PortJob.failWord, left, List.drop_one, List.tail_cons]

/-- A frame put back with its word read, and not yet written. -/
theorem putJob_merge (h : s.Serves x (j :: rest)) (left : j.left = v :: more) (m : Word) :
    s.putJob x { j with merge := some m } = s.modPort x (fun p => { p with jobs := { j with merge := some m } :: rest }) := by
  rw [State.putJob]
  dsimp only
  rw [left, List.isEmpty_cons, if_neg (by decide)]
  refine modPort_congr ?_
  rw [h.1, List.drop_one, List.tail_cons]

theorem satInc8_eq (n : Byte) : satInc8 n = if n = 0xff then 0xff else n + 1 := by
  rw [satInc8]
  by_cases e : n = 0xff
  · exact (if_pos e).trans (e.trans (if_pos e).symm)
  · exact (if_neg e).trans (if_neg e).symm

theorem failHost_eq (fresh : j.stale = false) (c : Byte) : s.failHost x j c = s.lateWord x j c := by
  rw [State.failHost, if_neg (by rw [fresh]; decide), State.lateWord]
  by_cases e : j.code = 0
  · simp only [e, if_true, satInc8_eq]
  · have same : s.modPort x (fun p => p) = s := by
      rw [State.modPort, State.modTenant]
      exact congrArg (fun t => { s with tenants := t }) (Vector.set_getElem_self ..)
    simp only [e, if_false, same]

/-! ### An access of a port -/

section
variable (h : s.Serves x (j :: rest)) (fresh : j.stale = false) (left : j.left = v :: more)
include h fresh left

theorem servePort_write (kind : j.kind = .write) (full : j.mask = 0xf#4)
    (passes : s.stillPasses (8 + x.val) j.window rightWrite j.base j.length = true) :
    s.servePort x ecc = (s.wordWritten (j.base + j.offset) v).wordOver x j rest more v j.code := by
  rw [State.servePort, h.1]
  dsimp only
  rw [kind]
  dsimp only
  rw [if_pos ⟨fresh, passes⟩, if_pos full, left]
  exact putJob_doneWord (serves_wordWritten h _ _) fresh left v

theorem servePort_partial (kind : j.kind = .write) (part : j.mask ≠ 0xf#4)
    (passes : s.stillPasses (8 + x.val) j.window rightWrite j.base j.length = true) {m : Word} (merge : j.merge = some m) :
    s.servePort x ecc = (s.wordWritten (j.base + j.offset) ((v &&& laneBits j.mask) ||| (m &&& ~~~laneBits j.mask))).wordOver x j rest
      more ((v &&& laneBits j.mask) ||| (m &&& ~~~laneBits j.mask)) j.code := by
  rw [State.servePort, h.1]
  dsimp only
  rw [kind]
  dsimp only
  rw [if_pos ⟨fresh, passes⟩, if_neg part, left, merge]
  exact putJob_doneWord (serves_wordWritten h _ _) fresh left _

/-- The first slot of a partial word reads it. -/
theorem servePort_merge (kind : j.kind = .write) (part : j.mask ≠ 0xf#4)
    (passes : s.stillPasses (8 + x.val) j.window rightWrite j.base j.length = true) (merge : j.merge = none) {m : Word}
    (read : s.pitRead (j.base + j.offset) ecc (some x) = (some m, u)) (after : u.Serves x (j :: rest)) :
    s.servePort x ecc = u.modPort x (fun p => { p with jobs := { j with merge := some m } :: rest }) := by
  rw [State.servePort, h.1]
  dsimp only
  rw [kind]
  dsimp only
  rw [if_pos ⟨fresh, passes⟩, if_neg part, merge, read]
  dsimp only
  rw [← kind]
  exact putJob_merge after left m

/-- A partial word that cannot be read fails. -/
theorem servePort_unreadable (kind : j.kind = .write) (part : j.mask ≠ 0xf#4)
    (passes : s.stillPasses (8 + x.val) j.window rightWrite j.base j.length = true) (merge : j.merge = none)
    (read : s.pitRead (j.base + j.offset) ecc (some x) = (none, u)) (after : u.Serves x (j :: rest)) :
    s.servePort x ecc = (u.lateWord x j 0x1b).wordOver x j rest more 0 (if j.code = 0 then 0x1b else j.code) := by
  rw [State.servePort, h.1]
  dsimp only
  rw [kind]
  dsimp only
  rw [if_pos ⟨fresh, passes⟩, if_neg part, merge, read]
  dsimp only
  rw [failHost_eq fresh]
  exact putJob_failWord (serves_lateWord after j _) fresh left _

theorem servePort_late (kind : j.kind = .write) (fails : s.stillPasses (8 + x.val) j.window rightWrite j.base j.length = false) :
    s.servePort x ecc = (s.lateWord x j 0x1a).wordOver x j rest more 0 (if j.code = 0 then 0x1a else j.code) := by
  rw [State.servePort, h.1]
  dsimp only
  rw [kind]
  dsimp only
  rw [if_neg (fun k => by rw [fails] at k; exact absurd k.2 (by decide)), failHost_eq fresh]
  exact putJob_failWord (serves_lateWord h j _) fresh left _

theorem servePort_load {g : Nat} (kind : j.kind = .load g) : s.servePort x ecc =
    (if s.staging.generation = g then s.wordWritten (j.base + j.offset) v else s).wordOver x j rest more v j.code := by
  rw [State.servePort, h.1]
  dsimp only
  rw [kind]
  dsimp only
  rw [left]
  by_cases current : s.staging.generation = g
  · rw [if_pos current, if_pos current]
    exact putJob_doneWord (serves_wordWritten h _ _) fresh left v
  · rw [if_neg current, if_neg current]
    exact putJob_doneWord h fresh left v

theorem servePort_read {tag : Nat} (kind : j.kind = .read tag)
    (passes : s.stillPasses (8 + x.val) j.window rightRead j.base j.length = true) {w : Word}
    (read : s.pitRead (j.base + j.offset) ecc (some x) = (some w, u)) (after : u.Serves x (j :: rest)) :
    s.servePort x ecc = u.wordOver x j rest more (w &&& laneBits j.mask) j.code := by
  rw [State.servePort, h.1]
  dsimp only
  rw [kind]
  dsimp only
  rw [if_pos passes, read]
  exact putJob_doneWord after fresh left _

theorem servePort_lost {tag : Nat} (kind : j.kind = .read tag)
    (passes : s.stillPasses (8 + x.val) j.window rightRead j.base j.length = true)
    (read : s.pitRead (j.base + j.offset) ecc (some x) = (none, u)) (after : u.Serves x (j :: rest)) :
    s.servePort x ecc = u.wordOver x j rest more 0 (if j.code = 0 then 0x1b else j.code) := by
  rw [State.servePort, h.1]
  dsimp only
  rw [kind]
  dsimp only
  rw [if_pos passes, read]
  exact putJob_failWord after fresh left _

theorem servePort_refused {tag : Nat} (kind : j.kind = .read tag)
    (fails : s.stillPasses (8 + x.val) j.window rightRead j.base j.length = false) :
    s.servePort x ecc = s.wordOver x j rest more 0 (if j.code = 0 then 0x1a else j.code) := by
  rw [State.servePort, h.1]
  dsimp only
  rw [kind]
  dsimp only
  rw [if_neg (by rw [fails]; decide)]
  exact putJob_failWord h fresh left _

end

/-! ### An access noted -/

theorem servedNow_wordOver (c : Byte) : (s.wordOver x j rest more v c).servedNow = s.servedNow.wordOver x j rest more v c := rfl

theorem servedNow_lateWord (c : Byte) : (s.lateWord x j c).servedNow = s.servedNow.lateWord x j c := servedNow_raise x 12

end

end Sys2Proof.Machine
end

section
/-! SUPPORT. Slots of ports, of ring inbound, of the system requester, and spare ones. -/
namespace Sys2Proof.Machine

section
variable {s : State} {slot : Nat} {ecc : EccRead}
  (open_ : ¬(s.running = false ∨ s.isWedged 1 = true ∨ s.clock.stepped = .stopped ∨ slot < s.pit.nextSlot))
include open_

/-! ### Ports -/

section
variable {x : TenantId} {j : PortJob} {rest : List PortJob} {more : List Word} {v : Word}
  (owner : slotOwner (s.code 5).toNat slot = 8 + x.val) (h : s.Serves x (j :: rest)) (fresh : j.stale = false) (left : j.left = v :: more)
include owner h

theorem pitSlot_port : s.pitSlot slot ecc = ((s.opened slot).servePort x ecc).servedNow := by
  have ready : s.ready (8 + x.val) = true := by
    rw [State.ready, if_neg (by omega), if_pos (by omega), tenantOf_ep, h.1]
    rfl
  rw [pitSlot_owned open_ owner (by omega) ready, State.serve, if_neg (by omega), if_pos (by omega), tenantOf_ep]

include fresh left

theorem pitSlot_write (kind : j.kind = .write) (full : j.mask = 0xf#4)
    (passes : s.stillPasses (8 + x.val) j.window rightWrite j.base j.length = true) :
    s.pitSlot slot ecc = ((s.inSlot slot).wordWritten (j.base + j.offset) v).wordOver x j rest more v j.code := by
  rw [pitSlot_port open_ owner h, servePort_write (s := s.opened slot) h fresh left kind full passes]
  rfl

section
variable (kind : j.kind = .write) (part : j.mask ≠ 0xf#4)
  (passes : s.stillPasses (8 + x.val) j.window rightWrite j.base j.length = true)
include kind part passes

theorem pitSlot_partial {m : Word} (merge : j.merge = some m) :
    s.pitSlot slot ecc = ((s.inSlot slot).wordWritten (j.base + j.offset)
      ((v &&& laneBits j.mask) ||| (m &&& ~~~laneBits j.mask))).wordOver x j rest more
        ((v &&& laneBits j.mask) ||| (m &&& ~~~laneBits j.mask)) j.code := by
  rw [pitSlot_port open_ owner h, servePort_partial (s := s.opened slot) h fresh left kind part passes merge]
  rfl

variable (merge : j.merge = none)
include merge

theorem pitSlot_merge_clean (clean : ecc = .clean ∨ Sparse.read none s.pit.mem (j.base + j.offset) = none) :
    s.pitSlot slot ecc = (s.inSlot slot).modPort x
      (fun p => { p with jobs := { j with merge := some (s.pitWord (j.base + j.offset)) } :: rest }) := by
  rw [pitSlot_port open_ owner h, servePort_merge (s := s.opened slot) h fresh left kind part passes merge
    (pitRead_clean (s := s.opened slot) clean _) h]
  rfl

theorem pitSlot_merge_corrected (written : (Sparse.read none s.pit.mem (j.base + j.offset)).isSome = true) (e : ecc = .corrected) :
    s.pitSlot slot ecc = ((s.inSlot slot).correctedWord x (j.base + j.offset) (s.pitWord (j.base + j.offset))).modPort x
      (fun p => { p with jobs := { j with merge := some (s.pitWord (j.base + j.offset)) } :: rest }) := by
  have h' : (s.opened slot).Serves x (j :: rest) := h
  rw [pitSlot_port open_ owner h, e, servePort_merge h' fresh left kind part passes merge
    (pitRead_corrected (s := s.opened slot) written x) (serves_correctedWord h' ..), servedNow_modPort, servedNow_correctedWord]
  rfl

theorem pitSlot_merge_uncorrectable (written : (Sparse.read none s.pit.mem (j.base + j.offset)).isSome = true)
    (e : ecc = .uncorrectable) : s.pitSlot slot ecc =
      (((s.inSlot slot).raise x 11).lateWord x j 0x1b).wordOver x j rest more 0 (if j.code = 0 then 0x1b else j.code) := by
  have h' : (s.opened slot).Serves x (j :: rest) := h
  rw [pitSlot_port open_ owner h, e, servePort_unreadable h' fresh left kind part passes merge
    (pitRead_uncorrectable (s := s.opened slot) written x) (serves_raise h' ..), servedNow_wordOver, servedNow_lateWord, servedNow_raise]
  rfl

end

theorem pitSlot_late (kind : j.kind = .write) (fails : s.stillPasses (8 + x.val) j.window rightWrite j.base j.length = false) :
    s.pitSlot slot ecc = ((s.inSlot slot).lateWord x j 0x1a).wordOver x j rest more 0 (if j.code = 0 then 0x1a else j.code) := by
  rw [pitSlot_port open_ owner h, servePort_late (s := s.opened slot) h fresh left kind fails, servedNow_wordOver, servedNow_lateWord]
  rfl

theorem pitSlot_load {g : Nat} (kind : j.kind = .load g) : s.pitSlot slot ecc =
    (if s.staging.generation = g then (s.inSlot slot).wordWritten (j.base + j.offset) v else s.inSlot slot).wordOver x j rest more v
      j.code := by
  have staging : (s.opened slot).staging = s.staging := rfl
  rw [pitSlot_port open_ owner h, servePort_load (s := s.opened slot) h fresh left kind, servedNow_wordOver, staging,
    apply_ite State.servedNow]
  rfl

section
variable {tag : Nat} (kind : j.kind = .read tag)
include kind

theorem pitSlot_refused (fails : s.stillPasses (8 + x.val) j.window rightRead j.base j.length = false) :
    s.pitSlot slot ecc = (s.inSlot slot).wordOver x j rest more 0 (if j.code = 0 then 0x1a else j.code) := by
  rw [pitSlot_port open_ owner h, servePort_refused (s := s.opened slot) h fresh left kind fails]
  rfl

variable (passes : s.stillPasses (8 + x.val) j.window rightRead j.base j.length = true)
include passes

theorem pitSlot_read_clean (clean : ecc = .clean ∨ Sparse.read none s.pit.mem (j.base + j.offset) = none) :
    s.pitSlot slot ecc = (s.inSlot slot).wordOver x j rest more (s.pitWord (j.base + j.offset) &&& laneBits j.mask) j.code := by
  rw [pitSlot_port open_ owner h, servePort_read (s := s.opened slot) h fresh left kind passes (pitRead_clean (s := s.opened slot) clean _) h]
  rfl

theorem pitSlot_read_corrected (written : (Sparse.read none s.pit.mem (j.base + j.offset)).isSome = true) (e : ecc = .corrected) :
    s.pitSlot slot ecc = ((s.inSlot slot).correctedWord x (j.base + j.offset) (s.pitWord (j.base + j.offset))).wordOver x j rest more
      (s.pitWord (j.base + j.offset) &&& laneBits j.mask) j.code := by
  have h' : (s.opened slot).Serves x (j :: rest) := h
  rw [pitSlot_port open_ owner h, e, servePort_read h' fresh left kind passes
    (pitRead_corrected (s := s.opened slot) written x) (serves_correctedWord h' ..), servedNow_wordOver, servedNow_correctedWord]
  rfl

theorem pitSlot_read_uncorrectable (written : (Sparse.read none s.pit.mem (j.base + j.offset)).isSome = true)
    (e : ecc = .uncorrectable) : s.pitSlot slot ecc =
      ((s.inSlot slot).raise x 11).wordOver x j rest more 0 (if j.code = 0 then 0x1b else j.code) := by
  have h' : (s.opened slot).Serves x (j :: rest) := h
  rw [pitSlot_port open_ owner h, e, servePort_lost h' fresh left kind passes
    (pitRead_uncorrectable (s := s.opened slot) written x) (serves_raise h' ..), servedNow_wordOver, servedNow_raise]
  rfl

end

end

/-! ### Ring inbound -/

theorem pitSlot_ring (owner : slotOwner (s.code 5).toNat slot = 12) {k : Nat} {w : LatchedWrite}
    (latch : firstLatch 0 s.ring.latches.toList = some (k, w)) (passes : s.inboundPasses w.window w.source w.base w.length = true) :
    s.pitSlot slot ecc = ((s.inSlot slot).wordWritten (w.base + w.offset) w.data).modRing
      (fun r => { r with latches := vmod r.latches k (fun _ => none) }) := by
  have ready : s.ready 12 = true := by
    rw [State.ready, if_neg (by decide), if_neg (by decide), if_pos rfl, latch]
    rfl
  have latch' : firstLatch 0 (s.opened slot).ring.latches.toList = some (k, w) := latch
  rw [pitSlot_owned open_ owner (by decide) ready, State.serve, if_neg (by decide), if_neg (by decide), if_pos rfl, State.serveRing,
    latch']
  exact congrArg State.servedNow (if_pos passes)

/-! ### The system requester -/

/-- The staging area after a word was read. -/
def Staging.wordRead (g : Staging) (k : Nat) : Staging :=
  { g with nextRead := g.nextRead + 1, misread := Sparse.write none g.misread k none }

/-- The staging area after a word that could not be read. -/
def Staging.wordLost (g : Staging) (k : Nat) (dest : Option BenchId) : Staging :=
  match dest with
  | none => { g with nextRead := g.nextRead + 1, bad := some k }
  | some b => { g with nextRead := g.nextRead + 1, spoiled := g.spoiled ||| (1#8 <<< b.val) }

section
variable (owner : slotOwner (s.code 5).toNat slot = 13)
include owner

section
variable {k : Nat} {dest : Option BenchId} (next : s.systemRead = some (k, dest)) {u : State}
include next

theorem pitSlot_system : s.pitSlot slot ecc = ((s.opened slot).serveSystem ecc).servedNow := by
  have ready : s.ready 13 = true := by
    rw [State.ready, if_neg (by decide), if_neg (by decide), if_neg (by decide), next]
    rfl
  rw [pitSlot_owned open_ owner (by decide) ready, State.serve, if_neg (by decide), if_neg (by decide), if_neg (by decide)]

/-- A staged word that is given as it stands. -/
theorem pitSlot_staged (read : (s.opened slot).pitRead (stagingBase + k) ecc s.staging.holder = (some (s.pitWord (stagingBase + k)), u))
    (keeps : u.staging = s.staging) : s.pitSlot slot ecc = { u.servedNow with staging := s.staging.wordRead k } := by
  have next' : (s.opened slot).systemRead = some (k, dest) := next
  have holder : (s.opened slot).staging.holder = s.staging.holder := rfl
  have kept : (s.opened slot).keepRead k (s.pitWord (stagingBase + k)) = Sparse.write none s.staging.misread k none :=
    congrArg (Sparse.write none s.staging.misread k) (if_pos rfl)
  rw [pitSlot_system open_ owner next, State.serveSystem, next']
  dsimp only
  rw [holder, read]
  dsimp only
  rw [kept, keeps]
  rfl

theorem pitSlot_staged_lost (read : (s.opened slot).pitRead (stagingBase + k) ecc s.staging.holder = (none, u))
    (keeps : u.staging = s.staging) : s.pitSlot slot ecc = { u.servedNow with staging := s.staging.wordLost k dest } := by
  have next' : (s.opened slot).systemRead = some (k, dest) := next
  have holder : (s.opened slot).staging.holder = s.staging.holder := rfl
  rw [pitSlot_system open_ owner next, State.serveSystem, next']
  dsimp only
  rw [holder, read]
  cases dest with
  | none =>
    dsimp only
    rw [keeps]
    rfl
  | some b =>
    dsimp only
    rw [keeps]
    rfl

end

/-- With nothing staged to read, the first corrected word is written back. -/
theorem pitSlot_scrub (idle : s.systemRead = none) {a : Nat} {v : Word} {rest : List (Nat × Word)} (scrub : s.pit.scrub = (a, v) :: rest) :
    s.pitSlot slot ecc = { s.inSlot slot with pit := { s.pit with
      nextSlot := slot + 1, mem := Sparse.write none s.pit.mem a (some (pitCode v))
      scrub := rest.filter (fun z => decide (z.1 ≠ a)) } } := by
  have ready : s.ready 13 = true := by
    rw [State.ready, if_neg (by decide), if_neg (by decide), if_neg (by decide), scrub]
    exact Bool.or_true _
  have idle' : (s.opened slot).systemRead = none := idle
  have scrub' : (s.opened slot).pit.scrub = (a, v) :: rest := scrub
  rw [pitSlot_owned open_ owner (by decide) ready, State.serve, if_neg (by decide), if_neg (by decide), if_neg (by decide),
    State.serveSystem, idle']
  dsimp only
  rw [scrub']
  rfl

end

/-! ### Spare slots -/

section
variable {o : Nat} (owner : slotOwner (s.code 5).toNat slot = o)
include owner

/-- A slot that finds no request ready passes. -/
theorem pitSlot_idle (quiet : ∀ r, r < 14 → s.ready r = false) : s.pitSlot slot ecc = s.opened slot := by
  have spare : 14 ≤ o ∨ s.ready o = false := by
    rcases Nat.lt_or_ge o 14 with k | k
    · exact .inr (quiet o k)
    · exact .inl k
  have passes : (s.opened slot).serveSpare ecc = (s.opened slot, false) := by
    cases grant : s.pit.grant with
    | none => exact serveSpare_none (s := s.opened slot) grant (spareWinner_none_iff.mpr quiet)
    | some x =>
      have idle : ¬((s.opened slot).ready (8 + x.val) = true) := by
        rw [opened_ready, quiet _ (by omega)]
        decide
      exact (serveSpare_granted (s := s.opened slot) grant).trans (if_neg idle)
  rw [pitSlot_spare open_ owner spare, passes]
  rfl

variable (spare : 14 ≤ o ∨ s.ready o = false)
include spare

theorem pitSlot_granted {x : TenantId} (grant : s.pit.grant = some x) : s.pitSlot slot ecc =
    if s.ready (8 + x.val) = true then ((s.opened slot).serve (8 + x.val) ecc).servedNow else s.opened slot := by
  have taken := serveSpare_granted (s := s.opened slot) (ecc := ecc) grant
  rw [pitSlot_spare open_ owner spare, taken, opened_ready]
  cases s.ready (8 + x.val) <;> rfl

/-- A spare slot that a requester wins: a port with the same frame before and after it holds the grant. -/
theorem pitSlot_won (grant : s.pit.grant = none) {r : Nat} (winner : s.spareWinner = some r) {u : State}
    (hu : u = ({ s with pit := { s.pit with nextSlot := slot + 1, pointer := (r + 1) % 14 } } : State).serve r ecc) :
    s.pitSlot slot ecc =
      (if (if 8 ≤ r ∧ r < 12 then s.headOf r else none).isSome && decide (u.headOf r = if 8 ≤ r ∧ r < 12 then s.headOf r else none)
        then { u with pit := { u.pit with grant := some (tenantOf (r - 8)) } } else u).servedNow := by
  rw [pitSlot_spare open_ owner spare, serveSpare_won (s := s.opened slot) grant winner hu, if_pos rfl]
  rfl

section
variable (grant : s.pit.grant = none) {r : Nat} (winner : s.spareWinner = some r) {u : State}
  (hu : u = ({ s with pit := { s.pit with nextSlot := slot + 1, pointer := (r + 1) % 14 } } : State).serve r ecc)
include grant winner hu

theorem pitSlot_won_done (done : ∀ (x : TenantId) j k, r = 8 + x.val → (s.tenant x).port.jobs.head? = some j →
    (u.tenant x).port.jobs.head? = some k → k.id ≠ j.id) : s.pitSlot slot ecc = u.servedNow := by
  have ends : ¬(((if 8 ≤ r ∧ r < 12 then s.headOf r else none).isSome &&
      decide (u.headOf r = if 8 ≤ r ∧ r < 12 then s.headOf r else none)) = true) := by
    intro still
    simp only [Bool.and_eq_true, decide_eq_true_eq] at still
    obtain ⟨has, same⟩ := still
    by_cases port : 8 ≤ r ∧ r < 12
    · rw [if_pos port] at has same
      have number : r = 8 + (tenantOf (r - 8)).val := by
        rw [tenantOf]
        dsimp only
        omega
      obtain ⟨n, hn⟩ := Option.isSome_iff_exists.mp has
      obtain ⟨j, hj, ej⟩ := Option.map_eq_some_iff.mp hn
      obtain ⟨k, hk, ek⟩ := Option.map_eq_some_iff.mp (same.trans hn)
      exact done _ j k number hj hk (ek.trans ej.symm)
    · rw [if_neg port] at has
      cases has
  rw [pitSlot_won open_ owner spare grant winner hu, if_neg ends]

theorem pitSlot_won_on {x : TenantId} {j k : PortJob} (e : r = 8 + x.val) (hj : (s.tenant x).port.jobs.head? = some j)
    (hk : (u.tenant x).port.jobs.head? = some k) (same : k.id = j.id) :
    s.pitSlot slot ecc = State.servedNow { u with pit := { u.pit with grant := some x } } := by
  have here : tenantOf (r - 8) = x := by rw [e, tenantOf_ep]
  have port : 8 ≤ r ∧ r < 12 := by omega
  have before : s.headOf r = some j.id := by rw [State.headOf, here, hj, Option.map_some]
  have after : u.headOf r = some j.id := by rw [State.headOf, here, hk, Option.map_some, same]
  rw [pitSlot_won open_ owner spare grant winner hu, if_pos port, before, after, here, if_pos (by simp)]

end

end

end

end Sys2Proof.Machine
end

section
/-! SUPPORT. O45: the accesses of the pit. -/
namespace Sys2Proof.Machine

/-- Settles O45, requester by requester: a slot's owner with a request ready is served, else the spare decision falls. -/
theorem pitAccessesAndSpares : Obligations.PitAccessesAndSpares := by
  have out {slot : Fin 7680} {ecc : EccRead} {s t : State} (h : s.pitSlot slot.val ecc = t) : exec (.pitAccess slot ecc) s = .next t :=
    congrArg Host.Outcome.next h
  refine ⟨fun slot ecc s o owner => ⟨fun h => out (pitSlot_passed h), fun running whole goes ahead => ?_⟩, fun s =>
    ⟨fun r => spareWinner_spec, spareWinner_none_iff.mp, fun b => ?_, fun x => ?_, rfl, rfl⟩⟩
  · have open_ : ¬(s.running = false ∨ s.isWedged 1 = true ∨ s.clock.stepped = .stopped ∨ slot.val < s.pit.nextSlot) := by
      simp only [running, whole, goes, ahead.not_gt]
      decide
    refine ⟨fun quiet => out (pitSlot_idle open_ owner.symm quiet), ?_, ?_, ?_, ?_, ?_, ?_, ?_, ?_, ?_⟩
    · intro b q rest e reads clear
      have own := owner.symm.trans e
      exact ⟨fun h => out (pitSlot_prd_fails open_ own reads clear h),
        fun h passes clean => out (pitSlot_prd_clean open_ own reads clear h passes clean),
        fun h passes written x mine => ⟨fun k => out (pitSlot_prd_corrected open_ own reads clear h passes written mine k),
          fun k => out (pitSlot_prd_uncorrectable open_ own reads clear h passes written mine k)⟩⟩
    · intro b q w rest more e reads writes first clear
      have own := owner.symm.trans e
      exact ⟨fun h passes hq rights wf => out (pitSlot_prd_afterWrite open_ own reads writes first clear ⟨h, passes⟩ hq rights wf),
        fun fresh h => out (pitSlot_prd_afterFailure open_ own reads writes first clear fresh h)⟩
    · intro b q rest e reads writes
      have own := owner.symm.trans e
      exact ⟨fun h => out (pitSlot_pwr_stores open_ own reads writes h),
        fun fresh h => out (pitSlot_pwr_fails open_ own reads writes fresh h)⟩
    · intro x j rest e grant jobs fresh
      have own := owner.symm.trans e
      have h : s.Serves x (j :: rest) := ⟨jobs, grant⟩
      refine ⟨fun kind full passes v more left => out (pitSlot_write open_ own h fresh left kind full passes), ?_,
        fun kind fails v more left => out (pitSlot_late open_ own h fresh left kind fails),
        fun g kind v more left => out (pitSlot_load open_ own h fresh left kind), ?_, ?_,
        fun tag kind fails w more left => out (pitSlot_refused open_ own h fresh left kind fails)⟩
      · rintro kind part passes v more _ left rfl
        exact ⟨fun m merge => out (pitSlot_partial open_ own h fresh left kind part passes merge),
          fun merge clean => out (pitSlot_merge_clean open_ own h fresh left kind part passes merge clean),
          fun merge written =>
            ⟨fun k => out (pitSlot_merge_corrected open_ own h fresh left kind part passes merge written k),
              fun k => out (pitSlot_merge_uncorrectable open_ own h fresh left kind part passes merge written k)⟩⟩
      · rintro tag kind passes clean _ w more left rfl
        exact out (pitSlot_read_clean open_ own h fresh left kind passes clean)
      · exact fun tag kind passes written w more left =>
          ⟨fun k => out (pitSlot_read_corrected open_ own h fresh left kind passes written k),
            fun k => out (pitSlot_read_uncorrectable open_ own h fresh left kind passes written k)⟩
    · intro e k dest next
      have own := owner.symm.trans e
      refine ⟨fun clean => out (pitSlot_staged open_ own next (pitRead_clean (s := s.opened slot.val) clean _) rfl), ?_⟩
      intro written x holder
      refine ⟨fun c => out ?_, fun c => out ?_⟩
      · have read : (s.opened slot.val).pitRead (stagingBase + k) ecc s.staging.holder = (some (s.pitWord (stagingBase + k)),
            (s.opened slot.val).correctedWord x (stagingBase + k) (s.pitWord (stagingBase + k))) := by
          rw [holder, c]
          exact pitRead_corrected (s := s.opened slot.val) written x
        have keeps : ((s.opened slot.val).correctedWord x (stagingBase + k) (s.pitWord (stagingBase + k))).staging = s.staging :=
          State.raise_staging ..
        rw [pitSlot_staged open_ own next read keeps, servedNow_correctedWord]
        rfl
      · have read : (s.opened slot.val).pitRead (stagingBase + k) ecc s.staging.holder = (none, (s.opened slot.val).raise x 11) := by
          rw [holder, c]
          exact pitRead_uncorrectable (s := s.opened slot.val) written x
        have keeps : ((s.opened slot.val).raise x 11).staging = s.staging := State.raise_staging ..
        rw [pitSlot_staged_lost open_ own next read keeps, servedNow_raise]
        cases dest <;> rfl
    · exact fun e idle a v rest scrub => out (pitSlot_scrub open_ (owner.symm.trans e) idle scrub)
    · exact fun k w e latch passes => out (pitSlot_ring open_ (owner.symm.trans e) latch passes)
    · exact fun lt ready => ⟨_, rfl, out (pitSlot_owned open_ owner.symm lt ready)⟩
    · intro spare
      refine ⟨fun x grant => ⟨fun ready => ⟨_, rfl, out ?_⟩, fun idle => out ?_⟩, fun grant r winner => ⟨_, rfl, ?_, ?_⟩⟩
      · exact (pitSlot_granted open_ owner.symm spare grant).trans (if_pos ready)
      · exact (pitSlot_granted open_ owner.symm spare grant).trans (if_neg (by rw [idle]; decide))
      · exact fun done => out (pitSlot_won_done open_ owner.symm spare grant winner rfl done)
      · exact fun x j k e hj hk same => out (pitSlot_won_on open_ owner.symm spare grant winner rfl e hj hk same)
  · rw [State.priority, if_pos b.isLt, benchOf_val]
  · rw [State.priority, if_neg (by omega), if_pos (by omega)]

end Sys2Proof.Machine
end

section
/-! SUPPORT. The operations that leave the NV memory as it is: one lemma for each, for the proof that no command lowers a floor. -/
namespace Sys2Proof.Machine

@[simp] theorem ite_wb (c : Prop) [Decidable c] (a b : State) : (if c then a else b).wb = if c then a.wb else b.wb := by split <;> rfl

@[simp] theorem ite_snd_wb {α : Type} (c : Prop) [Decidable c] (a b : α × State) :
    (if c then a else b).2.wb = if c then a.2.wb else b.2.wb := by split <;> rfl

@[simp] theorem ite_next_wb (c : Prop) [Decidable c] (a b : Verdict) :
    (if c then a else b).next.wb = if c then a.next.wb else b.next.wb := by split <;> rfl

@[simp] theorem ite_wb_nv (c : Prop) [Decidable c] (a b : Weighbridge) : (if c then a else b).nv = if c then a.nv else b.nv := by split <;> rfl

@[simp] theorem foldl_nv {α : Type} (g : State → α → State) (h : ∀ u a, (g u a).wb.nv = u.wb.nv) (l : List α) (s : State) :
    (l.foldl g s).wb.nv = s.wb.nv := foldl_keeps (f := fun u => u.wb.nv) h s l

@[simp] theorem foldl_snd_nv {α β : Type} (g : β × State → α → β × State) (h : ∀ u a, (g u a).2.wb.nv = u.2.wb.nv)
    (l : List α) (s : β × State) : (l.foldl g s).2.wb.nv = s.2.wb.nv := foldl_keeps (f := fun u => u.2.wb.nv) h s l

/-! ### Ops -/

@[simp] theorem State.takeFree_nv (s : State) :
    s.takeFree.2.wb.nv = s.wb.nv := by simp [State.takeFree]

@[simp] theorem State.recognise_nv (s : State) (ns never sure : Nat) :
    (s.recognise ns never sure).2.wb.nv = s.wb.nv := by simp [State.recognise]

/-! ### Audio -/

@[simp] theorem State.portEvents_nv (s : State) (t : TenantId) (slip : Option Slip) (faded : Bool) :
    (s.portEvents t slip faded).wb.nv = s.wb.nv := by unfold State.portEvents; split <;> simp

@[simp] theorem State.sapStrobe_nv (s : State) (frame : Nat) (frames : Vector (List Word) 8) (p : SapId) :
    (s.sapStrobe frame frames p).wb.nv = s.wb.nv := by unfold State.sapStrobe; split <;> simp

@[simp] theorem State.audioStrobe_nv (s : State) (frame : Nat) (frames : Vector (List Word) 8) :
    (s.audioStrobe frame frames).wb.nv = s.wb.nv := by simp [State.audioStrobe]

@[simp] theorem State.publishSap_nv (s : State) (b : BenchId) (outputs : List (Nat × Word)) (p : SapId) :
    (s.publishSap b outputs p).wb.nv = s.wb.nv := by
  unfold State.publishSap
  split
  · rfl
  · dsimp only
    split
    · rfl
    · apply foldl_nv
      exact fun _ _ => rfl

@[simp] theorem State.publishAudio_nv (s : State) (b : BenchId) (outputs : List (Nat × Word)) :
    (s.publishAudio b outputs).wb.nv = s.wb.nv := by simp [State.publishAudio]

@[simp] theorem State.followerFrameComplete_nv (s : State) (p : SapId) (bits : Nat) (samples : List Word) (cycle : Nat) :
    (s.followerFrameComplete p bits samples cycle).wb.nv = s.wb.nv := by unfold State.followerFrameComplete; split <;> simp

@[simp] theorem State.loadOne_nv (s : State) (p : SapId) (now q : Nat) (lead : Bool) (slip : Option Slip) :
    (s.loadOne p now q lead slip).wb.nv = s.wb.nv := by unfold State.loadOne; split <;> simp

@[simp] theorem State.followLead_nv (s : State) (m : SapId) (now q : Nat) (slip : Option Slip) :
    (s.followLead m now q slip).wb.nv = s.wb.nv := by simp [State.followLead]

@[simp] theorem State.followerCapture_nv (s : State) (p : SapId) :
    (s.followerCapture p).wb.nv = s.wb.nv := by simp [State.followerCapture]

@[simp] theorem State.followerOutputLoad_nv (s : State) (p : SapId) (cycle : Nat) :
    (s.followerOutputLoad p cycle).wb.nv = s.wb.nv := by simp [State.followerOutputLoad]

@[simp] theorem State.startPorts_nv (s : State) (f : Nat) :
    (s.startPorts f).wb.nv = s.wb.nv := by simp [State.startPorts]

@[simp] theorem State.dropStarts_nv (s : State) :
    s.dropStarts.wb.nv = s.wb.nv := by simp [State.dropStarts]

@[simp] theorem State.masterPortStart_nv (s : State) (p : SapId) :
    (s.masterPortStart p).wb.nv = s.wb.nv := by simp [State.masterPortStart]

@[simp] theorem State.nameSap_nv (s : State) (t : TenantId) (p : SapId) (e : Option PortEntry) :
    (s.nameSap t p e).wb.nv = s.wb.nv := by unfold State.nameSap; split <;> simp

@[simp] theorem State.stopAudio_nv (s : State) :
    s.stopAudio.wb.nv = s.wb.nv := by simp [State.stopAudio]

@[simp] theorem State.gapAudio_nv (s : State) :
    s.gapAudio.wb.nv = s.wb.nv := by simp [State.gapAudio]

/-! ### Glide -/

@[simp] theorem State.requestCommit_nv (s : State) (t : TenantId) (mask : Byte) (crcs : Option (List Word)) :
    (State.requestCommit s t mask crcs).2.wb.nv = s.wb.nv := by
  unfold State.requestCommit
  dsimp only
  split
  · apply foldl_nv
    exact fun _ _ => rfl
  · rfl

@[simp] theorem State.commitDone_nv (s : State) (t : TenantId) :
    (State.commitDone s t).wb.nv = s.wb.nv := by
  unfold State.commitDone
  dsimp only
  split
  · rfl
  · rw [State.raise_wb]
    apply foldl_nv
    exact fun _ _ => rfl

/-! ### Log -/

@[simp] theorem State.takeEntry_nv (s : State) (source kind : Byte) (payload : List Byte) :
    (s.takeEntry source kind payload).2.wb.nv = s.wb.nv := (s.takeEntry_wb source kind payload).1

@[simp] theorem State.logWitness_nv (s : State) (source kind : Byte) (payload : List Byte) :
    (s.logWitness source kind payload).2.wb.nv = s.wb.nv := by simp [State.logWitness]

@[simp] theorem State.appendEntry_nv (s : State) (t : TenantId) (witness : Bool) (source kind : Byte) (payload : List Byte) :
    (s.appendEntry t witness source kind payload).2.2.wb.nv = s.wb.nv := by unfold State.appendEntry; (repeat' split) <;> simp

/-! ### Sense -/

@[simp] theorem State.amendDiag_nv (s : State) (c : DiagChange) :
    (s.amendDiag c).wb.nv = s.wb.nv := by simp [State.amendDiag]

@[simp] theorem State.raiseChan_nv (s : State) (ch : SenseId) (bit : Nat) :
    (s.raiseChan ch bit).wb.nv = s.wb.nv := by unfold State.raiseChan; split <;> simp

@[simp] theorem State.tripRetry_nv (s : State) (ch : SenseId) (ms : Nat) :
    (s.tripRetry ch ms).wb.nv = s.wb.nv := by simp [State.tripRetry]

@[simp] theorem State.allExcOff_nv (s : State) :
    s.allExcOff.wb.nv = s.wb.nv := by simp [State.allExcOff]

@[simp] theorem State.removeExcitation_nv (s : State) :
    s.removeExcitation.wb.nv = s.wb.nv := by simp [State.removeExcitation]

@[simp] theorem State.excOff_nv (s : State) (mv us : Nat) :
    (s.excOff mv us).wb.nv = s.wb.nv := by simp [State.excOff]

@[simp] theorem State.excRestore_nv (s : State) (mvLow mvHigh ms : Nat) :
    (s.excRestore mvLow mvHigh ms).wb.nv = s.wb.nv := by simp [State.excRestore]

@[simp] theorem State.settleComplete_nv (s : State) (ch : SenseId) :
    (s.settleComplete ch).wb.nv = s.wb.nv := by unfold State.settleComplete; split <;> simp

@[simp] theorem State.pulseEdge_nv (s : State) (ch : SenseId) (mv : Int) (ts persistNs window : Nat) :
    (s.pulseEdge ch mv ts persistNs window).wb.nv = s.wb.nv := by unfold State.pulseEdge; (repeat' split) <;> simp

/-! ### Benches -/

@[simp] theorem State.setBenchState_nv (s : State) (b : BenchId) (st : BenchState) :
    (s.setBenchState b st).wb.nv = s.wb.nv := by simp [State.setBenchState]

@[simp] theorem State.modCells_nv (s : State) (cs : List Nat) (f : OwnCell → OwnCell) :
    (s.modCells cs f).wb.nv = s.wb.nv := by simp [State.modCells]

@[simp] theorem State.judgeBench_nv (s : State) (b : BenchId) :
    (s.judgeBench b).wb.nv = s.wb.nv := by simp [State.judgeBench]

@[simp] theorem State.judgeReleases_nv (s : State) :
    s.judgeReleases.wb.nv = s.wb.nv := by simp [State.judgeReleases]

@[simp] theorem State.armBench_nv (s : State) (b : BenchId) :
    (s.armBench b).wb.nv = s.wb.nv := by simp [State.armBench]

@[simp] theorem State.beginPeriod_nv (s : State) (b : BenchId) (first : Bool) (vector before : Nat) :
    (s.beginPeriod b first vector before).wb.nv = s.wb.nv := by simp [State.beginPeriod]

@[simp] theorem State.requestPlan_nv (s : State) (b : BenchId) (p : Option (BitVec 3)) :
    (s.requestPlan b p).wb.nv = s.wb.nv := by unfold State.requestPlan; (repeat' split) <;> simp

@[simp] theorem State.publish_nv (s : State) (b : BenchId) :
    (s.publish b).wb.nv = s.wb.nv := by simp [State.publish]

@[simp] theorem State.loadPlan_nv (s : State) (w : Word) :
    (State.loadPlan s w).wb.nv = s.wb.nv := (rfl)

@[simp] theorem State.planSwitch_nv (s : State) :
    s.planSwitch.wb.nv = s.wb.nv := by unfold State.planSwitch; split <;> simp

@[simp] theorem State.cancelPlan_nv (s : State) (t : TenantId) :
    (s.cancelPlan t).wb.nv = s.wb.nv := by simp [State.cancelPlan]

@[simp] theorem State.droops_nv (s : State) (mv : Nat) :
    (s.droops mv).2.wb.nv = s.wb.nv := by simp [State.droops]

@[simp] theorem State.stretchCycle_nv (s : State) (b : BenchId) (mv cycle : Nat) :
    (s.stretchCycle b mv cycle).wb.nv = s.wb.nv := by simp [State.stretchCycle]

@[simp] theorem State.takeStart_nv (s : State) :
    s.takeStart.wb.nv = s.wb.nv := by simp [State.takeStart]

@[simp] theorem State.startEdge_nv (s : State) (before : PinInput) (lowNs : Nat) (after : PinInput) (highNs : Nat) :
    (s.startEdge before lowNs after highNs).wb.nv = s.wb.nv := by simp [State.startEdge]

/-! ### Straps -/

@[simp] theorem State.provNObserve_nv (s : State) (mv vddIo : Nat) :
    (State.provNObserve s mv vddIo).wb.nv = s.wb.nv := by
  unfold State.provNObserve
  (repeat' split) <;> rfl

/-! ### Weighbridge -/

@[simp] theorem State.serviceStart_nv (s : State) (bad : List (Fin 4096 × Vector Byte 64)) :
    (s.serviceStart bad).wb.nv = s.wb.nv := by unfold State.serviceStart; (repeat' split) <;> simp

@[simp] theorem State.completeTag_nv (s : State) (t : TenantId) (tag : Nat) (data : List Word) (code : Byte) (marks : SeqPair × SeqPair) :
    (s.completeTag t tag data code marks).wb.nv = s.wb.nv := by simp [State.completeTag]

@[simp] theorem State.sign_nv (s : State) (words : List Word) :
    (s.sign words).2.wb.nv = s.wb.nv := by simp [State.sign]

@[simp] theorem State.request_nv (s : State) (t : TenantId) (tag : Nat) (op : TagOp) (q : WbRequest) :
    (State.request s t tag op q).wb.nv = s.wb.nv := by
  unfold State.request
  split
  · exact State.completeTag_nv ..
  · rfl

@[simp] theorem State.retireRequests_nv (s : State) (t : TenantId) :
    (s.retireRequests t).wb.nv = s.wb.nv := by simp [State.retireRequests]

/-! ### Power -/

@[simp] theorem State.vexcOvervoltage_nv (s : State) (mv : Nat) :
    (s.vexcOvervoltage mv).wb.nv = s.wb.nv := by simp [State.vexcOvervoltage]

@[simp] theorem State.vexcReconnect_nv (s : State) (mv ms : Nat) :
    (s.vexcReconnect mv ms).wb.nv = s.wb.nv := by simp [State.vexcReconnect]

@[simp] theorem State.porExit_nv (s : State) (mv : Vector Nat 8) (resetN : Option Nat) (heldUs tapUs : Nat) (trstN : Vector (Option Nat) 4) :
    (State.porExit s mv resetN heldUs tapUs trstN).wb.nv = s.wb.nv := by
  unfold State.porExit
  dsimp only
  split <;> rfl

@[simp] theorem State.startUnitFault_nv (s : State) :
    s.startUnitFault.wb.nv = s.wb.nv := by simp [State.startUnitFault]

@[simp] theorem State.faultNPattern_nv (s : State) :
    s.faultNPattern.wb.nv = s.wb.nv := by unfold State.faultNPattern; split <;> simp

@[simp] theorem State.heldThermal_nv (s : State) :
    s.heldThermal.wb.nv = s.wb.nv := by simp [State.heldThermal]

/-! ### Clock -/

@[simp] theorem State.takeRefLink_nv (s : State) (up down : Bool) :
    (s.takeRefLink up down).wb.nv = s.wb.nv := by simp [State.takeRefLink]

@[simp] theorem State.referencePresent_nv (s : State) (ppm1 ppm2 : Int) (aligned up down : Bool) :
    (s.referencePresent ppm1 ppm2 aligned up down).wb.nv = s.wb.nv := by simp [State.referencePresent]

@[simp] theorem State.firstLock_nv (s : State) (vt : Nat) :
    (s.firstLock vt).wb.nv = s.wb.nv := by simp [State.firstLock]

/-! ### Mailbox -/

@[simp] theorem State.postNotice_nv (s : State) (sender receiver : Nat) (notice : Word) (waitFor : Nat) :
    (s.postNotice sender receiver notice waitFor).2.wb.nv = s.wb.nv := by simp [State.postNotice]

@[simp] theorem State.withdrawNotice_nv (s : State) (sender receiver : Nat) :
    (s.withdrawNotice sender receiver).2.wb.nv = s.wb.nv := by unfold State.withdrawNotice; split <;> simp

@[simp] theorem State.pruneChannels_nv (s : State) :
    s.pruneChannels.wb.nv = s.wb.nv := by simp [State.pruneChannels]

@[simp] theorem State.takeNotice_nv (s : State) (sender receiver : Nat) :
    (s.takeNotice sender receiver).2.wb.nv = s.wb.nv := by unfold State.takeNotice; split <;> simp

@[simp] theorem State.ackNotice_nv (s : State) (sender receiver : Nat) (code : Half) (waitFor : Nat) :
    (s.ackNotice sender receiver code waitFor).2.wb.nv = s.wb.nv := by unfold State.ackNotice; split <;> simp

@[simp] theorem State.noticeVisible_nv (s : State) (id : Nat) :
    (s.noticeVisible id).wb.nv = s.wb.nv := by unfold State.noticeVisible; split <;> simp

@[simp] theorem State.ackVisible_nv (s : State) (id : Nat) :
    (s.ackVisible id).wb.nv = s.wb.nv := by unfold State.ackVisible; (repeat' split) <;> simp

@[simp] theorem State.raiseChannel_nv (s : State) (c : Channel) (bit : Nat) :
    (s.raiseChannel c bit).wb.nv = s.wb.nv := by unfold State.raiseChannel; split <;> simp

@[simp] theorem State.mbxTimeout_nv (s : State) (id : Nat) :
    (s.mbxTimeout id).wb.nv = s.wb.nv := by unfold State.mbxTimeout; split <;> simp

@[simp] theorem State.emptyTo_nv (s : State) (b : BenchId) :
    (s.emptyTo b).wb.nv = s.wb.nv := by simp [State.emptyTo]

@[simp] theorem State.emptyTenant_nv (s : State) (t : TenantId) :
    (s.emptyTenant t).wb.nv = s.wb.nv := by simp [State.emptyTenant]

@[simp] theorem State.restartTenant_nv (s : State) (t : TenantId) :
    (s.restartTenant t).wb.nv = s.wb.nv := by simp [State.restartTenant]

@[simp] theorem State.activateChannels_nv (s : State) (t : TenantId) (decls : List ChannelDecl) :
    (s.activateChannels t decls).wb.nv = s.wb.nv := by simp [State.activateChannels]

/-! ### Pit -/

@[simp] theorem State.pitScrub_nv (s : State) (a : Nat) (v : Word) :
    (s.pitScrub a v).wb.nv = s.wb.nv := by simp [State.pitScrub]

@[simp] theorem State.raiseFor_nv (s : State) (t : Option TenantId) (bit : Nat) :
    (s.raiseFor t bit).wb.nv = s.wb.nv := by unfold State.raiseFor; split <;> simp

@[simp] theorem State.pitRead_nv (s : State) (a : Nat) (ecc : EccRead) (t : Option TenantId) :
    (s.pitRead a ecc t).2.wb.nv = s.wb.nv := by unfold State.pitRead; (repeat' split) <;> simp

@[simp] theorem State.failPwr_nv (s : State) (b : BenchId) (q : BenchRequest) (code : Byte) :
    (State.failPwr s b q code).wb.nv = s.wb.nv := by
  unfold State.failPwr
  (repeat' split) <;> simp

@[simp] theorem State.failHost_nv (s : State) (t : TenantId) (j : PortJob) (code : Byte) :
    (s.failHost t j code).wb.nv = s.wb.nv := by simp [State.failHost]

@[simp] theorem State.queueLateFail_nv (s : State) (w : LatchedWrite) (code : Byte) :
    (s.queueLateFail w code).wb.nv = s.wb.nv := by simp [State.queueLateFail]

@[simp] theorem State.poisonBench_nv (s : State) (b : BenchId) :
    (State.poisonBench s b).wb.nv = s.wb.nv := foldl_nv _ (fun u q => u.failPwr_nv b q 0x1b) _ _

@[simp] theorem State.failWords_nv (s : State) (t : TenantId) (j : PortJob) (code : Byte) (ws : List Word) :
    (s.failWords t j code ws).wb.nv = s.wb.nv := by
  induction ws generalizing s j with
  | nil => rfl
  | cons w rest ih => unfold State.failWords; simp [ih]

@[simp] theorem State.poisonRing_nv (s : State) :
    s.poisonRing.wb.nv = s.wb.nv := by simp [State.poisonRing]

@[simp] theorem State.poisonSystem_nv (s : State) :
    s.poisonSystem.wb.nv = s.wb.nv := by simp [State.poisonSystem]

/-! ### Ring -/

@[simp] theorem State.ringEvent_nv (s : State) (bit : Nat) :
    (s.ringEvent bit).wb.nv = s.wb.nv := by simp [State.ringEvent]

@[simp] theorem State.raiseRing_nv (s : State) :
    s.raiseRing.wb.nv = s.wb.nv := by simp [State.raiseRing]

@[simp] theorem State.failRwr_nv (s : State) (b : BenchId) (tag : BitVec 12) (addr : Nat) (code : Byte) :
    (State.failRwr s b tag addr code).wb.nv = s.wb.nv := by
  unfold State.failRwr
  (repeat' split) <;> simp

@[simp] theorem State.endMessage_nv (s : State) (m : SentMessage) (reply : Option Byte) :
    (s.endMessage m reply).wb.nv = s.wb.nv := by unfold State.endMessage; (repeat' split) <;> simp

@[simp] theorem State.loseMessages_nv (s : State) :
    s.loseMessages.wb.nv = s.wb.nv := by simp [State.loseMessages]

@[simp] theorem State.failInFlight_nv (s : State) :
    s.failInFlight.wb.nv = s.wb.nv := by
  unfold State.failInFlight
  rw [foldl_nv _ (fun u m => by split <;> simp)]
  simp

@[simp] theorem State.failQueued_nv (s : State) (b : BenchId) :
    (s.failQueued b).wb.nv = s.wb.nv := by simp [State.failQueued]

@[simp] theorem State.loseLock_nv (s : State) :
    s.loseLock.wb.nv = s.wb.nv := by simp [State.loseLock]

@[simp] theorem State.lossCode_nv (s : State) (cause : Nat) :
    (s.lossCode cause).2.wb.nv = s.wb.nv := by simp [State.lossCode]

@[simp] theorem State.latchWrite_nv (s : State) (i : Nat) (w : LatchedWrite) :
    (s.latchWrite i w).wb.nv = s.wb.nv := by simp [State.latchWrite]

@[simp] theorem State.judgeWrite_nv (s : State) (i : Nat) (m : MessageSlot) :
    (s.judgeWrite i m).2.wb.nv = s.wb.nv := by simp [State.judgeWrite]

@[simp] theorem State.takeLateFail_nv (s : State) (m : MessageSlot) :
    (s.takeLateFail m).wb.nv = s.wb.nv := by simp [State.takeLateFail]

@[simp] theorem State.judgeSlot_nv (s : State) (i : Nat) (m : MessageSlot) :
    (s.judgeSlot i m).2.wb.nv = s.wb.nv := by simp [State.judgeSlot]

@[simp] theorem State.takeReply_nv (s : State) (i : Nat) (sent : SentMessage) (m : MessageSlot) :
    (s.takeReply i sent m).2.wb.nv = s.wb.nv := by simp [State.takeReply]

theorem State.nextMessage_nv {s u : State} {n : MessageSlot} {m : SentMessage} (h : s.nextMessage = some (n, m, u)) :
    u.wb.nv = s.wb.nv := by
  unfold State.nextMessage at h
  split at h
  · cases h; rfl
  · split at h <;> cases h; rfl

@[simp] theorem State.visitSlot_nv (s : State) (i : Nat) (m : MessageSlot) (inserted : Bool) :
    (s.visitSlot i m inserted).2.2.wb.nv = s.wb.nv := by
  unfold State.visitSlot
  simp only
  split
  · simp
  · split
    · split
      · simp
      · next h => simp [State.nextMessage_nv h]
    · simp

@[simp] theorem State.visitSlots_nv (s : State) (i : Nat) (inserted : Bool) (ms : List MessageSlot) :
    (s.visitSlots i inserted ms).2.wb.nv = s.wb.nv := by
  induction ms generalizing s i inserted with
  | nil => rfl
  | cons m rest ih => unfold State.visitSlots; simp [ih]

@[simp] theorem State.takeRingStart_nv (s : State) :
    s.takeRingStart.wb.nv = s.wb.nv := by unfold State.takeRingStart; (repeat' split) <;> simp

@[simp] theorem State.visitMessages_nv (s : State) (l : Lap) :
    (s.visitMessages l).2.wb.nv = s.wb.nv := by simp [State.visitMessages]

@[simp] theorem State.visitCells_nv (s : State) (l : Lap) :
    (s.visitCells l).2.wb.nv = s.wb.nv := by simp [State.visitCells]

@[simp] theorem State.memberLap_nv (s : State) (l : Lap) (collects : Bool) :
    (s.memberLap l collects).wb.nv = s.wb.nv := by simp [State.memberLap]

@[simp] theorem State.sendLap_nv (s : State) (n : Nat) (l : Lap) :
    (s.sendLap n l).wb.nv = s.wb.nv := by simp [State.sendLap]

@[simp] theorem State.masterVisit_nv (s : State) (l : Lap) (err : Int) :
    (s.masterVisit l err).wb.nv = s.wb.nv := by simp [State.masterVisit]

@[simp] theorem State.unturn_nv (s : State) (link : RingLink) (l : Lap) :
    (s.unturn link l).wb.nv = s.wb.nv := by unfold State.unturn; split <;> simp

@[simp] theorem State.missLap_nv (s : State) :
    s.missLap.wb.nv = s.wb.nv := by simp [State.missLap]

@[simp] theorem State.ringStrobe_nv (s : State) :
    s.ringStrobe.wb.nv = s.wb.nv := by simp [State.ringStrobe]

@[simp] theorem State.lockBench_nv (s : State) (b : BenchId) :
    (s.lockBench b).wb.nv = s.wb.nv := by simp [State.lockBench]

@[simp] theorem State.phaseStep_nv (s : State) (cycles : Nat) :
    (s.phaseStep cycles).wb.nv = s.wb.nv := by simp [State.phaseStep]

@[simp] theorem State.laneDown_nv (s : State) (l : HeardLink) (silentChars errors : Nat) :
    (s.laneDown l silentChars errors).wb.nv = s.wb.nv := by simp [State.laneDown]

@[simp] theorem State.laneUp_nv (s : State) (l : HeardLink) (laps idleChars : Nat) :
    (s.laneUp l laps idleChars).wb.nv = s.wb.nv := by simp [State.laneUp]

@[simp] theorem State.rollcallStart_nv (s : State) (idleSeen : Bool) (ms : Nat) :
    (s.rollcallStart idleSeen ms).wb.nv = s.wb.nv := by simp [State.rollcallStart]

@[simp] theorem State.takeAssignment_nv (s : State) (table : List Word) :
    (s.takeAssignment table).wb.nv = s.wb.nv := by simp [State.takeAssignment]

/-! ### Faults -/

@[simp] theorem State.ownerByte_nv (s : State) (b : BenchId) :
    (s.ownerByte b).2.wb.nv = s.wb.nv := by unfold State.ownerByte; split <;> simp

@[simp] theorem State.dropOwner_nv (s : State) (b : BenchId) (source : Nat) :
    (s.dropOwner b source).wb.nv = s.wb.nv := by unfold State.dropOwner; split <;> simp

@[simp] theorem State.discardRwr_nv (s : State) (b : BenchId) :
    (State.discardRwr s b).wb.nv = s.wb.nv := by
  unfold State.discardRwr
  rw [foldl_nv _ fun u a => ?_]
  · rfl
  · rw [State.dropOwner_nv]
    rfl

@[simp] theorem State.refuseCommit_nv (s : State) (b : BenchId) :
    (s.refuseCommit b).wb.nv = s.wb.nv := by simp [State.refuseCommit]

@[simp] theorem State.dropJob_nv (s : State) (t : TenantId) (j : PortJob) :
    (s.dropJob t j).wb.nv = s.wb.nv := by
  unfold State.dropJob
  apply foldl_nv
  exact fun _ _ => rfl

@[simp] theorem State.retireTags_nv (s : State) (t : TenantId) (which : HostTag → Bool) :
    (s.retireTags t which).wb.nv = s.wb.nv := by simp [State.retireTags]

@[simp] theorem State.endGrant_nv (s : State) (t : TenantId) :
    (s.endGrant t).wb.nv = s.wb.nv := by simp [State.endGrant]

@[simp] theorem State.wedgePort_nv (s : State) (t : TenantId) :
    (s.wedgePort t).wb.nv = s.wb.nv := by simp [State.wedgePort]

@[simp] theorem State.wedgeRing_nv (s : State) :
    s.wedgeRing.wb.nv = s.wb.nv := by simp [State.wedgeRing]

@[simp] theorem State.writeNote_nv (s : State) (watchdog : Nat) :
    (s.writeNote watchdog).wb.nv = s.wb.nv := by simp [State.writeNote]

/-! ### Port -/

@[simp] theorem State.refuse_nv (s : State) (code : Byte) :
    (s.refuse code).next.wb.nv = s.wb.nv := by simp [State.refuse]

@[simp] theorem State.accept_nv (s : State) (reply : List Word) :
    (s.accept reply).next.wb.nv = s.wb.nv := by simp [State.accept]

@[simp] theorem State.acceptLater_nv (s : State) (code : Byte) (reply : List Word) :
    (s.acceptLater code reply).next.wb.nv = s.wb.nv := by simp [State.acceptLater]

@[simp] theorem State.acceptCross_nv (s : State) (g : InFlight) :
    (s.acceptCross g).next.wb.nv = s.wb.nv := by simp [State.acceptCross]

@[simp] theorem State.judge_nv (s : State) (x : TenantId) (f : HostFrame) (o : OpSpec) (hasReply unknown : Bool) (act : State → Verdict)
    (h : ∀ u, (act u).next.wb.nv = u.wb.nv) :
    (s.judge x f o hasReply unknown act).next.wb.nv = s.wb.nv := by simp [State.judge, h]

@[simp] theorem State.hostFrame_nv (s : State) (x : TenantId) (f : HostFrame) (o : OpSpec) (hasReply unknown : Bool) (act : State → Verdict)
    (h : ∀ u, (act u).next.wb.nv = u.wb.nv) :
    (s.hostFrame x f o hasReply unknown act).wb.nv = s.wb.nv := by simp [State.hostFrame, h]

@[simp] theorem State.hostStatus_nv (s : State) (x : TenantId) (f : HostFrame) :
    (s.hostStatus x f).wb.nv = s.wb.nv := by simp [State.hostStatus]

@[simp] theorem State.hostPoll_nv (s : State) (x : TenantId) (f : HostFrame) :
    (s.hostPoll x f).wb.nv = s.wb.nv := by simp [State.hostPoll]

@[simp] theorem State.hostResult_nv (s : State) (x : TenantId) (f : HostFrame) (seen : List (Option SlotSeen)) :
    (s.hostResult x f seen).wb.nv = s.wb.nv := by simp [State.hostResult]

@[simp] theorem State.hostEvents_nv (s : State) (x : TenantId) (f : HostFrame) :
    (s.hostEvents x f).wb.nv = s.wb.nv := by simp [State.hostEvents]

@[simp] theorem State.hostTimeRead_nv (s : State) (x : TenantId) (f : HostFrame) :
    (s.hostTimeRead x f).wb.nv = s.wb.nv := by simp [State.hostTimeRead]

@[simp] theorem State.hostTimeMark_nv (s : State) (x : TenantId) (f : HostFrame) :
    (s.hostTimeMark x f).wb.nv = s.wb.nv := by simp [State.hostTimeMark]

@[simp] theorem State.addJob_nv (s : State) (x : TenantId) (j : PortJob) :
    (s.addJob x j).wb.nv = s.wb.nv := by simp [State.addJob]

@[simp] theorem State.hostPost_nv (s : State) (x : TenantId) (f : HostFrame) :
    (s.hostPost x f).wb.nv = s.wb.nv := by simp [State.hostPost]

@[simp] theorem State.hostWithdraw_nv (s : State) (x : TenantId) (f : HostFrame) :
    (s.hostWithdraw x f).wb.nv = s.wb.nv := by simp [State.hostWithdraw]

@[simp] theorem State.hostTake_nv (s : State) (x : TenantId) (f : HostFrame) (seen : Option NoticeSeen) :
    (s.hostTake x f seen).wb.nv = s.wb.nv := by
  unfold State.hostTake
  apply State.hostFrame_nv
  intro u
  iterate 3 (all_goals (try simp); all_goals (try split))

@[simp] theorem State.hostAck_nv (s : State) (x : TenantId) (f : HostFrame) :
    (s.hostAck x f).wb.nv = s.wb.nv := by simp [State.hostAck]

@[simp] theorem State.hostCommitStage_nv (s : State) (x : TenantId) (f : HostFrame) :
    (s.hostCommitStage x f).wb.nv = s.wb.nv := by simp [State.hostCommitStage]

@[simp] theorem State.hostCommitGroup_nv (s : State) (x : TenantId) (f : HostFrame) :
    (s.hostCommitGroup x f).wb.nv = s.wb.nv := by simp [State.hostCommitGroup]

@[simp] theorem State.goBench_nv (s : State) (b : BenchId) :
    (s.goBench b).wb.nv = s.wb.nv := by simp [State.goBench]

@[simp] theorem State.hostGo_nv (s : State) (x : TenantId) (f : HostFrame) :
    (s.hostGo x f).wb.nv = s.wb.nv := by simp [State.hostGo]

@[simp] theorem State.tagged_nv (s : State) (x : TenantId) (f : HostFrame) (op : TagOp) (q : WbRequest) :
    (s.tagged x f op q).next.wb.nv = s.wb.nv := by simp [State.tagged]

@[simp] theorem State.hostLogHead_nv (s : State) (x : TenantId) (f : HostFrame) :
    (s.hostLogHead x f).wb.nv = s.wb.nv := by simp [State.hostLogHead]

@[simp] theorem State.hostLogEntries_nv (s : State) (x : TenantId) (f : HostFrame) :
    (s.hostLogEntries x f).wb.nv = s.wb.nv := by simp [State.hostLogEntries]

@[simp] theorem State.hostLogExport_nv (s : State) (x : TenantId) (f : HostFrame) :
    (s.hostLogExport x f).wb.nv = s.wb.nv := by simp [State.hostLogExport]

@[simp] theorem State.hostLogAppend_nv (s : State) (x : TenantId) (f : HostFrame) :
    (s.hostLogAppend x f).wb.nv = s.wb.nv := by simp [State.hostLogAppend]

@[simp] theorem State.hostAttestRequest_nv (s : State) (x : TenantId) (f : HostFrame) :
    (s.hostAttestRequest x f).wb.nv = s.wb.nv := by simp [State.hostAttestRequest]

@[simp] theorem State.provision_nv (s : State) (x : TenantId) (f : HostFrame) (q : WbRequest) :
    (s.provision x f q).next.wb.nv = s.wb.nv := by simp [State.provision]

@[simp] theorem State.hostProvisionIdentify_nv (s : State) (x : TenantId) (f : HostFrame) :
    (s.hostProvisionIdentify x f).wb.nv = s.wb.nv := by simp [State.hostProvisionIdentify]

@[simp] theorem State.hostProvisionSlot_nv (s : State) (x : TenantId) (f : HostFrame) :
    (s.hostProvisionSlot x f).wb.nv = s.wb.nv := by simp [State.hostProvisionSlot]

@[simp] theorem State.hostProvisionFloor_nv (s : State) (x : TenantId) (f : HostFrame) :
    (s.hostProvisionFloor x f).wb.nv = s.wb.nv := by simp [State.hostProvisionFloor]

@[simp] theorem State.hostSelftest_nv (s : State) (x : TenantId) (f : HostFrame) :
    (s.hostSelftest x f).wb.nv = s.wb.nv := by simp [State.hostSelftest]

/-! ### TenantReset -/

@[simp] theorem State.trstNLow_nv (s : State) (t : TenantId) (pin : PinInput) (ns : Nat) :
    (s.trstNLow t pin ns).wb.nv = s.wb.nv := by simp [State.trstNLow]

@[simp] theorem State.trstNHigh_nv (s : State) (t : TenantId) (pin : PinInput) (ns : Nat) :
    (s.trstNHigh t pin ns).wb.nv = s.wb.nv := by simp [State.trstNHigh]

@[simp] theorem State.holdPort_nv (s : State) (t : TenantId) :
    (s.holdPort t).wb.nv = s.wb.nv := by simp [State.holdPort]

@[simp] theorem State.holdStaging_nv (s : State) (t : TenantId) :
    (s.holdStaging t).wb.nv = s.wb.nv := by simp [State.holdStaging]

/-! ### Images -/

@[simp] theorem State.verifyStart_nv (s : State) :
    s.verifyStart.wb.nv = s.wb.nv := by unfold State.verifyStart; split <;> simp

@[simp] theorem State.passImage_nv (s : State) (t : TenantId) (i : Image) :
    (State.passImage s t i).wb.nv = s.wb.nv := (rfl)

@[simp] theorem State.stagingTimeout_nv (s : State) :
    s.stagingTimeout.wb.nv = s.wb.nv := by simp [State.stagingTimeout]

@[simp] theorem State.activatePorts_nv (s : State) (t : TenantId) (i : Image) :
    (s.activatePorts t i).wb.nv = s.wb.nv := by simp [State.activatePorts]

@[simp] theorem State.activateClock_nv (s : State) (t : TenantId) (i : Image) :
    (s.activateClock t i).wb.nv = s.wb.nv := by simp [State.activateClock]

@[simp] theorem State.enterOperating_nv (s : State) :
    s.enterOperating.wb.nv = s.wb.nv := by simp [State.enterOperating]

/-! ### Traffic -/

@[simp] theorem State.pushStep_nv (s : State) (b : BenchId) (r : Nat) (ts : List PipeTarget) :
    (s.pushStep b r ts).wb.nv = s.wb.nv := by simp [State.pushStep]

@[simp] theorem State.stepPrd_nv (s : State) (b : BenchId) (f : StepFields) (r : Nat) :
    (State.stepPrd s b f r).wb.nv = s.wb.nv := by
  unfold State.stepPrd
  dsimp only
  (repeat' split) <;> simp

@[simp] theorem State.refusePwr_nv (s : State) (b : BenchId) (r : Nat) (code : Byte) (refused : Bool) :
    (State.refusePwr s b r code refused).wb.nv = s.wb.nv := by
  unfold State.refusePwr
  split <;> simp

@[simp] theorem State.stepPwr_nv (s : State) (b : BenchId) (f : StepFields) (r : Nat) :
    (s.stepPwr b f r).wb.nv = s.wb.nv := by simp [State.stepPwr]

@[simp] theorem State.reply_nv (s : State) (b : BenchId) (f : StepFields) (r : Nat) (v : Word) (flag : Bool) :
    (s.reply b f r v flag).wb.nv = s.wb.nv := by simp [State.reply]

@[simp] theorem State.replyCode_nv (s : State) (b : BenchId) (f : StepFields) (r : Nat) (code : Byte) :
    (s.replyCode b f r code).wb.nv = s.wb.nv := by simp [State.replyCode]

@[simp] theorem State.stepPost_nv (s : State) (b : BenchId) (f : StepFields) (r : Nat) :
    (s.stepPost b f r).wb.nv = s.wb.nv := by simp [State.stepPost]

@[simp] theorem State.stepWithdraw_nv (s : State) (b : BenchId) (f : StepFields) (r : Nat) :
    (s.stepWithdraw b f r).wb.nv = s.wb.nv := by simp [State.stepWithdraw]

@[simp] theorem State.stepQuery_nv (s : State) (b : BenchId) (f : StepFields) (r : Nat) :
    (s.stepQuery b f r).wb.nv = s.wb.nv := by simp [State.stepQuery]

@[simp] theorem State.stepTake_nv (s : State) (b : BenchId) (f : StepFields) (r : Nat) :
    (s.stepTake b f r).wb.nv = s.wb.nv := by simp [State.stepTake]

@[simp] theorem State.stepAckn_nv (s : State) (b : BenchId) (f : StepFields) (r : Nat) :
    (s.stepAckn b f r).wb.nv = s.wb.nv := by simp [State.stepAckn]

@[simp] theorem State.stepWit_nv (s : State) (b : BenchId) (f : StepFields) (r : Nat) :
    (s.stepWit b f r).wb.nv = s.wb.nv := by unfold State.stepWit; split <;> simp

@[simp] theorem State.stepCommit_nv (s : State) (b : BenchId) (f : StepFields) (r : Nat) :
    (s.stepCommit b f r).wb.nv = s.wb.nv := by unfold State.stepCommit; split <;> simp

@[simp] theorem State.stepRwr_nv (s : State) (b : BenchId) (f : StepFields) (r : Nat) :
    (s.stepRwr b f r).wb.nv = s.wb.nv := by simp [State.stepRwr]

@[simp] theorem State.stepEvt_nv (s : State) (b : BenchId) :
    (s.stepEvt b).wb.nv = s.wb.nv := by simp [State.stepEvt]

@[simp] theorem State.stepStat_nv (s : State) (b : BenchId) (f : StepFields) (r : Nat) :
    (s.stepStat b f r).wb.nv = s.wb.nv := by simp [State.stepStat]

/-! ### Tap -/

@[simp] theorem State.loadIr_nv (s : State) (code : BitVec 5) :
    (s.loadIr code).wb.nv = s.wb.nv := by simp [State.loadIr]

@[simp] theorem State.scanBypass_nv (s : State) (last : Bool) :
    (s.scanBypass last).wb.nv = s.wb.nv := by simp [State.scanBypass]

@[simp] theorem State.scanBoundary_nv (s : State) (shiftIn pins : BitVec 114) :
    (s.scanBoundary shiftIn pins).wb.nv = s.wb.nv := by simp [State.scanBoundary]

/-! ### Strobe -/

@[simp] theorem State.judgeStrobe_nv (s : State) (i : StrobeInputs) (previous : Nat) (gap : Bool) :
    (State.judgeStrobe s i previous gap).wb.nv = s.wb.nv := (rfl)

@[simp] theorem State.pitProgress_nv (s : State) :
    s.pitProgress.wb.nv = s.wb.nv := by simp [State.pitProgress]

@[simp] theorem State.turnSecond_nv (s : State) :
    s.turnSecond.wb.nv = s.wb.nv := by simp [State.turnSecond]

@[simp] theorem State.raiseNearFull_nv (s : State) :
    s.raiseNearFull.wb.nv = s.wb.nv := by simp [State.raiseNearFull]

@[simp] theorem State.strobeBenches_nv (s : State) (added : Nat) :
    (s.strobeBenches added).wb.nv = s.wb.nv := by simp [State.strobeBenches]

@[simp] theorem State.strobeChannel_nv (s : State) (i : StrobeInputs) (ch : SenseId) :
    (s.strobeChannel i ch).wb.nv = s.wb.nv := by simp [State.strobeChannel]

@[simp] theorem State.strobeSense_nv (s : State) (i : StrobeInputs) :
    (State.strobeSense s i).wb.nv = s.wb.nv := by
  unfold State.strobeSense
  dsimp only
  split
  · exact foldl_nv _ (fun u ch => u.strobeChannel_nv i ch) _ _
  · rfl

end Sys2Proof.Machine
end

section
/-! SUPPORT. The settled counter block and the rollback floors through the operations that log, commit or raise a floor. -/
namespace Sys2Proof.Machine

/-- The counter block is settled, and no floor lies under the given ones. -/
def Nv.Keeps (F : Vector Word 4) (n : Nv) : Prop := n.settled ∧ ∀ x : TenantId, (vget F x.val 0).toNat ≤ (vget n.floors x.val 0).toNat

@[simp] theorem ite_keeps (F : Vector Word 4) (c : Prop) [Decidable c] (n m : Nv) :
    (if c then n else m).Keeps F ↔ if c then n.Keeps F else m.Keeps F := by split <;> rfl

theorem if_keeps {F : Vector Word 4} {c : Prop} [Decidable c] {s t : State} (hs : c → s.wb.nv.Keeps F) (ht : ¬c → t.wb.nv.Keeps F) :
    (if c then s else t).wb.nv.Keeps F := by
  split
  · exact hs ‹_›
  · exact ht ‹_›

theorem foldl_nv_keeps {F : Vector Word 4} {α : Type} {g : State → α → State} (h : ∀ u a, u.wb.nv.Keeps F → (g u a).wb.nv.Keeps F)
    (l : List α) {s : State} (hs : s.wb.nv.Keeps F) : (l.foldl g s).wb.nv.Keeps F := by
  induction l generalizing s with
  | nil => exact hs
  | cons a l ih => exact ih (h s a hs)

section
variable {F : Vector Word 4} {n : Nv}

/-- An update settles the counter block. -/
theorem Nv.update_settled (n : Nv) (c : CounterBlock) : (n.update c).settled := ⟨n.update_valid c, .inr (Nat.lt_succ_self _)⟩

/-- An update that lowers no floor. -/
theorem Nv.update_keeps {c : CounterBlock} (h : n.Keeps F)
    (raises : ∀ x : TenantId, (vget n.floors x.val 0).toNat ≤ (vget c.floors x.val 0).toNat) : (n.update c).Keeps F :=
  ⟨n.update_settled c, fun x => (h.2 x).trans (raises x)⟩

theorem Nv.update_keeps_same {c : CounterBlock} (h : n.Keeps F) (same : c.floors = n.floors) : (n.update c).Keeps F :=
  n.update_keeps h fun x => by rw [same]

/-- A copy that was cut is no valid one, and the one in force stays. -/
theorem Nv.cutUpdate_keeps (c : CounterBlock) (h : n.Keeps F) : (n.cutUpdate c).Keeps F := ⟨⟨h.1.1, .inl (n.cutUpdate_invalid c)⟩, h.2⟩

theorem Nv.slots_keeps {m : Sparse LogSlot} : ({ n with slots := m } : Nv).Keeps F ↔ n.Keeps F := Iff.rfl

/-- A settled counter block is the one that the log opens on. -/
theorem Nv.choose_keeps (h : n.Keeps F) : n.choose.Keeps F := by rwa [n.choose_settled h.1.1 h.1.2]

/-! ### Commits -/

theorem blockAfter_floors (w : Weighbridge) (r : LogRecord) : (w.blockAfter r).floors = w.nv.floors := by
  unfold Weighbridge.blockAfter CounterBlock.setRegion
  split <;> rfl

theorem commit_keeps {w : Weighbridge} (r : LogRecord) (h : w.nv.Keeps F) : (w.commit r).nv.Keeps F :=
  Nv.update_keeps_same (n := w.writeSlot r) h (blockAfter_floors w r)

theorem foldl_commit_keeps (l : List LogRecord) {w : Weighbridge} (h : w.nv.Keeps F) : (l.foldl Weighbridge.commit w).nv.Keeps F := by
  induction l generalizing w with
  | nil => exact h
  | cons r l ih => exact ih (commit_keeps r h)

theorem commitAll_keeps (q : QueuedEntry) {w : Weighbridge} (h : w.nv.Keeps F) : (w.commitAll q).nv.Keeps F :=
  commit_keeps _ (foldl_commit_keeps _ h)

/-- A commit that is cut leaves what came before it, a slot that is not valid, or a copy that is not. -/
theorem cut_keeps (q : QueuedEntry) (c : CommitCut) {w : Weighbridge} (h : w.nv.Keeps F) : (w.cut q c).Keeps F := by
  unfold Weighbridge.cut
  cases c with
  | none => exact h
  | slot k =>
    dsimp only
    split
    · exact h
    · exact Nv.slots_keeps.mpr (foldl_commit_keeps _ h)
  | counters k =>
    dsimp only
    split
    · exact h
    · exact Nv.cutUpdate_keeps _ (Nv.slots_keeps.mpr (foldl_commit_keeps _ h))

end

section
variable {F : Vector Word 4} {s : State} (h : s.wb.nv.Keeps F)
include h

theorem cutCommit_keeps (c : CommitCut) : (s.cutCommit c).Keeps F := by
  unfold State.cutCommit
  split
  · exact h
  · split
    · exact cut_keeps _ c h
    · exact h

/-! ### The operations that write the counter block -/

@[simp] theorem State.logPart_keeps (kind : Byte) (payload : List Byte) : (s.logPart kind payload).wb.nv.Keeps F := by
  rcases logPart_nv s kind payload with e | e <;> rw [e]
  · exact h
  · exact Nv.update_keeps_same h rfl

@[simp] theorem State.logDirect_keeps (kind : Byte) (payload : List Byte) : (s.logDirect kind payload).wb.nv.Keeps F :=
  commitAll_keeps _ (by rw [State.takeEntry_nv]; exact h)

@[simp] theorem State.commitNext_keeps : s.commitNext.wb.nv.Keeps F := by
  unfold State.commitNext
  split
  · exact h
  · split
    · exact h
    · exact commitAll_keeps _ h
    · exact commitAll_keeps _ h
    · split <;> exact commitAll_keeps _ h

omit h in
theorem floors_raised {x : TenantId} {w : Word} (raises : (vget s.wb.nv.floors x.val 0).toNat ≤ w.toNat) (y : TenantId) :
    (vget s.wb.nv.floors y.val 0).toNat ≤ (vget (vmod s.wb.nv.floors x.val (fun _ => w)) y.val 0).toNat := by
  have get (v : Vector Word 4) : vget v y.val 0 = v[y] := dif_pos y.isLt
  rw [get, get, vmod_getElem]
  split
  · next same =>
    rw [← get, same]
    exact raises
  · exact le_rfl

@[simp] theorem State.programFloor_keeps (t i : TenantId) (v : Word) : (s.programFloor t i v).wb.nv.Keeps F := by
  obtain ⟨e, -⟩ := programFloor_eq s t i v _ rfl
  rw [e]
  refine State.logPart_keeps (Nv.update_keeps h (floors_raised ?_)) _ _
  split
  · next less => exact less.le
  · exact le_rfl

@[simp] theorem State.raiseFloor_keeps (t : TenantId) (i : Image) : (s.raiseFloor t i).wb.nv.Keeps F := by
  unfold State.raiseFloor
  split
  · next raises =>
    refine Nv.update_keeps h (floors_raised ?_)
    simp only [State.raisesFloor, Bool.and_eq_true, decide_eq_true_eq] at raises
    exact raises.2.le
  · exact h

@[simp] theorem State.raiseMarks_keeps (m : SeqPair × SeqPair) : (s.raiseMarks m).wb.nv.Keeps F := by
  unfold State.raiseMarks
  dsimp only
  split
  · exact Nv.update_keeps_same h rfl
  · exact h

@[simp] theorem State.poisonWeighbridge_keeps (cut : CommitCut) : (s.poisonWeighbridge cut).wb.nv.Keeps F := cutCommit_keeps h cut

@[simp] theorem State.takeReference_keeps (seq : Word) : (s.takeReference seq).wb.nv.Keeps F := by
  unfold State.takeReference
  split
  · exact Nv.update_keeps_same h rfl
  · exact h

end

@[simp] theorem State.openLog_keeps {F : Vector Word 4} (s : State) {n : Nv} (h : n.Keeps F) (p g : Nat × List Byte) :
    (s.openLog n p g).wb.nv.Keeps F := Nv.update_keeps_same h rfl

@[simp] theorem State.hostFrame_keeps {F : Vector Word 4} {s : State} (h : s.wb.nv.Keeps F) (x : TenantId) (f : HostFrame) (o : OpSpec)
    (hasReply unknown : Bool) (act : State → Verdict) (ha : (act s).next.wb.nv.Keeps F) :
    (s.hostFrame x f o hasReply unknown act).wb.nv.Keeps F := by
  simp [State.hostFrame, State.judge, h, ha]

/-! ### Log -/

@[simp] theorem State.budgetSecondEnd_keeps (s : State) {F : Vector Word 4} (h : s.wb.nv.Keeps F) :
    s.budgetSecondEnd.wb.nv.Keeps F := by unfold State.budgetSecondEnd; split <;> simp [h]

/-! ### Sense -/

@[simp] theorem State.writeDiag_keeps (s : State) (c : DiagChange) {F : Vector Word 4} (h : s.wb.nv.Keeps F) :
    (s.writeDiag c).wb.nv.Keeps F := by simp [State.writeDiag, h]

@[simp] theorem State.recordDiags_keeps (s : State) (cs : List DiagChange) {F : Vector Word 4} (h : s.wb.nv.Keeps F) :
    (s.recordDiags cs).wb.nv.Keeps F := by unfold State.recordDiags; split <;> simp [h]

@[simp] theorem State.recordDiag_keeps (s : State) (c : DiagChange) {F : Vector Word 4} (h : s.wb.nv.Keeps F) :
    (s.recordDiag c).wb.nv.Keeps F := by simp [State.recordDiag, h]

@[simp] theorem State.diagHeldDue_keeps (s : State) {F : Vector Word 4} (h : s.wb.nv.Keeps F) :
    s.diagHeldDue.wb.nv.Keeps F := by unfold State.diagHeldDue; split <;> simp [h]

@[simp] theorem State.trip_keeps (s : State) (ch : SenseId) (how mv ua : Nat) {F : Vector Word 4} (h : s.wb.nv.Keeps F) :
    (s.trip ch how mv ua).wb.nv.Keeps F := by simp [State.trip, h]

@[simp] theorem State.limiterTrip_keeps (s : State) (ch : SenseId) (ua1 ua2 mv : Nat) {F : Vector Word 4} (h : s.wb.nv.Keeps F) :
    (s.limiterTrip ch ua1 ua2 mv).wb.nv.Keeps F := by simp [State.limiterTrip, h]

@[simp] theorem State.meterWindowEnd_keeps (s : State) (ch : SenseId) (nj mv ua : Nat) {F : Vector Word 4} (h : s.wb.nv.Keeps F) :
    (s.meterWindowEnd ch nj mv ua).wb.nv.Keeps F := by
  unfold State.meterWindowEnd
  split
  · dsimp only
    split
    · exact State.trip_keeps _ ch 1 mv ua h
    · exact h
  · exact h

@[simp] theorem State.diagDeclare_keeps (s : State) (ch : SenseId) (mv ua : Int) (ms : Nat) {F : Vector Word 4} (h : s.wb.nv.Keeps F) :
    (s.diagDeclare ch mv ua ms).wb.nv.Keeps F := by unfold State.diagDeclare; split <;> simp [h]

@[simp] theorem State.diagClear_keeps (s : State) (ch : SenseId) (mv ua : Int) (ms : Nat) {F : Vector Word 4} (h : s.wb.nv.Keeps F) :
    (s.diagClear ch mv ua ms).wb.nv.Keeps F := by
  unfold State.diagClear
  split
  · exact h
  · exact if_keeps (fun _ => State.recordDiag_keeps _ _ h) fun _ => h

@[simp] theorem State.pulseFaultDeclare_keeps (s : State) (ch : SenseId) (reason measure : Nat) (mv : Int) {F : Vector Word 4} (h : s.wb.nv.Keeps F) :
    (s.pulseFaultDeclare ch reason measure mv).wb.nv.Keeps F := by unfold State.pulseFaultDeclare; split <;> simp [h]

@[simp] theorem State.pulseFaultClear_keeps (s : State) (ch : SenseId) (mv : Int) (ms : Nat) {F : Vector Word 4} (h : s.wb.nv.Keeps F) :
    (s.pulseFaultClear ch mv ms).wb.nv.Keeps F := by
  unfold State.pulseFaultClear
  split
  · exact State.recordDiag_keeps _ _ h
  · exact h

@[simp] theorem State.reconfigure_keeps (s : State) (t : TenantId) (decl : SenseId → Option SenseDecl) (cal : SenseId → Option CalDecl)
    (mv : SenseId → Int) {F : Vector Word 4} (h : s.wb.nv.Keeps F) :
    (s.reconfigure t decl cal mv).wb.nv.Keeps F := by simp [State.reconfigure, h]

/-! ### Power -/

@[simp] theorem State.logSupply_keeps (s : State) (i mv : Nat) {F : Vector Word 4} (h : s.wb.nv.Keeps F) :
    (s.logSupply i mv).wb.nv.Keeps F := by simp [State.logSupply, h]

@[simp] theorem State.supplyWarning_keeps (s : State) (i mv ns : Nat) {F : Vector Word 4} (h : s.wb.nv.Keeps F) :
    (s.supplyWarning i mv ns).wb.nv.Keeps F := by simp [State.supplyWarning, h]

@[simp] theorem State.raiseThermal_keeps (s : State) (celsius : Int) {F : Vector Word 4} (h : s.wb.nv.Keeps F) :
    (s.raiseThermal celsius).wb.nv.Keeps F := by simp [State.raiseThermal, h]

@[simp] theorem State.thermalReading_keeps (s : State) (celsius : Int) {F : Vector Word 4} (h : s.wb.nv.Keeps F) :
    (s.thermalReading celsius).wb.nv.Keeps F := by simp [State.thermalReading, h]

@[simp] theorem State.logIf_keeps (s : State) (c : Bool) (kind : Byte) (payload : List Byte) {F : Vector Word 4} (h : s.wb.nv.Keeps F) :
    (s.logIf c kind payload).wb.nv.Keeps F := by simp [State.logIf, h]

@[simp] theorem State.commitNote_keeps (s : State) {F : Vector Word 4} (h : s.wb.nv.Keeps F) :
    s.commitNote.wb.nv.Keeps F := by unfold State.commitNote; split <;> simp [h]

@[simp] theorem State.powerUpRest_keeps (s : State) (at_ : Nv) (p g : Nat × List Byte) {F : Vector Word 4} (h : s.wb.nv.Keeps F) :
    (s.powerUpRest at_ p g).wb.nv.Keeps F := by
  unfold State.powerUpRest
  refine State.commitNote_keeps _ (State.logIf_keeps _ _ _ _ (State.logIf_keeps _ _ _ _ (State.logIf_keeps _ _ _ _
    (State.logIf_keeps _ _ _ _ (State.takeReference_keeps ?_ _)))))
  split
  · exact h
  · exact State.logIf_keeps _ _ _ _ h

@[simp] theorem State.powerUpLog_keeps (s : State) (w : TrustWork) {F : Vector Word 4} (h : s.wb.nv.Keeps F) :
    (s.powerUpLog w).wb.nv.Keeps F := by
  have opened : s.wb.nv.choose.eraseWriting.2.Keeps F := Nv.slots_keeps.mpr (Nv.choose_keeps h)
  exact State.powerUpRest_keeps _ _ _ _ (State.logDirect_keeps (State.logDirect_keeps (State.openLog_keeps s opened _ _) _ _) _ _)

@[simp] theorem State.exitTrust_keeps (s : State) (temp : Int) {F : Vector Word 4} (h : s.wb.nv.Keeps F) :
    (s.exitTrust temp).wb.nv.Keeps F := by simp [State.exitTrust, h]

@[simp] theorem State.trustEnd_keeps (s : State) (w : TrustWork) {F : Vector Word 4} (h : s.wb.nv.Keeps F) :
    (s.trustEnd w).wb.nv.Keeps F := by
  unfold State.trustEnd
  split
  · split
    · exact h
    · exact State.exitTrust_keeps _ _ (foldl_nv_keeps (fun u e k => State.logPart_keeps k e.1 e.2) _ (s.powerUpLog_keeps w h))
  · exact h

/-! ### Clock -/

@[simp] theorem State.clockFault_keeps (s : State) (cause : Byte) (tried : List (BitVec 6)) (vt : Nat) {F : Vector Word 4} (h : s.wb.nv.Keeps F) :
    (s.clockFault cause tried vt).wb.nv.Keeps F := by simp [State.clockFault, h]

@[simp] theorem State.referenceDeadline_keeps (s : State) (ms : Nat) {F : Vector Word 4} (h : s.wb.nv.Keeps F) :
    (s.referenceDeadline ms).wb.nv.Keeps F := by simp [State.referenceDeadline, h]

@[simp] theorem State.lockAttemptEnd_keeps (s : State) (a : LockAttempt) {F : Vector Word 4} (h : s.wb.nv.Keeps F) :
    (s.lockAttemptEnd a).wb.nv.Keeps F := by unfold State.lockAttemptEnd; (repeat' split) <;> simp [h]

@[simp] theorem State.lockLost_keeps (s : State) (c : LockLoss) {F : Vector Word 4} (h : s.wb.nv.Keeps F) :
    (s.lockLost c).wb.nv.Keeps F := by simp [State.lockLost, h]

@[simp] theorem State.relock_keeps (s : State) (a : LockAttempt) {F : Vector Word 4} (h : s.wb.nv.Keeps F) :
    (s.relock a).wb.nv.Keeps F := by simp [State.relock, h]

@[simp] theorem State.steppedRelock_keeps (s : State) (attempts : List LockAttempt) (gap : Half) (cycles : Nat) {F : Vector Word 4}
    (h : s.wb.nv.Keeps F) :
    (s.steppedRelock attempts gap cycles).wb.nv.Keeps F := by unfold State.steppedRelock; (repeat' split) <;> simp [h]

/-! ### Ring -/

@[simp] theorem State.ringLog_keeps (s : State) (k : Nat) (kind : Byte) (payload : Word → List Byte) {F : Vector Word 4} (h : s.wb.nv.Keeps F) :
    (s.ringLog k kind payload).wb.nv.Keeps F := by simp [State.ringLog, h]

@[simp] theorem State.dropLock_keeps (s : State) (cause : Nat) {F : Vector Word 4} (h : s.wb.nv.Keeps F) :
    (s.dropLock cause).wb.nv.Keeps F := by simp [State.dropLock, h]

@[simp] theorem State.logFold_keeps (s : State) (folded : Bool) (x : Nat) (rotation : Word) {F : Vector Word 4} (h : s.wb.nv.Keeps F) :
    (s.logFold folded x rotation).wb.nv.Keeps F := by simp [State.logFold, h]

@[simp] theorem State.seeFold_keeps (s : State) (f : Byte) {F : Vector Word 4} (h : s.wb.nv.Keeps F) :
    (s.seeFold f).wb.nv.Keeps F := by simp [State.seeFold, h]

@[simp] theorem State.rollConflict_keeps (s : State) (heard id rotation : Nat) {F : Vector Word 4} (h : s.wb.nv.Keeps F) :
    (s.rollConflict heard id rotation).wb.nv.Keeps F := by simp [State.rollConflict, h]

@[simp] theorem State.seeConflict_keeps (s : State) {F : Vector Word 4} (h : s.wb.nv.Keeps F) :
    s.seeConflict.wb.nv.Keeps F := by simp [State.seeConflict, h]

@[simp] theorem State.memberVisit_keeps (s : State) (l : Lap) (err : Int) {F : Vector Word 4} (h : s.wb.nv.Keeps F) :
    (s.memberVisit l err).wb.nv.Keeps F := by
  unfold State.memberVisit
  refine State.seeConflict_keeps _ ?_
  rw [State.memberLap_nv, State.takeRingStart_nv]
  exact State.seeFold_keeps _ _ h

@[simp] theorem State.lapArrives_keeps (s : State) (link : RingLink) (chars : LapChars) (l : Lap) (err : Int) {F : Vector Word 4}
    (h : s.wb.nv.Keeps F) :
    (s.lapArrives link chars l err).wb.nv.Keeps F := by
  unfold State.lapArrives
  split
  · dsimp only
    split
    · rw [State.masterVisit_nv]
      exact h
    · split
      · exact State.memberVisit_keeps _ l err h
      · rw [State.memberLap_nv]
        exact h
  · exact h

@[simp] theorem State.homeVisit_keeps (s : State) (link : RingLink) (chars : LapChars) (err : Int) {F : Vector Word 4} (h : s.wb.nv.Keeps F) :
    (s.homeVisit link chars err).wb.nv.Keeps F := by simp [State.homeVisit, h]

@[simp] theorem State.ringLockGain_keeps (s : State) {F : Vector Word 4} (h : s.wb.nv.Keeps F) :
    s.ringLockGain.wb.nv.Keeps F := by simp [State.ringLockGain, h]

@[simp] theorem State.ringLoss_keeps (s : State) (cause : Nat) {F : Vector Word 4} (h : s.wb.nv.Keeps F) :
    (s.ringLoss cause).wb.nv.Keeps F := by simp [State.ringLoss, h]

@[simp] theorem State.collectionLap_keeps (s : State) (table : List Word) (rotationNs : Nat) (foreign : Bool) {F : Vector Word 4}
    (h : s.wb.nv.Keeps F) :
    (s.collectionLap table rotationNs foreign).wb.nv.Keeps F := by
  unfold State.collectionLap
  split
  · dsimp only
    split
    · exact State.rollConflict_keeps _ _ _ _ h
    · split
      · exact State.ringLog_keeps _ _ _ _ h
      · split <;> exact h
  · exact h

@[simp] theorem State.assignmentLap_keeps (s : State) (table : List Word) {F : Vector Word 4} (h : s.wb.nv.Keeps F) :
    (s.assignmentLap table).wb.nv.Keeps F := by unfold State.assignmentLap; (repeat' split) <;> simp [h]

@[simp] theorem State.masterFold_keeps (s : State) (x y rotationNs : Nat) {F : Vector Word 4} (h : s.wb.nv.Keeps F) :
    (s.masterFold x y rotationNs).wb.nv.Keeps F := by
  unfold State.masterFold
  dsimp only
  split
  · exact h
  · split
    · exact State.ringLog_keeps _ _ _ _ h
    · have turned (c : Prop) [Decidable c] (v : State) (k : v.wb.nv.Keeps F) : (if c then v.ringEvent 15 else v).wb.nv.Keeps F := by
        split
        · rw [State.ringEvent_nv]
          exact k
        · exact k
      split
      · exact turned _ _ h
      · exact State.logFold_keeps _ _ _ _ (turned _ _ h)

@[simp] theorem State.foldRing_keeps (s : State) (x y rotationNs : Nat) (idleBeyond : Option RingLink) {F : Vector Word 4} (h : s.wb.nv.Keeps F) :
    (s.foldRing x y rotationNs idleBeyond).wb.nv.Keeps F := by unfold State.foldRing; (repeat' split) <;> simp [h]

@[simp] theorem State.stepTod_keeps (s : State) (m : Nat) (sec : Word) (fos : Half) {F : Vector Word 4} (h : s.wb.nv.Keeps F) :
    (s.stepTod m sec fos).wb.nv.Keeps F := by simp [State.stepTod, h]

@[simp] theorem State.todMarkApply_keeps (s : State) {F : Vector Word 4} (h : s.wb.nv.Keeps F) :
    s.todMarkApply.wb.nv.Keeps F := by
  unfold State.todMarkApply
  split
  · split
    · exact h
    · dsimp only
      split
      · split <;> exact h
      · refine State.stepTod_keeps _ _ _ _ ?_
        split <;> exact h
  · exact h

/-! ### Port -/

@[simp] theorem State.collect_keeps (s : State) (x : TenantId) (f : HostFrame) (off : Nat) (only : TagOp → Bool) {F : Vector Word 4}
    (h : s.wb.nv.Keeps F) :
    (s.collect x f off only).next.wb.nv.Keeps F := by simp [State.collect, h]

@[simp] theorem State.hostFetch_keeps (s : State) (x : TenantId) (f : HostFrame) {F : Vector Word 4} (h : s.wb.nv.Keeps F) :
    (s.hostFetch x f).wb.nv.Keeps F := by simp [State.hostFetch, h]

@[simp] theorem State.hostLogCollect_keeps (s : State) (x : TenantId) (f : HostFrame) {F : Vector Word 4} (h : s.wb.nv.Keeps F) :
    (s.hostLogCollect x f).wb.nv.Keeps F := by simp [State.hostLogCollect, h]

@[simp] theorem State.hostAttestCollect_keeps (s : State) (x : TenantId) (f : HostFrame) {F : Vector Word 4} (h : s.wb.nv.Keeps F) :
    (s.hostAttestCollect x f).wb.nv.Keeps F := by simp [State.hostAttestCollect, h]

/-! ### Images -/

@[simp] theorem State.logRefused_keeps (s : State) (t : TenantId) (r : ImageRefusal) {F : Vector Word 4} (h : s.wb.nv.Keeps F) :
    (s.logRefused t r).wb.nv.Keeps F := by simp [State.logRefused, h]

@[simp] theorem State.refuseImage_keeps (s : State) (t : TenantId) (r : ImageRefusal) {F : Vector Word 4} (h : s.wb.nv.Keeps F) :
    (State.refuseImage s t r).wb.nv.Keeps F := by
  unfold State.refuseImage
  refine State.logRefused_keeps _ t r ?_
  dsimp only
  rw [State.raise_wb]
  exact h

@[simp] theorem State.verifyEnd_keeps (s : State) {F : Vector Word 4} (h : s.wb.nv.Keeps F) :
    s.verifyEnd.wb.nv.Keeps F := by unfold State.verifyEnd; (repeat' split) <;> simp [h]

@[simp] theorem State.activateSense_keeps (s : State) (t : TenantId) (i : Image) (terminals : Vector Int 16) {F : Vector Word 4}
    (h : s.wb.nv.Keeps F) :
    (s.activateSense t i terminals).wb.nv.Keeps F := by simp [State.activateSense, h]

end Sys2Proof.Machine
end

section
/-! SUPPORT. O58: the settled counter block, the floors and the fuses through every command. -/
namespace Sys2Proof.Machine

section
variable (s : State)

/-! ### Operations of benches and ports that leave the NV memory -/

theorem State.issue_nv (b : BenchId) (op : BitVec 6) (f : StepFields) {act : State → Nat → State}
    (h : ∀ (u : State) r, (act u r).wb.nv = u.wb.nv) : (s.issue b op f act).wb.nv = s.wb.nv := by
  unfold State.issue
  split
  · rw [State.modBench_wb]
    split
    · rw [h]
      rfl
    · rfl
  · rfl

@[simp] theorem State.issueBench_nv (b : BenchId) (op : BitVec 6) (f : StepFields) (act : Bench → StepFields → Nat → Bench) :
    (s.issueBench b op f act).wb.nv = s.wb.nv := s.issue_nv b op f fun _ _ => rfl

@[simp] theorem State.putJob_nv (t : TenantId) (j : PortJob) : (s.putJob t j).wb.nv = s.wb.nv := by
  unfold State.putJob
  dsimp only
  split
  · split <;> rfl
  · rfl

@[simp] theorem State.poisonJob_nv (t : TenantId) (j : PortJob) : (s.poisonJob t j).wb.nv = s.wb.nv := by
  unfold State.poisonJob
  split
  · rfl
  · exact State.failWords_nv ..
  · exact State.failWords_nv ..

@[simp] theorem State.poisonPort_nv (t : TenantId) : (s.poisonPort t).wb.nv = s.wb.nv :=
  foldl_nv _ (fun u j => u.poisonJob_nv t j) _ _

@[simp] theorem State.startWords_nv (x : TenantId) (j : PortJob) : (s.startWords x j).wb.nv = s.wb.nv := by
  simp [State.startWords]

@[simp] theorem State.startRead_nv (x : TenantId) (f : HostFrame) (d : WindowDecl) (n : Nat) : (s.startRead x f d n).wb.nv = s.wb.nv := by
  simp [State.startRead]

@[simp] theorem State.hostRead_nv (x : TenantId) (f : HostFrame) : (s.hostRead x f).wb.nv = s.wb.nv := by simp [State.hostRead]

@[simp] theorem State.hostWrite_nv (x : TenantId) (f : HostFrame) : (s.hostWrite x f).wb.nv = s.wb.nv := by simp [State.hostWrite]

@[simp] theorem State.hostLoad_nv (x : TenantId) (f : HostFrame) : (s.hostLoad x f).wb.nv = s.wb.nv := by simp [State.hostLoad]

@[simp] theorem State.stageCoefs_nv (t : TenantId) (b : BenchId) (first : Nat) (words : List Word) :
    (s.stageCoefs t b first words).2.wb.nv = s.wb.nv := by
  unfold State.stageCoefs
  (repeat' split) <;> rfl

@[simp] theorem State.arrive_nv (x : TenantId) (g : InFlight) : (s.arrive x g).2.wb.nv = s.wb.nv := by
  cases g <;> simp [State.arrive]

@[simp] theorem State.outcomeFinal_nv (x : TenantId) : (s.outcomeFinal x).wb.nv = s.wb.nv := by
  unfold State.outcomeFinal
  split
  · rfl
  · exact s.arrive_nv x _

@[simp] theorem State.commitFlip_nv (t : TenantId) : (s.commitFlip t).wb.nv = s.wb.nv := by simp [State.commitFlip]

@[simp] theorem State.stopBench_nv (b : BenchId) (st : BenchState) : (s.stopBench b st).wb.nv = s.wb.nv := by simp [State.stopBench]

@[simp] theorem State.benchRelease_nv (b : BenchId) : (s.benchRelease b).wb.nv = s.wb.nv := by simp [State.benchRelease]

@[simp] theorem State.benchPeriodEnd_nv (b : BenchId) : (s.benchPeriodEnd b).wb.nv = s.wb.nv := by simp [State.benchPeriodEnd]

@[simp] theorem State.releaseBench_nv (t : TenantId) (b : BenchId) : (s.releaseBench t b).wb.nv = s.wb.nv := by simp [State.releaseBench]

@[simp] theorem State.tenantResetRelease_nv (t : TenantId) : (s.tenantResetRelease t).wb.nv = s.wb.nv := by
  simp [State.tenantResetRelease]

@[simp] theorem State.holdBench_nv (i : Image) (b : BenchId) : (s.holdBench i b).wb.nv = s.wb.nv := by simp [State.holdBench]

@[simp] theorem State.holdStrobe_nv : s.holdStrobe.wb.nv = s.wb.nv := by
  unfold State.holdStrobe
  split <;> simp

@[simp] theorem State.activateBench_nv (t : TenantId) (i : Image) (spoiled : Byte) (b : BenchId) :
    (s.activateBench t i spoiled b).wb.nv = s.wb.nv := by
  unfold State.activateBench
  dsimp only
  (repeat' split) <;> simp

@[simp] theorem State.frameStrobe_nv (i : StrobeInputs) : (s.frameStrobe i).wb.nv = s.wb.nv := by simp [State.frameStrobe]

/-! ### Accesses of the pit -/

@[simp] theorem State.pitWrite_nv (a : Nat) (v : Word) : (s.pitWrite a v).wb.nv = s.wb.nv := rfl

@[simp] theorem State.performPwr_nv (b : BenchId) (q : BenchRequest) : (s.performPwr b q).2.wb.nv = s.wb.nv := by simp [State.performPwr]

@[simp] theorem State.performAll_nv (b : BenchId) (qs : List BenchRequest) : (s.performAll b qs).2.wb.nv = s.wb.nv :=
  foldl_snd_nv _ (fun x q => x.2.performPwr_nv b q) qs _

@[simp] theorem State.servePrd_nv (b : BenchId) (q : BenchRequest) (rest : List BenchRequest) (ecc : EccRead) :
    (s.servePrd b q rest ecc).wb.nv = s.wb.nv := by simp [State.servePrd]

@[simp] theorem State.serveBench_nv (b : BenchId) (ecc : EccRead) : (s.serveBench b ecc).wb.nv = s.wb.nv := by
  unfold State.serveBench
  split <;> simp

@[simp] theorem State.servePort_nv (t : TenantId) (ecc : EccRead) : (s.servePort t ecc).wb.nv = s.wb.nv := by
  unfold State.servePort
  split
  · rfl
  · dsimp only
    (repeat' split) <;> simp

@[simp] theorem State.serveRing_nv : s.serveRing.wb.nv = s.wb.nv := by
  unfold State.serveRing
  split <;> simp

@[simp] theorem State.serveSystem_nv (ecc : EccRead) : (s.serveSystem ecc).wb.nv = s.wb.nv := by
  unfold State.serveSystem
  split
  · dsimp only
    split <;> simp
  · split <;> rfl

@[simp] theorem State.serve_nv (r : Nat) (ecc : EccRead) : (s.serve r ecc).wb.nv = s.wb.nv := by simp [State.serve]

@[simp] theorem State.serveSpare_nv (ecc : EccRead) : (s.serveSpare ecc).1.wb.nv = s.wb.nv := by
  unfold State.serveSpare
  split
  · split <;> simp
  · split <;> simp

@[simp] theorem State.pitSlot_nv (slot : Nat) (ecc : EccRead) : (s.pitSlot slot ecc).wb.nv = s.wb.nv := by
  unfold State.pitSlot
  dsimp only
  (repeat' split) <;> simp

@[simp] theorem State.poisonPit_nv : s.poisonPit.wb.nv = s.wb.nv := by simp [State.poisonPit]

/-! ### Operations that log -/

variable {s} {F : Vector Word 4} (h : s.wb.nv.Keeps F)
include h

theorem State.holdTenant_keeps (t : TenantId) : (s.holdTenant t).wb.nv.Keeps F := by
  unfold State.holdTenant
  refine State.logPart_keeps ?_ _ _
  have stopped : ((s.owned t).foldl (fun s b => if (s.bench b).holds then s.stopBench b .held else s) s).wb.nv = s.wb.nv :=
    foldl_nv _ (fun u b => by simp) _ _
  have reset (u : State) : ((s.owned t).foldl (fun s b => s.modBench b Bench.reset) u).wb.nv = u.wb.nv := by
    apply foldl_nv
    exact fun _ _ => rfl
  rw [State.modTenant_wb, State.cancelPlan_nv, State.holdStaging_nv, State.emptyTenant_nv, State.newEpoch_wb, reset, stopped]
  exact h

theorem State.tenantResetHold_keeps (t : TenantId) : (s.tenantResetHold t).wb.nv.Keeps F := by
  have held : ((s.holdPort t).modTenant t (fun x => { x with held := true, holdDue := none })).wb.nv.Keeps F := by simp [h]
  exact if_keeps (fun _ => if_keeps (fun _ => held) fun _ => State.holdTenant_keeps held t) fun _ => h

theorem State.fence_keeps (b : BenchId) : (s.fence b).wb.nv.Keeps F := by
  unfold State.fence
  refine State.logPart_keeps ?_ _ _
  simp [h]

theorem State.wedgeOutcome_keeps (i : SharedIsland) (watchdog : Nat) (cut : CommitCut) : (s.wedgeOutcome i watchdog cut).wb.nv.Keeps F := by
  cases i <;> simp [State.wedgeOutcome, h]

theorem State.wedge_keeps (i : SharedIsland) (watchdog : Nat) (cut : CommitCut) : (s.wedge i watchdog cut).wb.nv.Keeps F := by
  unfold State.wedge
  refine State.logPart_keeps ?_ _ _
  refine State.wedgeOutcome_keeps ?_ i watchdog cut
  simp [h]

theorem State.activateUnits_keeps (t : TenantId) (i : Image) (spoiled : Byte) (terminals : Vector Int 16) :
    (s.activateUnits t i spoiled terminals).wb.nv.Keeps F := by
  unfold State.activateUnits
  rw [foldl_nv _ fun u b => u.activateBench_nv t i spoiled b, State.activateClock_nv]
  refine State.activateSense_keeps _ t i terminals ?_
  simp [h]

theorem State.activationStrobe_keeps (terminals : Vector Int 16) : (s.activationStrobe terminals).wb.nv.Keeps F := by
  unfold State.activationStrobe
  split
  · split
    · rw [State.judgeReleases_nv]
      refine State.logPart_keeps ?_ _ _
      rw [State.raise_wb, State.enterOperating_nv]
      refine State.raiseFloor_keeps (State.activateUnits_keeps ?_ _ _ _ _) _ _
      exact h
    · exact h
  · exact h

theorem State.lockOtp_keeps (t : TenantId) : (s.lockOtp t).wb.nv.Keeps F := by
  unfold State.lockOtp
  split
  · exact h
  · refine State.logPart_keeps ?_ _ _
    exact h

theorem State.hostLock_keeps (x : TenantId) (f : HostFrame) : (s.hostLock x f).wb.nv.Keeps F := by
  refine State.hostFrame_keeps h _ _ _ _ _ _ ?_
  split
  · exact h
  · exact State.lockOtp_keeps h x

theorem State.programSlot_keeps (t : TenantId) (i : Nat) (hash : List Word) : (s.programSlot t i hash).2.wb.nv.Keeps F := by
  unfold State.programSlot
  split
  · exact h
  · split
    · exact h
    · refine State.logPart_keeps ?_ _ _
      exact h

theorem State.requestDone_keeps (selftest : BitVec 4) (us : Word) : (s.requestDone selftest us).wb.nv.Keeps F := by
  unfold State.requestDone
  split
  · exact h
  · dsimp only
    split <;> rw [State.completeTag_nv]
    case h_3 =>
      refine State.programSlot_keeps ?_ _ _ _
      exact h
    case h_4 =>
      refine State.programFloor_keeps ?_ _ _ _
      exact h
    all_goals simpa using h

theorem State.fullReset_keeps (supply pin : Bool) (cut : CommitCut) : (s.fullReset supply pin cut).wb.nv.Keeps F := cutCommit_keeps h cut

end

/-- Every command keeps the counter block settled and lowers no floor. -/
theorem exec_keeps {c : Instr} {s t : State} {F : Vector Word 4} (run : exec c s = .next t) (h : s.wb.nv.Keeps F) : t.wb.nv.Keeps F := by
  cases c with
  | supplyReset supply mv ns cut => cases run; exact if_keeps (fun _ => State.fullReset_keeps h _ _ cut) fun _ => h
  | resetNLow pin ns cut =>
    cases run
    refine if_keeps (fun _ => h) fun _ => ?_
    dsimp only
    split
    · exact State.fullReset_keeps (s := (s.recognise ns 500 2000).2) (by simpa using h) _ _ cut
    · simpa using h
  | activationStrobe v => cases run; exact State.activationStrobe_keeps h v
  | weighbridgeRequestDone selftest us => cases run; exact State.requestDone_keeps h selftest us
  | lock x f => cases run; exact if_keeps (fun _ => State.hostLock_keeps h x f) fun _ => h
  | tenantResetHold x => cases run; exact State.tenantResetHold_keeps h x
  | benchFence b => cases run; exact if_keeps (fun _ => State.fence_keeps h b) fun _ => h
  | islandWedge i cut => cases run; exact if_keeps (fun _ => State.wedge_keeps h i 1 cut) fun _ => h
  | pitProgressWedge => cases run; exact if_keeps (fun _ => State.wedge_keeps h .pit 2 .none) fun _ => h
  | nvWriterWedge us answers cut => cases run; exact if_keeps (fun _ => State.wedge_keeps h .weighbridge 3 cut) fun _ => h
  | prd b f | pwr b f | takeStep b f | ackn b f | evt b f | wit b f | commitStep b f | rwr b f | stat b f =>
    cases run
    refine (congrArg (Nv.Keeps F) (s.issue_nv b _ f fun u r => ?_)).mpr h
    simp
  | postStep b f | withdrawStep b f | queryStep b f =>
    cases run
    refine if_keeps (fun _ => (congrArg (Nv.Keeps F) (s.issue_nv b _ f fun u r => ?_)).mpr h) fun _ => h
    simp
  | strapPhaseEnd r => cases run; exact if_keeps (fun _ => h) fun _ => h
  | _ => cases run; simp [h]

/-! ### The fuses -/

/-- No programmed slot has lost its hash, and no lock is undone. -/
def Otp.Stays (o p : Otp) : Prop := (∀ (i : Fin 4) (h : List Byte), o.keys[i] = some h → p.keys[i] = some h) ∧ (o.lock = 7 → p.lock = 7)

theorem Otp.Stays.of_eq {o p : Otp} (e : p = o) : o.Stays p := by
  subst e
  exact ⟨fun _ _ k => k, id⟩

theorem logPart_otp (s : State) (kind : Byte) (payload : List Byte) : (s.logPart kind payload).otp = s.otp :=
  congrArg Lasting.otp (s.logPart_lasting kind payload)

theorem completeTag_otp (s : State) (t : TenantId) (tag : Nat) (data : List Word) (code : Byte) (marks : SeqPair × SeqPair) :
    (s.completeTag t tag data code marks).otp = s.otp := congrArg Lasting.otp (s.completeTag_lasting t tag data code marks)

/-- A lock sets the lock bits, and leaves the slots. -/
theorem lockOtp_stays (s : State) (t : TenantId) : s.otp.Stays (s.lockOtp t).otp := by
  unfold State.lockOtp
  split
  · exact .of_eq rfl
  · rw [logPart_otp]
    exact ⟨fun _ _ k => k, fun _ => rfl⟩

/-- Only a slot without a hash is programmed. -/
theorem programSlot_stays (s : State) {o : Otp} (same : s.otp = o) (t : TenantId) (i : Nat) (hash : List Word) :
    o.Stays (s.programSlot t i hash).2.otp := by
  subst same
  unfold State.programSlot
  split
  · exact .of_eq rfl
  next empty =>
    split
    · exact .of_eq rfl
    · rw [logPart_otp]
      refine ⟨fun j h k => ?_, id⟩
      have get : (vmod s.otp.keys i (fun _ => some (wordsToBytes hash)))[j] = if j.val = i then some (wordsToBytes hash) else s.otp.keys[j] :=
        vmod_getElem _ _ _ j
      refine get.trans ?_
      split
      · next same =>
        have value : vget s.otp.keys j.val none = s.otp.keys[j] := dif_pos j.isLt
        rw [← same, value, k] at empty
        exact absurd rfl empty
      · exact k

theorem requestDone_stays (s : State) (selftest : BitVec 4) (us : Word) : s.otp.Stays (s.requestDone selftest us).otp := by
  unfold State.requestDone
  split
  · exact .of_eq rfl
  · dsimp only
    split <;> rw [completeTag_otp]
    case h_3 =>
      refine programSlot_stays _ ?_ _ _ _
      rfl
    case h_4 =>
      refine .of_eq ?_
      rw [State.programFloor, logPart_otp]
    all_goals exact .of_eq rfl

/-- A frame changes the fuses by its op alone. -/
theorem hostFrame_stays {s : State} {x : TenantId} {f : HostFrame} {o : OpSpec} {hasReply unknown : Bool} {act : State → Verdict}
    (h : s.otp.Stays (act s).next.otp) : s.otp.Stays (s.hostFrame x f o hasReply unknown act).otp := by
  unfold State.hostFrame
  split
  · exact .of_eq rfl
  · split
    · exact .of_eq rfl
    · dsimp only
      rw [State.modPort_otp]
      split
      · unfold State.judge
        dsimp only
        split
        · exact h
        · exact .of_eq rfl
      · exact .of_eq rfl

theorem hostLock_stays (s : State) (x : TenantId) (f : HostFrame) : s.otp.Stays (s.hostLock x f).otp := by
  refine hostFrame_stays ?_
  split
  · exact .of_eq rfl
  · exact lockOtp_stays s x

/-- Whatever the command, the fuses stay. -/
theorem exec_otp_stays {c : Instr} {s t : State} (run : exec c s = .next t) : s.otp.Stays t.otp := by
  cases c with
  | supplyReset supply mv ns cut =>
    cases run
    refine .of_eq ?_
    unfold State.supplyReset
    split <;> rfl
  | resetNLow pin ns cut =>
    cases run
    refine .of_eq ?_
    have recognised : (s.recognise ns 500 2000).2.otp = s.otp := congrArg Lasting.otp (s.recognise_lasting ns 500 2000)
    unfold State.resetNLow
    split
    · rfl
    · dsimp only
      split
      · exact recognised
      · exact recognised
  | lock x f =>
    cases run
    split
    · exact hostLock_stays s x f
    · exact .of_eq rfl
  | weighbridgeRequestDone selftest us => cases run; exact requestDone_stays s selftest us
  | _ =>
    obtain ⟨-, -, otp, -⟩ := onlyTheseChange _ s t run rfl
    exact .of_eq (otp nofun nofun)

/-- Settles O58: an update of the counter block settles it and lowers no floor, and a fuse is only ever set. -/
theorem fusesAndFloorsStay : Obligations.FusesAndFloorsStay := by
  refine ⟨⟨CounterBlock.copy_valid _ _, .inr (Nat.lt_succ_self 0)⟩, fun c s t settled run => ?_⟩
  obtain ⟨still, floors⟩ := exec_keeps (F := s.wb.nv.floors) run ⟨settled, fun _ => le_rfl⟩
  obtain ⟨keys, lock⟩ := exec_otp_stays run
  exact ⟨still, keys, lock, floors⟩

end Sys2Proof.Machine
end
